-- ==== Sys2Proof/Word.lean ====
section
/-! DEFINITION. The word types of the machine (00_scope R8, R10): 32-bit words, half-words, bytes, and the 4-bit
register specifier (30_encoding R302). Nothing here computes: the bit-field and byte-order helpers are in
`Sys2Proof/Machine/Bits.lean`. -/

namespace Sys2Proof

/-- A 32-bit register or memory word (00_scope R8). -/
abbrev Word := BitVec 32

/-- A 16-bit half-word (00_scope R10). -/
abbrev Half := BitVec 16

/-- A byte (00_scope R10). -/
abbrev Byte := BitVec 8

/-- A 64-bit double-word (00_scope R10). -/
abbrev Dword := BitVec 64

/-- A register specifier: 16 registers in each file (30_encoding R302). -/
abbrev Reg := BitVec 4

end Sys2Proof
end

