-- ==== Sys2Proof/Syntax.lean ====
section
/-! DEFINITION. The instructions: one constructor per row of spec/opcode_table.json: the rows
with operands in the table's order, then the encoded rows without operands, then the rows without an encoding (Lean
can build compiled values of the first 245 constructors with fields only). The
operand letters are the table's (30_encoding R313): `a`, `b`, `c`, `d` are register specifiers, the other names are
the encoding's constants at their exact width. The rule named beside a constructor gives its meaning. -/

namespace Sys2Proof

/-- A memory operand with its addressing mode (40_addressing_load_store R330): what LD.DD and ST.DD, whose encodings
the spec does not give, take as their operand. -/
inductive MemOp where
  /-- Absolute: the segment in off18[17:14], the low 14 bits of the address in off18[13:0] (R331). -/
  | abs (off18 : BitVec 18)
  /-- Base + short offset (R332). -/
  | off (b : Reg) (off10 : BitVec 10)
  /-- Base + long offset (R332). -/
  | long (b : Reg) (off16 : BitVec 16)
  /-- Post-increment (R335). -/
  | post (b : Reg) (off10 : BitVec 10)
  /-- Pre-increment (R334). -/
  | pre (b : Reg) (off10 : BitVec 10)
  /-- Circular, over the pair P[b] (R337). -/
  | circ (b : Reg) (off10 : BitVec 10)
  /-- Bit-reverse, over the pair P[b] (R340). -/
  | rev (b : Reg)
deriving DecidableEq, Repr

/-- The instructions of spec/opcode_table.json. -/
inductive Instr where
  /-- RESTORE D[a] (SYS), R463. -/
  | restore (a : Reg)
  /-- DISABLE D[a] (SYS), R462. -/
  | disableD (a : Reg)
  /-- BISR const9 (RC), R416. -/
  | bisr (const9 : BitVec 9)
  /-- BISR const8 (SC), R416. -/
  | bisr16 (const8 : BitVec 8)
  /-- SYSCALL const9 (RC), R464. -/
  | syscall (const9 : BitVec 9)
  /-- MFCR D[c], const16 (RLC), R450. -/
  | mfcr (c : Reg) (const16 : BitVec 16)
  /-- MTCR const16, D[a] (RLC), R452. -/
  | mtcr (const16 : BitVec 16) (a : Reg)
  /-- CALL disp24 (B), R411. -/
  | call (disp24 : BitVec 24)
  /-- CALL disp8 (SB), R411. -/
  | call16 (disp8 : BitVec 8)
  /-- CALLA disp24 (B), R412. -/
  | calla (disp24 : BitVec 24)
  /-- CALLI A[a] (RR), R413. -/
  | calli (a : Reg)
  /-- FCALL disp24 (B), R420. -/
  | fcall (disp24 : BitVec 24)
  /-- FCALLA disp24 (B), R421. -/
  | fcalla (disp24 : BitVec 24)
  /-- FCALLI A[a] (RR), R422. -/
  | fcalli (a : Reg)
  /-- JL disp24 (B), R500. -/
  | jl (disp24 : BitVec 24)
  /-- JZ.T D[a], n, disp15 (BRN), R499. -/
  | jzT (a : Reg) (n : BitVec 5) (disp15 : BitVec 15)
  /-- JZ.T D[15], n, disp4 (SBRN), R499. -/
  | jzT16 (n : BitVec 4) (disp4 : BitVec 4)
  /-- STLCX off18 (ABS), R424. -/
  | stlcxAbs (off18 : BitVec 18)
  /-- STUCX off18 (ABS), R425. -/
  | stucxAbs (off18 : BitVec 18)
  /-- LDLCX off18 (ABS), R426. -/
  | ldlcxAbs (off18 : BitVec 18)
  /-- LDUCX off18 (ABS), R427. -/
  | lducxAbs (off18 : BitVec 18)
  /-- LDLCX [A[b]]off10 (BO), R426. -/
  | ldlcxOff (b : Reg) (off10 : BitVec 10)
  /-- LDUCX [A[b]]off10 (BO), R427. -/
  | lducxOff (b : Reg) (off10 : BitVec 10)
  /-- STLCX [A[b]]off10 (BO), R424. -/
  | stlcxOff (b : Reg) (off10 : BitVec 10)
  /-- STUCX [A[b]]off10 (BO), R425. -/
  | stucxOff (b : Reg) (off10 : BitVec 10)
  /-- LEA A[a], [A[b]]off10 (BO), R366. -/
  | leaOff (a : Reg) (b : Reg) (off10 : BitVec 10)
  /-- LEA A[a], off18 (ABS), R366. -/
  | leaAbs (a : Reg) (off18 : BitVec 18)
  /-- LEA A[a], [A[b]]off16 (BOL), R366. -/
  | leaLong (a : Reg) (b : Reg) (off16 : BitVec 16)
  /-- SWAP.W [A[b]]off10, D[a] (BO), R361. -/
  | swapWOff (b : Reg) (off10 : BitVec 10) (a : Reg)
  /-- SWAP.W [A[b]+]off10, D[a] (BO), R361. -/
  | swapWPost (b : Reg) (off10 : BitVec 10) (a : Reg)
  /-- SWAP.W [+A[b]]off10, D[a] (BO), R361. -/
  | swapWPre (b : Reg) (off10 : BitVec 10) (a : Reg)
  /-- SWAP.W [P[b]+r], D[a] (BO), R361. -/
  | swapWRev (b : Reg) (a : Reg)
  /-- SWAP.W [P[b]+c]off10, D[a] (BO), R361. -/
  | swapWCirc (b : Reg) (off10 : BitVec 10) (a : Reg)
  /-- LDMST [A[b]]off10, E[a] (BO), R360. -/
  | ldmstOff (b : Reg) (off10 : BitVec 10) (a : Reg)
  /-- LDMST [A[b]+]off10, E[a] (BO), R360. -/
  | ldmstPost (b : Reg) (off10 : BitVec 10) (a : Reg)
  /-- LDMST [+A[b]]off10, E[a] (BO), R360. -/
  | ldmstPre (b : Reg) (off10 : BitVec 10) (a : Reg)
  /-- LDMST [P[b]+r], E[a] (BO), R360. -/
  | ldmstRev (b : Reg) (a : Reg)
  /-- LDMST [P[b]+c]off10, E[a] (BO), R360. -/
  | ldmstCirc (b : Reg) (off10 : BitVec 10) (a : Reg)
  /-- SWAPMSK.W [A[b]]off10, E[a] (BO), R364. -/
  | swapmskWOff (b : Reg) (off10 : BitVec 10) (a : Reg)
  /-- SWAPMSK.W [A[b]+]off10, E[a] (BO), R364. -/
  | swapmskWPost (b : Reg) (off10 : BitVec 10) (a : Reg)
  /-- SWAPMSK.W [+A[b]]off10, E[a] (BO), R364. -/
  | swapmskWPre (b : Reg) (off10 : BitVec 10) (a : Reg)
  /-- SWAPMSK.W [P[b]+r], E[a] (BO), R364. -/
  | swapmskWRev (b : Reg) (a : Reg)
  /-- SWAPMSK.W [P[b]+c]off10, E[a] (BO), R364. -/
  | swapmskWCirc (b : Reg) (off10 : BitVec 10) (a : Reg)
  /-- CMPSWAP.W [A[b]]off10, E[a] (BO), R363. -/
  | cmpswapWOff (b : Reg) (off10 : BitVec 10) (a : Reg)
  /-- CMPSWAP.W [A[b]+]off10, E[a] (BO), R363. -/
  | cmpswapWPost (b : Reg) (off10 : BitVec 10) (a : Reg)
  /-- CMPSWAP.W [+A[b]]off10, E[a] (BO), R363. -/
  | cmpswapWPre (b : Reg) (off10 : BitVec 10) (a : Reg)
  /-- CMPSWAP.W [P[b]+r], E[a] (BO), R363. -/
  | cmpswapWRev (b : Reg) (a : Reg)
  /-- CMPSWAP.W [P[b]+c]off10, E[a] (BO), R363. -/
  | cmpswapWCirc (b : Reg) (off10 : BitVec 10) (a : Reg)
  /-- SWAP.W off18, D[a] (ABS), R361. -/
  | swapWAbs (off18 : BitVec 18) (a : Reg)
  /-- LDMST off18, E[a] (ABS), R360. -/
  | ldmstAbs (off18 : BitVec 18) (a : Reg)
  /-- ST.T off18, bpos3, b (ABSB), R362. -/
  | stT (off18 : BitVec 18) (bpos3 : BitVec 3) (b : BitVec 1)
  /-- LD.B D[a], off18 (ABS), R343. -/
  | ldBAbs (a : Reg) (off18 : BitVec 18)
  /-- LD.B D[a], [A[b]]off10 (BO), R343. -/
  | ldBOff (a : Reg) (b : Reg) (off10 : BitVec 10)
  /-- LD.B D[a], [A[b]+]off10 (BO), R343. -/
  | ldBPost (a : Reg) (b : Reg) (off10 : BitVec 10)
  /-- LD.B D[a], [+A[b]]off10 (BO), R343. -/
  | ldBPre (a : Reg) (b : Reg) (off10 : BitVec 10)
  /-- LD.B D[a], [P[b]+r] (BO), R343. -/
  | ldBRev (a : Reg) (b : Reg)
  /-- LD.B D[a], [P[b]+c]off10 (BO), R343. -/
  | ldBCirc (a : Reg) (b : Reg) (off10 : BitVec 10)
  /-- LD.BU D[a], off18 (ABS), R344. -/
  | ldBuAbs (a : Reg) (off18 : BitVec 18)
  /-- LD.BU D[a], [A[b]]off10 (BO), R344. -/
  | ldBuOff (a : Reg) (b : Reg) (off10 : BitVec 10)
  /-- LD.BU D[a], [A[b]+]off10 (BO), R344. -/
  | ldBuPost (a : Reg) (b : Reg) (off10 : BitVec 10)
  /-- LD.BU D[a], [+A[b]]off10 (BO), R344. -/
  | ldBuPre (a : Reg) (b : Reg) (off10 : BitVec 10)
  /-- LD.BU D[a], [P[b]+r] (BO), R344. -/
  | ldBuRev (a : Reg) (b : Reg)
  /-- LD.BU D[a], [P[b]+c]off10 (BO), R344. -/
  | ldBuCirc (a : Reg) (b : Reg) (off10 : BitVec 10)
  /-- LD.H D[a], off18 (ABS), R345. -/
  | ldHAbs (a : Reg) (off18 : BitVec 18)
  /-- LD.H D[a], [A[b]]off10 (BO), R345. -/
  | ldHOff (a : Reg) (b : Reg) (off10 : BitVec 10)
  /-- LD.H D[a], [A[b]+]off10 (BO), R345. -/
  | ldHPost (a : Reg) (b : Reg) (off10 : BitVec 10)
  /-- LD.H D[a], [+A[b]]off10 (BO), R345. -/
  | ldHPre (a : Reg) (b : Reg) (off10 : BitVec 10)
  /-- LD.H D[a], [P[b]+r] (BO), R345. -/
  | ldHRev (a : Reg) (b : Reg)
  /-- LD.H D[a], [P[b]+c]off10 (BO), R345. -/
  | ldHCirc (a : Reg) (b : Reg) (off10 : BitVec 10)
  /-- LD.HU D[a], off18 (ABS), R346. -/
  | ldHuAbs (a : Reg) (off18 : BitVec 18)
  /-- LD.HU D[a], [A[b]]off10 (BO), R346. -/
  | ldHuOff (a : Reg) (b : Reg) (off10 : BitVec 10)
  /-- LD.HU D[a], [A[b]+]off10 (BO), R346. -/
  | ldHuPost (a : Reg) (b : Reg) (off10 : BitVec 10)
  /-- LD.HU D[a], [+A[b]]off10 (BO), R346. -/
  | ldHuPre (a : Reg) (b : Reg) (off10 : BitVec 10)
  /-- LD.HU D[a], [P[b]+r] (BO), R346. -/
  | ldHuRev (a : Reg) (b : Reg)
  /-- LD.HU D[a], [P[b]+c]off10 (BO), R346. -/
  | ldHuCirc (a : Reg) (b : Reg) (off10 : BitVec 10)
  /-- LD.W D[a], off18 (ABS), R347. -/
  | ldWAbs (a : Reg) (off18 : BitVec 18)
  /-- LD.W D[a], [A[b]]off10 (BO), R347. -/
  | ldWOff (a : Reg) (b : Reg) (off10 : BitVec 10)
  /-- LD.W D[a], [A[b]+]off10 (BO), R347. -/
  | ldWPost (a : Reg) (b : Reg) (off10 : BitVec 10)
  /-- LD.W D[a], [+A[b]]off10 (BO), R347. -/
  | ldWPre (a : Reg) (b : Reg) (off10 : BitVec 10)
  /-- LD.W D[a], [P[b]+r] (BO), R347. -/
  | ldWRev (a : Reg) (b : Reg)
  /-- LD.W D[a], [P[b]+c]off10 (BO), R347. -/
  | ldWCirc (a : Reg) (b : Reg) (off10 : BitVec 10)
  /-- LD.D E[a], off18 (ABS), R348. -/
  | ldDAbs (a : Reg) (off18 : BitVec 18)
  /-- LD.D E[a], [A[b]]off10 (BO), R348. -/
  | ldDOff (a : Reg) (b : Reg) (off10 : BitVec 10)
  /-- LD.D E[a], [A[b]+]off10 (BO), R348. -/
  | ldDPost (a : Reg) (b : Reg) (off10 : BitVec 10)
  /-- LD.D E[a], [+A[b]]off10 (BO), R348. -/
  | ldDPre (a : Reg) (b : Reg) (off10 : BitVec 10)
  /-- LD.D E[a], [P[b]+r] (BO), R348. -/
  | ldDRev (a : Reg) (b : Reg)
  /-- LD.D E[a], [P[b]+c]off10 (BO), R348. -/
  | ldDCirc (a : Reg) (b : Reg) (off10 : BitVec 10)
  /-- LD.A A[a], off18 (ABS), R349. -/
  | ldAAbs (a : Reg) (off18 : BitVec 18)
  /-- LD.A A[a], [A[b]]off10 (BO), R349. -/
  | ldAOff (a : Reg) (b : Reg) (off10 : BitVec 10)
  /-- LD.A A[a], [A[b]+]off10 (BO), R349. -/
  | ldAPost (a : Reg) (b : Reg) (off10 : BitVec 10)
  /-- LD.A A[a], [+A[b]]off10 (BO), R349. -/
  | ldAPre (a : Reg) (b : Reg) (off10 : BitVec 10)
  /-- LD.A A[a], [P[b]+r] (BO), R349. -/
  | ldARev (a : Reg) (b : Reg)
  /-- LD.A A[a], [P[b]+c]off10 (BO), R349. -/
  | ldACirc (a : Reg) (b : Reg) (off10 : BitVec 10)
  /-- LD.DA P[a], off18 (ABS), R350. -/
  | ldDaAbs (a : Reg) (off18 : BitVec 18)
  /-- LD.DA P[a], [A[b]]off10 (BO), R350. -/
  | ldDaOff (a : Reg) (b : Reg) (off10 : BitVec 10)
  /-- LD.DA P[a], [A[b]+]off10 (BO), R350. -/
  | ldDaPost (a : Reg) (b : Reg) (off10 : BitVec 10)
  /-- LD.DA P[a], [+A[b]]off10 (BO), R350. -/
  | ldDaPre (a : Reg) (b : Reg) (off10 : BitVec 10)
  /-- LD.DA P[a], [P[b]+r] (BO), R350. -/
  | ldDaRev (a : Reg) (b : Reg)
  /-- LD.DA P[a], [P[b]+c]off10 (BO), R350. -/
  | ldDaCirc (a : Reg) (b : Reg) (off10 : BitVec 10)
  /-- LD.W D[a], [A[b]]off16 (BOL), R347. -/
  | ldWLong (a : Reg) (b : Reg) (off16 : BitVec 16)
  /-- LD.A A[a], [A[b]]off16 (BOL), R349. -/
  | ldALong (a : Reg) (b : Reg) (off16 : BitVec 16)
  /-- LD.B D[a], [A[b]]off16 (BOL), R343. -/
  | ldBLong (a : Reg) (b : Reg) (off16 : BitVec 16)
  /-- LD.BU D[a], [A[b]]off16 (BOL), R344. -/
  | ldBuLong (a : Reg) (b : Reg) (off16 : BitVec 16)
  /-- LD.H D[a], [A[b]]off16 (BOL), R345. -/
  | ldHLong (a : Reg) (b : Reg) (off16 : BitVec 16)
  /-- LD.HU D[a], [A[b]]off16 (BOL), R346. -/
  | ldHuLong (a : Reg) (b : Reg) (off16 : BitVec 16)
  /-- ST.B off18, D[a] (ABS), R352. -/
  | stBAbs (off18 : BitVec 18) (a : Reg)
  /-- ST.B [A[b]]off10, D[a] (BO), R352. -/
  | stBOff (b : Reg) (off10 : BitVec 10) (a : Reg)
  /-- ST.B [A[b]+]off10, D[a] (BO), R352. -/
  | stBPost (b : Reg) (off10 : BitVec 10) (a : Reg)
  /-- ST.B [+A[b]]off10, D[a] (BO), R352. -/
  | stBPre (b : Reg) (off10 : BitVec 10) (a : Reg)
  /-- ST.B [P[b]+r], D[a] (BO), R352. -/
  | stBRev (b : Reg) (a : Reg)
  /-- ST.B [P[b]+c]off10, D[a] (BO), R352. -/
  | stBCirc (b : Reg) (off10 : BitVec 10) (a : Reg)
  /-- ST.H off18, D[a] (ABS), R353. -/
  | stHAbs (off18 : BitVec 18) (a : Reg)
  /-- ST.H [A[b]]off10, D[a] (BO), R353. -/
  | stHOff (b : Reg) (off10 : BitVec 10) (a : Reg)
  /-- ST.H [A[b]+]off10, D[a] (BO), R353. -/
  | stHPost (b : Reg) (off10 : BitVec 10) (a : Reg)
  /-- ST.H [+A[b]]off10, D[a] (BO), R353. -/
  | stHPre (b : Reg) (off10 : BitVec 10) (a : Reg)
  /-- ST.H [P[b]+r], D[a] (BO), R353. -/
  | stHRev (b : Reg) (a : Reg)
  /-- ST.H [P[b]+c]off10, D[a] (BO), R353. -/
  | stHCirc (b : Reg) (off10 : BitVec 10) (a : Reg)
  /-- ST.W off18, D[a] (ABS), R354. -/
  | stWAbs (off18 : BitVec 18) (a : Reg)
  /-- ST.W [A[b]]off10, D[a] (BO), R354. -/
  | stWOff (b : Reg) (off10 : BitVec 10) (a : Reg)
  /-- ST.W [A[b]+]off10, D[a] (BO), R354. -/
  | stWPost (b : Reg) (off10 : BitVec 10) (a : Reg)
  /-- ST.W [+A[b]]off10, D[a] (BO), R354. -/
  | stWPre (b : Reg) (off10 : BitVec 10) (a : Reg)
  /-- ST.W [P[b]+r], D[a] (BO), R354. -/
  | stWRev (b : Reg) (a : Reg)
  /-- ST.W [P[b]+c]off10, D[a] (BO), R354. -/
  | stWCirc (b : Reg) (off10 : BitVec 10) (a : Reg)
  /-- ST.D off18, E[a] (ABS), R355. -/
  | stDAbs (off18 : BitVec 18) (a : Reg)
  /-- ST.D [A[b]]off10, E[a] (BO), R355. -/
  | stDOff (b : Reg) (off10 : BitVec 10) (a : Reg)
  /-- ST.D [A[b]+]off10, E[a] (BO), R355. -/
  | stDPost (b : Reg) (off10 : BitVec 10) (a : Reg)
  /-- ST.D [+A[b]]off10, E[a] (BO), R355. -/
  | stDPre (b : Reg) (off10 : BitVec 10) (a : Reg)
  /-- ST.D [P[b]+r], E[a] (BO), R355. -/
  | stDRev (b : Reg) (a : Reg)
  /-- ST.D [P[b]+c]off10, E[a] (BO), R355. -/
  | stDCirc (b : Reg) (off10 : BitVec 10) (a : Reg)
  /-- ST.A off18, A[a] (ABS), R356. -/
  | stAAbs (off18 : BitVec 18) (a : Reg)
  /-- ST.A [A[b]]off10, A[a] (BO), R356. -/
  | stAOff (b : Reg) (off10 : BitVec 10) (a : Reg)
  /-- ST.A [A[b]+]off10, A[a] (BO), R356. -/
  | stAPost (b : Reg) (off10 : BitVec 10) (a : Reg)
  /-- ST.A [+A[b]]off10, A[a] (BO), R356. -/
  | stAPre (b : Reg) (off10 : BitVec 10) (a : Reg)
  /-- ST.A [P[b]+r], A[a] (BO), R356. -/
  | stARev (b : Reg) (a : Reg)
  /-- ST.A [P[b]+c]off10, A[a] (BO), R356. -/
  | stACirc (b : Reg) (off10 : BitVec 10) (a : Reg)
  /-- ST.DA off18, P[a] (ABS), R357. -/
  | stDaAbs (off18 : BitVec 18) (a : Reg)
  /-- ST.DA [A[b]]off10, P[a] (BO), R357. -/
  | stDaOff (b : Reg) (off10 : BitVec 10) (a : Reg)
  /-- ST.DA [A[b]+]off10, P[a] (BO), R357. -/
  | stDaPost (b : Reg) (off10 : BitVec 10) (a : Reg)
  /-- ST.DA [+A[b]]off10, P[a] (BO), R357. -/
  | stDaPre (b : Reg) (off10 : BitVec 10) (a : Reg)
  /-- ST.DA [P[b]+r], P[a] (BO), R357. -/
  | stDaRev (b : Reg) (a : Reg)
  /-- ST.DA [P[b]+c]off10, P[a] (BO), R357. -/
  | stDaCirc (b : Reg) (off10 : BitVec 10) (a : Reg)
  /-- ST.W [A[b]]off16, D[a] (BOL), R354. -/
  | stWLong (b : Reg) (off16 : BitVec 16) (a : Reg)
  /-- ST.A [A[b]]off16, A[a] (BOL), R356. -/
  | stALong (b : Reg) (off16 : BitVec 16) (a : Reg)
  /-- ST.B [A[b]]off16, D[a] (BOL), R352. -/
  | stBLong (b : Reg) (off16 : BitVec 16) (a : Reg)
  /-- ST.H [A[b]]off16, D[a] (BOL), R353. -/
  | stHLong (b : Reg) (off16 : BitVec 16) (a : Reg)
  /-- CACHEA.W [A[b]]off10 (BO), R468. -/
  | cacheaWOff (b : Reg) (off10 : BitVec 10)
  /-- CACHEA.W [A[b]+]off10 (BO), R468. -/
  | cacheaWPost (b : Reg) (off10 : BitVec 10)
  /-- CACHEA.W [+A[b]]off10 (BO), R468. -/
  | cacheaWPre (b : Reg) (off10 : BitVec 10)
  /-- CACHEA.WI [A[b]]off10 (BO), R468. -/
  | cacheaWiOff (b : Reg) (off10 : BitVec 10)
  /-- CACHEA.WI [A[b]+]off10 (BO), R468. -/
  | cacheaWiPost (b : Reg) (off10 : BitVec 10)
  /-- CACHEA.WI [+A[b]]off10 (BO), R468. -/
  | cacheaWiPre (b : Reg) (off10 : BitVec 10)
  /-- CACHEA.I [A[b]]off10 (BO), R468. -/
  | cacheaIOff (b : Reg) (off10 : BitVec 10)
  /-- CACHEA.I [A[b]+]off10 (BO), R468. -/
  | cacheaIPost (b : Reg) (off10 : BitVec 10)
  /-- CACHEA.I [+A[b]]off10 (BO), R468. -/
  | cacheaIPre (b : Reg) (off10 : BitVec 10)
  /-- CACHEI.W [A[b]]off10 (BO), R468. -/
  | cacheiWOff (b : Reg) (off10 : BitVec 10)
  /-- CACHEI.W [A[b]+]off10 (BO), R468. -/
  | cacheiWPost (b : Reg) (off10 : BitVec 10)
  /-- CACHEI.W [+A[b]]off10 (BO), R468. -/
  | cacheiWPre (b : Reg) (off10 : BitVec 10)
  /-- CACHEI.I [A[b]]off10 (BO), R468. -/
  | cacheiIOff (b : Reg) (off10 : BitVec 10)
  /-- CACHEI.I [A[b]+]off10 (BO), R468. -/
  | cacheiIPost (b : Reg) (off10 : BitVec 10)
  /-- CACHEI.I [+A[b]]off10 (BO), R468. -/
  | cacheiIPre (b : Reg) (off10 : BitVec 10)
  /-- CACHEI.WI [A[b]]off10 (BO), R468. -/
  | cacheiWiOff (b : Reg) (off10 : BitVec 10)
  /-- CACHEI.WI [A[b]+]off10 (BO), R468. -/
  | cacheiWiPost (b : Reg) (off10 : BitVec 10)
  /-- CACHEI.WI [+A[b]]off10 (BO), R468. -/
  | cacheiWiPre (b : Reg) (off10 : BitVec 10)
  /-- ADD D[c], D[a], D[b] (RR), R495. -/
  | add (c : Reg) (a : Reg) (b : Reg)
  /-- ADD D[c], D[a], const9 (RC), R495. -/
  | addC (c : Reg) (a : Reg) (const9 : BitVec 9)
  /-- ADDX D[c], D[a], D[b] (RR), R496. -/
  | addx (c : Reg) (a : Reg) (b : Reg)
  /-- ADDX D[c], D[a], const9 (RC), R496. -/
  | addxC (c : Reg) (a : Reg) (const9 : BitVec 9)
  /-- ADDC D[c], D[a], D[b] (RR), R497. -/
  | addc (c : Reg) (a : Reg) (b : Reg)
  /-- ADDC D[c], D[a], const9 (RC), R497. -/
  | addcC (c : Reg) (a : Reg) (const9 : BitVec 9)
  /-- ADDSC.A A[c], A[b], D[a], n (RR), R367. -/
  | addscA (c : Reg) (b : Reg) (a : Reg) (n : BitVec 2)
  /-- ADDSC.AT A[c], A[b], D[a] (RR), R368. -/
  | addscAt (c : Reg) (b : Reg) (a : Reg)
  /-- EXTR.U D[c], D[a], pos, width (RRPW), R498. -/
  | extrU (c : Reg) (a : Reg) (pos : BitVec 5) (width : BitVec 5)
  /-- EXTR.U D[c], D[a], E[d] (RRRR), R498. -/
  | extrUReg (c : Reg) (a : Reg) (d : Reg)
  /-- EXTR.U D[c], D[a], D[d], width (RRRW), R498. -/
  | extrUWidth (c : Reg) (a : Reg) (d : Reg) (width : BitVec 5)
  /-- ADD.F D[c], D[d], D[a] (RRR), R564. -/
  | addF (c : Reg) (d : Reg) (a : Reg)
  /-- SUB.F D[c], D[d], D[a] (RRR), R565. -/
  | subF (c : Reg) (d : Reg) (a : Reg)
  /-- MADD.F D[c], D[d], D[a], D[b] (RRR), R568. -/
  | maddF (c : Reg) (d : Reg) (a : Reg) (b : Reg)
  /-- MSUB.F D[c], D[d], D[a], D[b] (RRR), R569. -/
  | msubF (c : Reg) (d : Reg) (a : Reg) (b : Reg)
  /-- CMP.F D[c], D[a], D[b] (RR), R570. -/
  | cmpF (c : Reg) (a : Reg) (b : Reg)
  /-- MUL.F D[c], D[a], D[b] (RR), R566. -/
  | mulF (c : Reg) (a : Reg) (b : Reg)
  /-- DIV.F D[c], D[a], D[b] (RR), R567. -/
  | divF (c : Reg) (a : Reg) (b : Reg)
  /-- UPDFL D[a] (RR), R586. -/
  | updfl (a : Reg)
  /-- FTOI D[c], D[a] (RR), R576. -/
  | ftoi (c : Reg) (a : Reg)
  /-- FTOQ31 D[c], D[a], D[b] (RR), R581. -/
  | ftoq31 (c : Reg) (a : Reg) (b : Reg)
  /-- FTOU D[c], D[a] (RR), R579. -/
  | ftou (c : Reg) (a : Reg)
  /-- FTOIZ D[c], D[a] (RR), R578. -/
  | ftoiz (c : Reg) (a : Reg)
  /-- ITOF D[c], D[a] (RR), R583. -/
  | itof (c : Reg) (a : Reg)
  /-- Q31TOF D[c], D[a], D[b] (RR), R585. -/
  | q31tof (c : Reg) (a : Reg) (b : Reg)
  /-- UTOF D[c], D[a] (RR), R584. -/
  | utof (c : Reg) (a : Reg)
  /-- FTOUZ D[c], D[a] (RR), R580. -/
  | ftouz (c : Reg) (a : Reg)
  /-- FTOQ31Z D[c], D[a], D[b] (RR), R582. -/
  | ftoq31z (c : Reg) (a : Reg) (b : Reg)
  /-- QSEED.F D[c], D[a] (RR), R571. -/
  | qseedF (c : Reg) (a : Reg)
  /-- HPTOF D[c], D[a] (RR), R587. -/
  | hptof (c : Reg) (a : Reg)
  /-- FTOHP D[c], D[a] (RR), R588. -/
  | ftohp (c : Reg) (a : Reg)
  /-- MOV D[c], const16 (RLC), R981. -/
  | movConst (c : Reg) (const16 : BitVec 16)
  /-- MOVH D[c], const16 (RLC), R982. -/
  | movh (c : Reg) (const16 : BitVec 16)
  /-- MOVH.A A[c], const16 (RLC), R983. -/
  | movhA (c : Reg) (const16 : BitVec 16)
  /-- ADDI D[c], D[a], const16 (RLC), R984. -/
  | addi (c : Reg) (a : Reg) (const16 : BitVec 16)
  /-- MOV D[c], D[b] (RR), R985. -/
  | mov (c : Reg) (b : Reg)
  /-- MOV.A A[c], D[b] (RR), R986. -/
  | movA (c : Reg) (b : Reg)
  /-- MOV.D D[c], A[b] (RR), R987. -/
  | movD (c : Reg) (b : Reg)
  /-- MOV.AA A[c], A[b] (RR), R988. -/
  | movAa (c : Reg) (b : Reg)
  /-- SUB D[c], D[a], D[b] (RR), R989. -/
  | sub (c : Reg) (a : Reg) (b : Reg)
  /-- AND D[c], D[a], D[b] (RR), R990. -/
  | and (c : Reg) (a : Reg) (b : Reg)
  /-- AND D[c], D[a], const9 (RC), R990. -/
  | andC (c : Reg) (a : Reg) (const9 : BitVec 9)
  /-- OR D[c], D[a], D[b] (RR), R990. -/
  | or (c : Reg) (a : Reg) (b : Reg)
  /-- OR D[c], D[a], const9 (RC), R990. -/
  | orC (c : Reg) (a : Reg) (const9 : BitVec 9)
  /-- XOR D[c], D[a], D[b] (RR), R990. -/
  | xor (c : Reg) (a : Reg) (b : Reg)
  /-- XOR D[c], D[a], const9 (RC), R990. -/
  | xorC (c : Reg) (a : Reg) (const9 : BitVec 9)
  /-- EQ D[c], D[a], D[b] (RR), R991. -/
  | eq (c : Reg) (a : Reg) (b : Reg)
  /-- EQ D[c], D[a], const9 (RC), R991. -/
  | eqC (c : Reg) (a : Reg) (const9 : BitVec 9)
  /-- LT D[c], D[a], D[b] (RR), R991. -/
  | lt (c : Reg) (a : Reg) (b : Reg)
  /-- LT D[c], D[a], const9 (RC), R991. -/
  | ltC (c : Reg) (a : Reg) (const9 : BitVec 9)
  /-- J disp24 (B), R992. -/
  | j (disp24 : BitVec 24)
  /-- JA disp24 (B), R993. -/
  | ja (disp24 : BitVec 24)
  /-- JLA disp24 (B), R993. -/
  | jla (disp24 : BitVec 24)
  /-- JI A[a] (RR), R994. -/
  | ji (a : Reg)
  /-- JLI A[a] (RR), R994. -/
  | jli (a : Reg)
  /-- JEQ D[a], D[b], disp15 (BRR), R995. -/
  | jeq (a : Reg) (b : Reg) (disp15 : BitVec 15)
  /-- JEQ D[a], const4, disp15 (BRC), R995. -/
  | jeqC (a : Reg) (const4 : BitVec 4) (disp15 : BitVec 15)
  /-- JNE D[a], D[b], disp15 (BRR), R995. -/
  | jne (a : Reg) (b : Reg) (disp15 : BitVec 15)
  /-- JNE D[a], const4, disp15 (BRC), R995. -/
  | jneC (a : Reg) (const4 : BitVec 4) (disp15 : BitVec 15)
  /-- JNZ.T D[a], n, disp15 (BRN), R996. -/
  | jnzT (a : Reg) (n : BitVec 5) (disp15 : BitVec 15)
  /-- LOOP A[b], disp15 (BRR), R997. -/
  | loop (b : Reg) (disp15 : BitVec 15)
  /-- MOV D[a], const4 (SRC), R998. -/
  | mov16C (a : Reg) (const4 : BitVec 4)
  /-- MOV D[a], D[b] (SRR), R998. -/
  | mov16R (a : Reg) (b : Reg)
  /-- ADD D[a], const4 (SRC), R999. -/
  | add16C (a : Reg) (const4 : BitVec 4)
  /-- ADD D[a], D[b] (SRR), R999. -/
  | add16R (a : Reg) (b : Reg)
  /-- LD.W D[c], [A[b]] (SLR), R1000. -/
  | ldW16 (c : Reg) (b : Reg)
  /-- ST.W [A[b]], D[a] (SSR), R1000. -/
  | stW16 (b : Reg) (a : Reg)
  /-- NOP (SYS), R467. -/
  | nop
  /-- FRET (SYS), R423. -/
  | fret
  /-- DEBUG (SYS), R469. -/
  | debug
  /-- RFM (SYS), R470. -/
  | rfm
  /-- RET (SYS), R414. -/
  | ret
  /-- RFE (SYS), R415. -/
  | rfe
  /-- SVLCX (SYS), R417. -/
  | svlcx
  /-- RSLCX (SYS), R418. -/
  | rslcx
  /-- ENABLE (SYS), R461. -/
  | enable
  /-- DISABLE (SYS), R462. -/
  | disable
  /-- DSYNC (SYS), R460. -/
  | dsync
  /-- ISYNC (SYS), R459. -/
  | isync
  /-- TRAPV (SYS), R465. -/
  | trapv
  /-- TRAPSV (SYS), R466. -/
  | trapsv
  /-- NOP (SR), R467. -/
  | nop16
  /-- FRET (SR), R423. -/
  | fret16
  /-- RFE (SR), R415. -/
  | rfe16
  /-- RET (SR), R414. -/
  | ret16
  /-- DEBUG (SR), R469. -/
  | debug16
  /-- MFDCR E[c], const16 (no encoding), R453. -/
  | mfdcr (c : Reg) (const16 : BitVec 16)
  /-- MTDCR const16, E[a] (no encoding), R454. -/
  | mtdcr (const16 : BitVec 16) (a : Reg)
  /-- HVCALL const8 (no encoding), R471. -/
  | hvcall (const8 : BitVec 8)
  /-- RFH (no encoding), R472. -/
  | rfh
  /-- JRI A[a] (no encoding), R501. -/
  | jri (a : Reg)
  /-- TRAPINV (no encoding), R476. -/
  | trapinv
  /-- LD.DD Q[a], memory operand (no encoding), R351. -/
  | ldDd (a : Reg) (mem : MemOp)
  /-- ST.DD memory operand, Q[a] (no encoding), R358. -/
  | stDd (mem : MemOp) (a : Reg)
  /-- ABS.F D[c], D[a] (no encoding), R572. -/
  | absF (c : Reg) (a : Reg)
  /-- NEG.F D[c], D[a] (no encoding), R573. -/
  | negF (c : Reg) (a : Reg)
  /-- MIN.F D[c], D[a], D[b] (no encoding), R574. -/
  | minF (c : Reg) (a : Reg) (b : Reg)
  /-- MAX.F D[c], D[a], D[b] (no encoding), R575. -/
  | maxF (c : Reg) (a : Reg) (b : Reg)
  /-- FTOIN D[c], D[a] (no encoding), R577. -/
  | ftoin (c : Reg) (a : Reg)
  /-- ADD.DF (no encoding), R601. -/
  | addDf (c : Reg) (d : Reg) (a : Reg)
  /-- SUB.DF (no encoding), R602. -/
  | subDf (c : Reg) (d : Reg) (a : Reg)
  /-- MUL.DF (no encoding), R603. -/
  | mulDf (c : Reg) (a : Reg) (b : Reg)
  /-- DIV.DF (no encoding), R604. -/
  | divDf (c : Reg) (a : Reg) (b : Reg)
  /-- MADD.DF (no encoding), R605. -/
  | maddDf (c : Reg) (d : Reg) (a : Reg) (b : Reg)
  /-- MSUB.DF (no encoding), R606. -/
  | msubDf (c : Reg) (d : Reg) (a : Reg) (b : Reg)
  /-- CMP.DF (no encoding), R607. -/
  | cmpDf (c : Reg) (a : Reg) (b : Reg)
  /-- QSEED.DF (no encoding), R608. -/
  | qseedDf (c : Reg) (a : Reg)
  /-- DFTOI (no encoding), R609. -/
  | dftoi (c : Reg) (a : Reg)
  /-- DFTOIN (no encoding), R610. -/
  | dftoin (c : Reg) (a : Reg)
  /-- DFTOIZ (no encoding), R611. -/
  | dftoiz (c : Reg) (a : Reg)
  /-- DFTOU (no encoding), R612. -/
  | dftou (c : Reg) (a : Reg)
  /-- DFTOUZ (no encoding), R613. -/
  | dftouz (c : Reg) (a : Reg)
  /-- DFTOL (no encoding), R614. -/
  | dftol (c : Reg) (a : Reg)
  /-- DFTOLZ (no encoding), R615. -/
  | dftolz (c : Reg) (a : Reg)
  /-- DFTOUL (no encoding), R616. -/
  | dftoul (c : Reg) (a : Reg)
  /-- DFTOULZ (no encoding), R617. -/
  | dftoulz (c : Reg) (a : Reg)
  /-- LTODF (no encoding), R618. -/
  | ltodf (c : Reg) (a : Reg)
deriving DecidableEq, Repr

end Sys2Proof
end

