-- ==== Sys2Proof/Decode.lean ====
section
/-! DEFINITION. The decoder and, after it, the encoder (30_encoding R312 to R319). The formats, field positions and
opcode values are those of spec/opcode_table.json, which the spec marks as general knowledge (PRESUMED,
notes/assumptions/1.md). A reserved bit of a word is ignored by the decoder, as the table's masks do (R318), and 0 in
the encoder's words. The 31 rows without an encoding are decoded from no word (92 D39, notes/assumptions/23.md). -/

namespace Sys2Proof

/-! ## The fields of a word, format by format (R313, R314) -/

/-- op2 of format SYS. -/
def Sys.op2 (w : BitVec 32) : BitVec 6 := w.extractLsb' 22 6
/-- a of format SYS. -/
def Sys.a (w : BitVec 32) : BitVec 4 := w.extractLsb' 8 4
/-- op1 of format SYS. -/
def Sys.op1 (w : BitVec 32) : BitVec 8 := w.extractLsb' 0 8

/-- op2 of format SR. -/
def Sr.op2 (w : BitVec 16) : BitVec 4 := w.extractLsb' 12 4
/-- a of format SR. -/
def Sr.a (w : BitVec 16) : BitVec 4 := w.extractLsb' 8 4
/-- op1 of format SR. -/
def Sr.op1 (w : BitVec 16) : BitVec 8 := w.extractLsb' 0 8

/-- c of format RC. -/
def Rc.c (w : BitVec 32) : BitVec 4 := w.extractLsb' 28 4
/-- op2 of format RC. -/
def Rc.op2 (w : BitVec 32) : BitVec 7 := w.extractLsb' 21 7
/-- const9 of format RC. -/
def Rc.const9 (w : BitVec 32) : BitVec 9 := w.extractLsb' 12 9
/-- a of format RC. -/
def Rc.a (w : BitVec 32) : BitVec 4 := w.extractLsb' 8 4
/-- op1 of format RC. -/
def Rc.op1 (w : BitVec 32) : BitVec 8 := w.extractLsb' 0 8

/-- const8 of format SC. -/
def Sc.const8 (w : BitVec 16) : BitVec 8 := w.extractLsb' 8 8
/-- op1 of format SC. -/
def Sc.op1 (w : BitVec 16) : BitVec 8 := w.extractLsb' 0 8

/-- c of format RLC. -/
def Rlc.c (w : BitVec 32) : BitVec 4 := w.extractLsb' 28 4
/-- const16 of format RLC. -/
def Rlc.const16 (w : BitVec 32) : BitVec 16 := w.extractLsb' 12 16
/-- a of format RLC. -/
def Rlc.a (w : BitVec 32) : BitVec 4 := w.extractLsb' 8 4
/-- op1 of format RLC. -/
def Rlc.op1 (w : BitVec 32) : BitVec 8 := w.extractLsb' 0 8

/-- disp24 of format B. -/
def B.disp24 (w : BitVec 32) : BitVec 24 := (w.extractLsb' 8 8 ++ w.extractLsb' 16 16 : BitVec 24)
/-- op1 of format B. -/
def B.op1 (w : BitVec 32) : BitVec 8 := w.extractLsb' 0 8

/-- disp8 of format SB. -/
def Sb.disp8 (w : BitVec 16) : BitVec 8 := w.extractLsb' 8 8
/-- op1 of format SB. -/
def Sb.op1 (w : BitVec 16) : BitVec 8 := w.extractLsb' 0 8

/-- c of format RR. -/
def Rr.c (w : BitVec 32) : BitVec 4 := w.extractLsb' 28 4
/-- op2 of format RR. -/
def Rr.op2 (w : BitVec 32) : BitVec 8 := w.extractLsb' 20 8
/-- n of format RR. -/
def Rr.n (w : BitVec 32) : BitVec 2 := w.extractLsb' 16 2
/-- b of format RR. -/
def Rr.b (w : BitVec 32) : BitVec 4 := w.extractLsb' 12 4
/-- a of format RR. -/
def Rr.a (w : BitVec 32) : BitVec 4 := w.extractLsb' 8 4
/-- op1 of format RR. -/
def Rr.op1 (w : BitVec 32) : BitVec 8 := w.extractLsb' 0 8

/-- op2 of format BRN. -/
def Brn.op2 (w : BitVec 32) : BitVec 1 := w.extractLsb' 31 1
/-- disp15 of format BRN. -/
def Brn.disp15 (w : BitVec 32) : BitVec 15 := w.extractLsb' 16 15
/-- n of format BRN. -/
def Brn.n (w : BitVec 32) : BitVec 5 := (w.extractLsb' 7 1 ++ w.extractLsb' 12 4 : BitVec 5)
/-- a of format BRN. -/
def Brn.a (w : BitVec 32) : BitVec 4 := w.extractLsb' 8 4
/-- op1 of format BRN. -/
def Brn.op1 (w : BitVec 32) : BitVec 7 := w.extractLsb' 0 7

/-- n of format SBRN. -/
def Sbrn.n (w : BitVec 16) : BitVec 4 := w.extractLsb' 12 4
/-- disp4 of format SBRN. -/
def Sbrn.disp4 (w : BitVec 16) : BitVec 4 := w.extractLsb' 8 4
/-- op1 of format SBRN. -/
def Sbrn.op1 (w : BitVec 16) : BitVec 8 := w.extractLsb' 0 8

/-- off18 of format ABS. -/
def Abs.off18 (w : BitVec 32) : BitVec 18 := (w.extractLsb' 12 4 ++ w.extractLsb' 22 4 ++ w.extractLsb' 28 4 ++ w.extractLsb' 16 6 : BitVec 18)
/-- op2 of format ABS. -/
def Abs.op2 (w : BitVec 32) : BitVec 2 := w.extractLsb' 26 2
/-- a of format ABS. -/
def Abs.a (w : BitVec 32) : BitVec 4 := w.extractLsb' 8 4
/-- op1 of format ABS. -/
def Abs.op1 (w : BitVec 32) : BitVec 8 := w.extractLsb' 0 8

/-- off10 of format BO. -/
def Bo.off10 (w : BitVec 32) : BitVec 10 := (w.extractLsb' 28 4 ++ w.extractLsb' 16 6 : BitVec 10)
/-- op2 of format BO. -/
def Bo.op2 (w : BitVec 32) : BitVec 6 := w.extractLsb' 22 6
/-- b of format BO. -/
def Bo.b (w : BitVec 32) : BitVec 4 := w.extractLsb' 12 4
/-- a of format BO. -/
def Bo.a (w : BitVec 32) : BitVec 4 := w.extractLsb' 8 4
/-- op1 of format BO. -/
def Bo.op1 (w : BitVec 32) : BitVec 8 := w.extractLsb' 0 8

/-- off16 of format BOL. -/
def Bol.off16 (w : BitVec 32) : BitVec 16 := (w.extractLsb' 22 6 ++ w.extractLsb' 28 4 ++ w.extractLsb' 16 6 : BitVec 16)
/-- b of format BOL. -/
def Bol.b (w : BitVec 32) : BitVec 4 := w.extractLsb' 12 4
/-- a of format BOL. -/
def Bol.a (w : BitVec 32) : BitVec 4 := w.extractLsb' 8 4
/-- op1 of format BOL. -/
def Bol.op1 (w : BitVec 32) : BitVec 8 := w.extractLsb' 0 8

/-- off18 of format ABSB. -/
def Absb.off18 (w : BitVec 32) : BitVec 18 := (w.extractLsb' 12 4 ++ w.extractLsb' 22 4 ++ w.extractLsb' 28 4 ++ w.extractLsb' 16 6 : BitVec 18)
/-- op2 of format ABSB. -/
def Absb.op2 (w : BitVec 32) : BitVec 2 := w.extractLsb' 26 2
/-- b of format ABSB. -/
def Absb.b (w : BitVec 32) : BitVec 1 := w.extractLsb' 11 1
/-- bpos3 of format ABSB. -/
def Absb.bpos3 (w : BitVec 32) : BitVec 3 := w.extractLsb' 8 3
/-- op1 of format ABSB. -/
def Absb.op1 (w : BitVec 32) : BitVec 8 := w.extractLsb' 0 8

/-- c of format RRPW. -/
def Rrpw.c (w : BitVec 32) : BitVec 4 := w.extractLsb' 28 4
/-- pos of format RRPW. -/
def Rrpw.pos (w : BitVec 32) : BitVec 5 := w.extractLsb' 23 5
/-- op2 of format RRPW. -/
def Rrpw.op2 (w : BitVec 32) : BitVec 2 := w.extractLsb' 21 2
/-- width of format RRPW. -/
def Rrpw.width (w : BitVec 32) : BitVec 5 := w.extractLsb' 16 5
/-- a of format RRPW. -/
def Rrpw.a (w : BitVec 32) : BitVec 4 := w.extractLsb' 8 4
/-- op1 of format RRPW. -/
def Rrpw.op1 (w : BitVec 32) : BitVec 8 := w.extractLsb' 0 8

/-- c of format RRRR. -/
def Rrrr.c (w : BitVec 32) : BitVec 4 := w.extractLsb' 28 4
/-- d of format RRRR. -/
def Rrrr.d (w : BitVec 32) : BitVec 4 := w.extractLsb' 24 4
/-- op2 of format RRRR. -/
def Rrrr.op2 (w : BitVec 32) : BitVec 3 := w.extractLsb' 21 3
/-- a of format RRRR. -/
def Rrrr.a (w : BitVec 32) : BitVec 4 := w.extractLsb' 8 4
/-- op1 of format RRRR. -/
def Rrrr.op1 (w : BitVec 32) : BitVec 8 := w.extractLsb' 0 8

/-- c of format RRRW. -/
def Rrrw.c (w : BitVec 32) : BitVec 4 := w.extractLsb' 28 4
/-- d of format RRRW. -/
def Rrrw.d (w : BitVec 32) : BitVec 4 := w.extractLsb' 24 4
/-- op2 of format RRRW. -/
def Rrrw.op2 (w : BitVec 32) : BitVec 3 := w.extractLsb' 21 3
/-- width of format RRRW. -/
def Rrrw.width (w : BitVec 32) : BitVec 5 := w.extractLsb' 16 5
/-- a of format RRRW. -/
def Rrrw.a (w : BitVec 32) : BitVec 4 := w.extractLsb' 8 4
/-- op1 of format RRRW. -/
def Rrrw.op1 (w : BitVec 32) : BitVec 8 := w.extractLsb' 0 8

/-- c of format RRR. -/
def Rrr.c (w : BitVec 32) : BitVec 4 := w.extractLsb' 28 4
/-- d of format RRR. -/
def Rrr.d (w : BitVec 32) : BitVec 4 := w.extractLsb' 24 4
/-- op2 of format RRR. -/
def Rrr.op2 (w : BitVec 32) : BitVec 4 := w.extractLsb' 20 4
/-- b of format RRR. -/
def Rrr.b (w : BitVec 32) : BitVec 4 := w.extractLsb' 12 4
/-- a of format RRR. -/
def Rrr.a (w : BitVec 32) : BitVec 4 := w.extractLsb' 8 4
/-- op1 of format RRR. -/
def Rrr.op1 (w : BitVec 32) : BitVec 8 := w.extractLsb' 0 8

/-- op2 of format BRR. -/
def Brr.op2 (w : BitVec 32) : BitVec 1 := w.extractLsb' 31 1
/-- disp15 of format BRR. -/
def Brr.disp15 (w : BitVec 32) : BitVec 15 := w.extractLsb' 16 15
/-- b of format BRR. -/
def Brr.b (w : BitVec 32) : BitVec 4 := w.extractLsb' 12 4
/-- a of format BRR. -/
def Brr.a (w : BitVec 32) : BitVec 4 := w.extractLsb' 8 4
/-- op1 of format BRR. -/
def Brr.op1 (w : BitVec 32) : BitVec 8 := w.extractLsb' 0 8

/-- op2 of format BRC. -/
def Brc.op2 (w : BitVec 32) : BitVec 1 := w.extractLsb' 31 1
/-- disp15 of format BRC. -/
def Brc.disp15 (w : BitVec 32) : BitVec 15 := w.extractLsb' 16 15
/-- const4 of format BRC. -/
def Brc.const4 (w : BitVec 32) : BitVec 4 := w.extractLsb' 12 4
/-- a of format BRC. -/
def Brc.a (w : BitVec 32) : BitVec 4 := w.extractLsb' 8 4
/-- op1 of format BRC. -/
def Brc.op1 (w : BitVec 32) : BitVec 8 := w.extractLsb' 0 8

/-- const4 of format SRC. -/
def Src.const4 (w : BitVec 16) : BitVec 4 := w.extractLsb' 12 4
/-- a of format SRC. -/
def Src.a (w : BitVec 16) : BitVec 4 := w.extractLsb' 8 4
/-- op1 of format SRC. -/
def Src.op1 (w : BitVec 16) : BitVec 8 := w.extractLsb' 0 8

/-- b of format SRR. -/
def Srr.b (w : BitVec 16) : BitVec 4 := w.extractLsb' 12 4
/-- a of format SRR. -/
def Srr.a (w : BitVec 16) : BitVec 4 := w.extractLsb' 8 4
/-- op1 of format SRR. -/
def Srr.op1 (w : BitVec 16) : BitVec 8 := w.extractLsb' 0 8

/-- b of format SLR. -/
def Slr.b (w : BitVec 16) : BitVec 4 := w.extractLsb' 12 4
/-- c of format SLR. -/
def Slr.c (w : BitVec 16) : BitVec 4 := w.extractLsb' 8 4
/-- op1 of format SLR. -/
def Slr.op1 (w : BitVec 16) : BitVec 8 := w.extractLsb' 0 8

/-- b of format SSR. -/
def Ssr.b (w : BitVec 16) : BitVec 4 := w.extractLsb' 12 4
/-- a of format SSR. -/
def Ssr.a (w : BitVec 16) : BitVec 4 := w.extractLsb' 8 4
/-- op1 of format SSR. -/
def Ssr.op1 (w : BitVec 16) : BitVec 8 := w.extractLsb' 0 8

/-! ## Decoding -/

/-- Why bytes are no instruction. -/
inductive DecodeError where
  /-- The bytes end inside the instruction. -/
  | truncated
  /-- The 16-bit pattern is no row of the opcode table (30_encoding R310). -/
  | noSuchOpcode16 (w : Half)
  /-- The 32-bit pattern is no row of the opcode table. -/
  | noSuchOpcode32 (w : Word)
deriving DecidableEq, Repr

/-- Format SYS, primary opcode 0DH: the secondary opcode selects. -/
def decodeSys0D (w : Word) : Option Instr :=
  match (Sys.op2 w).toNat with
  | 0 => some (.nop)
  | 3 => some (.fret)
  | 4 => some (.debug)
  | 5 => some (.rfm)
  | 6 => some (.ret)
  | 7 => some (.rfe)
  | 8 => some (.svlcx)
  | 9 => some (.rslcx)
  | 12 => some (.enable)
  | 13 => some (.disable)
  | 18 => some (.dsync)
  | 19 => some (.isync)
  | 20 => some (.trapv)
  | 21 => some (.trapsv)
  | 14 => some (.restore (Sys.a w))
  | 15 => some (.disableD (Sys.a w))
  | _ => none

/-- Format SR, primary opcode 00H: the secondary opcode selects. -/
def decodeSr00 (w : Half) : Option Instr :=
  match (Sr.op2 w).toNat with
  | 0 => some (.nop16)
  | 7 => some (.fret16)
  | 8 => some (.rfe16)
  | 9 => some (.ret16)
  | 10 => some (.debug16)
  | _ => none

/-- Format RC, primary opcode ADH: the secondary opcode selects. -/
def decodeRcAD (w : Word) : Option Instr :=
  match (Rc.op2 w).toNat with
  | 0 => some (.bisr (Rc.const9 w))
  | 4 => some (.syscall (Rc.const9 w))
  | _ => none

/-- Format RR, primary opcode 2DH: the secondary opcode selects. -/
def decodeRr2D (w : Word) : Option Instr :=
  match (Rr.op2 w).toNat with
  | 0 => some (.calli (Rr.a w))
  | 1 => some (.fcalli (Rr.a w))
  | 3 => some (.ji (Rr.a w))
  | 2 => some (.jli (Rr.a w))
  | _ => none

/-- Format BRN, primary opcode 6FH: the secondary opcode selects. -/
def decodeBrn6F (w : Word) : Option Instr :=
  match (Brn.op2 w).toNat with
  | 0 => some (.jzT (Brn.a w) (Brn.n w) (Brn.disp15 w))
  | 1 => some (.jnzT (Brn.a w) (Brn.n w) (Brn.disp15 w))
  | _ => none

/-- Format ABS, primary opcode 15H: the secondary opcode selects. -/
def decodeAbs15 (w : Word) : Option Instr :=
  match (Abs.op2 w).toNat with
  | 0 => some (.stlcxAbs (Abs.off18 w))
  | 1 => some (.stucxAbs (Abs.off18 w))
  | 2 => some (.ldlcxAbs (Abs.off18 w))
  | 3 => some (.lducxAbs (Abs.off18 w))
  | _ => none

/-- Format BO, primary opcode 49H: the secondary opcode selects. -/
def decodeBo49 (w : Word) : Option Instr :=
  match (Bo.op2 w).toNat with
  | 36 => some (.ldlcxOff (Bo.b w) (Bo.off10 w))
  | 37 => some (.lducxOff (Bo.b w) (Bo.off10 w))
  | 38 => some (.stlcxOff (Bo.b w) (Bo.off10 w))
  | 39 => some (.stucxOff (Bo.b w) (Bo.off10 w))
  | 40 => some (.leaOff (Bo.a w) (Bo.b w) (Bo.off10 w))
  | 32 => some (.swapWOff (Bo.b w) (Bo.off10 w) (Bo.a w))
  | 0 => some (.swapWPost (Bo.b w) (Bo.off10 w) (Bo.a w))
  | 16 => some (.swapWPre (Bo.b w) (Bo.off10 w) (Bo.a w))
  | 33 => some (.ldmstOff (Bo.b w) (Bo.off10 w) (Bo.a w))
  | 1 => some (.ldmstPost (Bo.b w) (Bo.off10 w) (Bo.a w))
  | 17 => some (.ldmstPre (Bo.b w) (Bo.off10 w) (Bo.a w))
  | 34 => some (.swapmskWOff (Bo.b w) (Bo.off10 w) (Bo.a w))
  | 2 => some (.swapmskWPost (Bo.b w) (Bo.off10 w) (Bo.a w))
  | 18 => some (.swapmskWPre (Bo.b w) (Bo.off10 w) (Bo.a w))
  | 35 => some (.cmpswapWOff (Bo.b w) (Bo.off10 w) (Bo.a w))
  | 3 => some (.cmpswapWPost (Bo.b w) (Bo.off10 w) (Bo.a w))
  | 19 => some (.cmpswapWPre (Bo.b w) (Bo.off10 w) (Bo.a w))
  | _ => none

/-- Format ABS, primary opcode C5H: the secondary opcode selects. -/
def decodeAbsC5 (w : Word) : Option Instr :=
  match (Abs.op2 w).toNat with
  | 0 => some (.leaAbs (Abs.a w) (Abs.off18 w))
  | _ => none

/-- Format BO, primary opcode 69H: the secondary opcode selects. -/
def decodeBo69 (w : Word) : Option Instr :=
  match (Bo.op2 w).toNat with
  | 0 => some (.swapWRev (Bo.b w) (Bo.a w))
  | 16 => some (.swapWCirc (Bo.b w) (Bo.off10 w) (Bo.a w))
  | 1 => some (.ldmstRev (Bo.b w) (Bo.a w))
  | 17 => some (.ldmstCirc (Bo.b w) (Bo.off10 w) (Bo.a w))
  | 2 => some (.swapmskWRev (Bo.b w) (Bo.a w))
  | 18 => some (.swapmskWCirc (Bo.b w) (Bo.off10 w) (Bo.a w))
  | 3 => some (.cmpswapWRev (Bo.b w) (Bo.a w))
  | 19 => some (.cmpswapWCirc (Bo.b w) (Bo.off10 w) (Bo.a w))
  | _ => none

/-- Format ABS, primary opcode E5H: the secondary opcode selects. -/
def decodeAbsE5 (w : Word) : Option Instr :=
  match (Abs.op2 w).toNat with
  | 0 => some (.swapWAbs (Abs.off18 w) (Abs.a w))
  | 1 => some (.ldmstAbs (Abs.off18 w) (Abs.a w))
  | _ => none

/-- Format ABSB, primary opcode D5H: the secondary opcode selects. -/
def decodeAbsbD5 (w : Word) : Option Instr :=
  match (Absb.op2 w).toNat with
  | 0 => some (.stT (Absb.off18 w) (Absb.bpos3 w) (Absb.b w))
  | _ => none

/-- Format ABS, primary opcode 05H: the secondary opcode selects. -/
def decodeAbs05 (w : Word) : Option Instr :=
  match (Abs.op2 w).toNat with
  | 0 => some (.ldBAbs (Abs.a w) (Abs.off18 w))
  | 1 => some (.ldBuAbs (Abs.a w) (Abs.off18 w))
  | 2 => some (.ldHAbs (Abs.a w) (Abs.off18 w))
  | 3 => some (.ldHuAbs (Abs.a w) (Abs.off18 w))
  | _ => none

/-- Format BO, primary opcode 09H: the secondary opcode selects. -/
def decodeBo09 (w : Word) : Option Instr :=
  match (Bo.op2 w).toNat with
  | 32 => some (.ldBOff (Bo.a w) (Bo.b w) (Bo.off10 w))
  | 0 => some (.ldBPost (Bo.a w) (Bo.b w) (Bo.off10 w))
  | 16 => some (.ldBPre (Bo.a w) (Bo.b w) (Bo.off10 w))
  | 33 => some (.ldBuOff (Bo.a w) (Bo.b w) (Bo.off10 w))
  | 1 => some (.ldBuPost (Bo.a w) (Bo.b w) (Bo.off10 w))
  | 17 => some (.ldBuPre (Bo.a w) (Bo.b w) (Bo.off10 w))
  | 34 => some (.ldHOff (Bo.a w) (Bo.b w) (Bo.off10 w))
  | 2 => some (.ldHPost (Bo.a w) (Bo.b w) (Bo.off10 w))
  | 18 => some (.ldHPre (Bo.a w) (Bo.b w) (Bo.off10 w))
  | 35 => some (.ldHuOff (Bo.a w) (Bo.b w) (Bo.off10 w))
  | 3 => some (.ldHuPost (Bo.a w) (Bo.b w) (Bo.off10 w))
  | 19 => some (.ldHuPre (Bo.a w) (Bo.b w) (Bo.off10 w))
  | 36 => some (.ldWOff (Bo.a w) (Bo.b w) (Bo.off10 w))
  | 4 => some (.ldWPost (Bo.a w) (Bo.b w) (Bo.off10 w))
  | 20 => some (.ldWPre (Bo.a w) (Bo.b w) (Bo.off10 w))
  | 37 => some (.ldDOff (Bo.a w) (Bo.b w) (Bo.off10 w))
  | 5 => some (.ldDPost (Bo.a w) (Bo.b w) (Bo.off10 w))
  | 21 => some (.ldDPre (Bo.a w) (Bo.b w) (Bo.off10 w))
  | 38 => some (.ldAOff (Bo.a w) (Bo.b w) (Bo.off10 w))
  | 6 => some (.ldAPost (Bo.a w) (Bo.b w) (Bo.off10 w))
  | 22 => some (.ldAPre (Bo.a w) (Bo.b w) (Bo.off10 w))
  | 39 => some (.ldDaOff (Bo.a w) (Bo.b w) (Bo.off10 w))
  | 7 => some (.ldDaPost (Bo.a w) (Bo.b w) (Bo.off10 w))
  | 23 => some (.ldDaPre (Bo.a w) (Bo.b w) (Bo.off10 w))
  | _ => none

/-- Format BO, primary opcode 29H: the secondary opcode selects. -/
def decodeBo29 (w : Word) : Option Instr :=
  match (Bo.op2 w).toNat with
  | 0 => some (.ldBRev (Bo.a w) (Bo.b w))
  | 16 => some (.ldBCirc (Bo.a w) (Bo.b w) (Bo.off10 w))
  | 1 => some (.ldBuRev (Bo.a w) (Bo.b w))
  | 17 => some (.ldBuCirc (Bo.a w) (Bo.b w) (Bo.off10 w))
  | 2 => some (.ldHRev (Bo.a w) (Bo.b w))
  | 18 => some (.ldHCirc (Bo.a w) (Bo.b w) (Bo.off10 w))
  | 3 => some (.ldHuRev (Bo.a w) (Bo.b w))
  | 19 => some (.ldHuCirc (Bo.a w) (Bo.b w) (Bo.off10 w))
  | 4 => some (.ldWRev (Bo.a w) (Bo.b w))
  | 20 => some (.ldWCirc (Bo.a w) (Bo.b w) (Bo.off10 w))
  | 5 => some (.ldDRev (Bo.a w) (Bo.b w))
  | 21 => some (.ldDCirc (Bo.a w) (Bo.b w) (Bo.off10 w))
  | 6 => some (.ldARev (Bo.a w) (Bo.b w))
  | 22 => some (.ldACirc (Bo.a w) (Bo.b w) (Bo.off10 w))
  | 7 => some (.ldDaRev (Bo.a w) (Bo.b w))
  | 23 => some (.ldDaCirc (Bo.a w) (Bo.b w) (Bo.off10 w))
  | _ => none

/-- Format ABS, primary opcode 85H: the secondary opcode selects. -/
def decodeAbs85 (w : Word) : Option Instr :=
  match (Abs.op2 w).toNat with
  | 0 => some (.ldWAbs (Abs.a w) (Abs.off18 w))
  | 1 => some (.ldDAbs (Abs.a w) (Abs.off18 w))
  | 2 => some (.ldAAbs (Abs.a w) (Abs.off18 w))
  | 3 => some (.ldDaAbs (Abs.a w) (Abs.off18 w))
  | _ => none

/-- Format ABS, primary opcode 25H: the secondary opcode selects. -/
def decodeAbs25 (w : Word) : Option Instr :=
  match (Abs.op2 w).toNat with
  | 0 => some (.stBAbs (Abs.off18 w) (Abs.a w))
  | 2 => some (.stHAbs (Abs.off18 w) (Abs.a w))
  | _ => none

/-- Format BO, primary opcode 89H: the secondary opcode selects. -/
def decodeBo89 (w : Word) : Option Instr :=
  match (Bo.op2 w).toNat with
  | 32 => some (.stBOff (Bo.b w) (Bo.off10 w) (Bo.a w))
  | 0 => some (.stBPost (Bo.b w) (Bo.off10 w) (Bo.a w))
  | 16 => some (.stBPre (Bo.b w) (Bo.off10 w) (Bo.a w))
  | 34 => some (.stHOff (Bo.b w) (Bo.off10 w) (Bo.a w))
  | 2 => some (.stHPost (Bo.b w) (Bo.off10 w) (Bo.a w))
  | 18 => some (.stHPre (Bo.b w) (Bo.off10 w) (Bo.a w))
  | 36 => some (.stWOff (Bo.b w) (Bo.off10 w) (Bo.a w))
  | 4 => some (.stWPost (Bo.b w) (Bo.off10 w) (Bo.a w))
  | 20 => some (.stWPre (Bo.b w) (Bo.off10 w) (Bo.a w))
  | 37 => some (.stDOff (Bo.b w) (Bo.off10 w) (Bo.a w))
  | 5 => some (.stDPost (Bo.b w) (Bo.off10 w) (Bo.a w))
  | 21 => some (.stDPre (Bo.b w) (Bo.off10 w) (Bo.a w))
  | 38 => some (.stAOff (Bo.b w) (Bo.off10 w) (Bo.a w))
  | 6 => some (.stAPost (Bo.b w) (Bo.off10 w) (Bo.a w))
  | 22 => some (.stAPre (Bo.b w) (Bo.off10 w) (Bo.a w))
  | 39 => some (.stDaOff (Bo.b w) (Bo.off10 w) (Bo.a w))
  | 7 => some (.stDaPost (Bo.b w) (Bo.off10 w) (Bo.a w))
  | 23 => some (.stDaPre (Bo.b w) (Bo.off10 w) (Bo.a w))
  | 44 => some (.cacheaWOff (Bo.b w) (Bo.off10 w))
  | 12 => some (.cacheaWPost (Bo.b w) (Bo.off10 w))
  | 28 => some (.cacheaWPre (Bo.b w) (Bo.off10 w))
  | 45 => some (.cacheaWiOff (Bo.b w) (Bo.off10 w))
  | 13 => some (.cacheaWiPost (Bo.b w) (Bo.off10 w))
  | 29 => some (.cacheaWiPre (Bo.b w) (Bo.off10 w))
  | 46 => some (.cacheaIOff (Bo.b w) (Bo.off10 w))
  | 14 => some (.cacheaIPost (Bo.b w) (Bo.off10 w))
  | 30 => some (.cacheaIPre (Bo.b w) (Bo.off10 w))
  | 43 => some (.cacheiWOff (Bo.b w) (Bo.off10 w))
  | 11 => some (.cacheiWPost (Bo.b w) (Bo.off10 w))
  | 27 => some (.cacheiWPre (Bo.b w) (Bo.off10 w))
  | 42 => some (.cacheiIOff (Bo.b w) (Bo.off10 w))
  | 10 => some (.cacheiIPost (Bo.b w) (Bo.off10 w))
  | 26 => some (.cacheiIPre (Bo.b w) (Bo.off10 w))
  | 47 => some (.cacheiWiOff (Bo.b w) (Bo.off10 w))
  | 15 => some (.cacheiWiPost (Bo.b w) (Bo.off10 w))
  | 31 => some (.cacheiWiPre (Bo.b w) (Bo.off10 w))
  | _ => none

/-- Format BO, primary opcode A9H: the secondary opcode selects. -/
def decodeBoA9 (w : Word) : Option Instr :=
  match (Bo.op2 w).toNat with
  | 0 => some (.stBRev (Bo.b w) (Bo.a w))
  | 16 => some (.stBCirc (Bo.b w) (Bo.off10 w) (Bo.a w))
  | 2 => some (.stHRev (Bo.b w) (Bo.a w))
  | 18 => some (.stHCirc (Bo.b w) (Bo.off10 w) (Bo.a w))
  | 4 => some (.stWRev (Bo.b w) (Bo.a w))
  | 20 => some (.stWCirc (Bo.b w) (Bo.off10 w) (Bo.a w))
  | 5 => some (.stDRev (Bo.b w) (Bo.a w))
  | 21 => some (.stDCirc (Bo.b w) (Bo.off10 w) (Bo.a w))
  | 6 => some (.stARev (Bo.b w) (Bo.a w))
  | 22 => some (.stACirc (Bo.b w) (Bo.off10 w) (Bo.a w))
  | 7 => some (.stDaRev (Bo.b w) (Bo.a w))
  | 23 => some (.stDaCirc (Bo.b w) (Bo.off10 w) (Bo.a w))
  | _ => none

/-- Format ABS, primary opcode A5H: the secondary opcode selects. -/
def decodeAbsA5 (w : Word) : Option Instr :=
  match (Abs.op2 w).toNat with
  | 0 => some (.stWAbs (Abs.off18 w) (Abs.a w))
  | 1 => some (.stDAbs (Abs.off18 w) (Abs.a w))
  | 2 => some (.stAAbs (Abs.off18 w) (Abs.a w))
  | 3 => some (.stDaAbs (Abs.off18 w) (Abs.a w))
  | _ => none

/-- Format RR, primary opcode 0BH: the secondary opcode selects. -/
def decodeRr0B (w : Word) : Option Instr :=
  match (Rr.op2 w).toNat with
  | 0 => some (.add (Rr.c w) (Rr.a w) (Rr.b w))
  | 4 => some (.addx (Rr.c w) (Rr.a w) (Rr.b w))
  | 5 => some (.addc (Rr.c w) (Rr.a w) (Rr.b w))
  | 31 => some (.mov (Rr.c w) (Rr.b w))
  | 8 => some (.sub (Rr.c w) (Rr.a w) (Rr.b w))
  | 16 => some (.eq (Rr.c w) (Rr.a w) (Rr.b w))
  | 18 => some (.lt (Rr.c w) (Rr.a w) (Rr.b w))
  | _ => none

/-- Format RC, primary opcode 8BH: the secondary opcode selects. -/
def decodeRc8B (w : Word) : Option Instr :=
  match (Rc.op2 w).toNat with
  | 0 => some (.addC (Rc.c w) (Rc.a w) (Rc.const9 w))
  | 4 => some (.addxC (Rc.c w) (Rc.a w) (Rc.const9 w))
  | 5 => some (.addcC (Rc.c w) (Rc.a w) (Rc.const9 w))
  | 16 => some (.eqC (Rc.c w) (Rc.a w) (Rc.const9 w))
  | 18 => some (.ltC (Rc.c w) (Rc.a w) (Rc.const9 w))
  | _ => none

/-- Format RR, primary opcode 01H: the secondary opcode selects. -/
def decodeRr01 (w : Word) : Option Instr :=
  match (Rr.op2 w).toNat with
  | 96 => some (.addscA (Rr.c w) (Rr.b w) (Rr.a w) (Rr.n w))
  | 98 => some (.addscAt (Rr.c w) (Rr.b w) (Rr.a w))
  | 99 => some (.movA (Rr.c w) (Rr.b w))
  | 76 => some (.movD (Rr.c w) (Rr.b w))
  | 0 => some (.movAa (Rr.c w) (Rr.b w))
  | _ => none

/-- Format RRPW, primary opcode 37H: the secondary opcode selects. -/
def decodeRrpw37 (w : Word) : Option Instr :=
  match (Rrpw.op2 w).toNat with
  | 3 => some (.extrU (Rrpw.c w) (Rrpw.a w) (Rrpw.pos w) (Rrpw.width w))
  | _ => none

/-- Format RRRR, primary opcode 17H: the secondary opcode selects. -/
def decodeRrrr17 (w : Word) : Option Instr :=
  match (Rrrr.op2 w).toNat with
  | 3 => some (.extrUReg (Rrrr.c w) (Rrrr.a w) (Rrrr.d w))
  | _ => none

/-- Format RRRW, primary opcode 57H: the secondary opcode selects. -/
def decodeRrrw57 (w : Word) : Option Instr :=
  match (Rrrw.op2 w).toNat with
  | 3 => some (.extrUWidth (Rrrw.c w) (Rrrw.a w) (Rrrw.d w) (Rrrw.width w))
  | _ => none

/-- Format RRR, primary opcode 6BH: the secondary opcode selects. -/
def decodeRrr6B (w : Word) : Option Instr :=
  match (Rrr.op2 w).toNat with
  | 2 => some (.addF (Rrr.c w) (Rrr.d w) (Rrr.a w))
  | 3 => some (.subF (Rrr.c w) (Rrr.d w) (Rrr.a w))
  | 6 => some (.maddF (Rrr.c w) (Rrr.d w) (Rrr.a w) (Rrr.b w))
  | 7 => some (.msubF (Rrr.c w) (Rrr.d w) (Rrr.a w) (Rrr.b w))
  | _ => none

/-- Format RR, primary opcode 4BH: the secondary opcode selects. -/
def decodeRr4B (w : Word) : Option Instr :=
  match (Rr.op2 w).toNat with
  | 0 => some (.cmpF (Rr.c w) (Rr.a w) (Rr.b w))
  | 4 => some (.mulF (Rr.c w) (Rr.a w) (Rr.b w))
  | 5 => some (.divF (Rr.c w) (Rr.a w) (Rr.b w))
  | 12 => some (.updfl (Rr.a w))
  | 16 => some (.ftoi (Rr.c w) (Rr.a w))
  | 17 => some (.ftoq31 (Rr.c w) (Rr.a w) (Rr.b w))
  | 18 => some (.ftou (Rr.c w) (Rr.a w))
  | 19 => some (.ftoiz (Rr.c w) (Rr.a w))
  | 20 => some (.itof (Rr.c w) (Rr.a w))
  | 21 => some (.q31tof (Rr.c w) (Rr.a w) (Rr.b w))
  | 22 => some (.utof (Rr.c w) (Rr.a w))
  | 23 => some (.ftouz (Rr.c w) (Rr.a w))
  | 24 => some (.ftoq31z (Rr.c w) (Rr.a w) (Rr.b w))
  | 25 => some (.qseedF (Rr.c w) (Rr.a w))
  | 36 => some (.hptof (Rr.c w) (Rr.a w))
  | 37 => some (.ftohp (Rr.c w) (Rr.a w))
  | _ => none

/-- Format RR, primary opcode 0FH: the secondary opcode selects. -/
def decodeRr0F (w : Word) : Option Instr :=
  match (Rr.op2 w).toNat with
  | 8 => some (.and (Rr.c w) (Rr.a w) (Rr.b w))
  | 10 => some (.or (Rr.c w) (Rr.a w) (Rr.b w))
  | 12 => some (.xor (Rr.c w) (Rr.a w) (Rr.b w))
  | _ => none

/-- Format RC, primary opcode 8FH: the secondary opcode selects. -/
def decodeRc8F (w : Word) : Option Instr :=
  match (Rc.op2 w).toNat with
  | 8 => some (.andC (Rc.c w) (Rc.a w) (Rc.const9 w))
  | 10 => some (.orC (Rc.c w) (Rc.a w) (Rc.const9 w))
  | 12 => some (.xorC (Rc.c w) (Rc.a w) (Rc.const9 w))
  | _ => none

/-- Format BRR, primary opcode 5FH: the secondary opcode selects. -/
def decodeBrr5F (w : Word) : Option Instr :=
  match (Brr.op2 w).toNat with
  | 0 => some (.jeq (Brr.a w) (Brr.b w) (Brr.disp15 w))
  | 1 => some (.jne (Brr.a w) (Brr.b w) (Brr.disp15 w))
  | _ => none

/-- Format BRC, primary opcode DFH: the secondary opcode selects. -/
def decodeBrcDF (w : Word) : Option Instr :=
  match (Brc.op2 w).toNat with
  | 0 => some (.jeqC (Brc.a w) (Brc.const4 w) (Brc.disp15 w))
  | 1 => some (.jneC (Brc.a w) (Brc.const4 w) (Brc.disp15 w))
  | _ => none

/-- Format BRR, primary opcode FDH: the secondary opcode selects. -/
def decodeBrrFD (w : Word) : Option Instr :=
  match (Brr.op2 w).toNat with
  | 0 => some (.loop (Brr.b w) (Brr.disp15 w))
  | _ => none

/-- The instruction of a 32-bit word: the primary opcode is its low byte (R312). -/
def decode32 (w : Word) : Option Instr :=
  match (w.extractLsb' 0 8).toNat with
  | 0x01 => decodeRr01 w
  | 0x05 => decodeAbs05 w
  | 0x09 => decodeBo09 w
  | 0x0B => decodeRr0B w
  | 0x0D => decodeSys0D w
  | 0x0F => decodeRr0F w
  | 0x15 => decodeAbs15 w
  | 0x17 => decodeRrrr17 w
  | 0x19 => some (.ldWLong (Bol.a w) (Bol.b w) (Bol.off16 w))
  | 0x1B => some (.addi (Rlc.c w) (Rlc.a w) (Rlc.const16 w))
  | 0x1D => some (.j (B.disp24 w))
  | 0x25 => decodeAbs25 w
  | 0x29 => decodeBo29 w
  | 0x2D => decodeRr2D w
  | 0x37 => decodeRrpw37 w
  | 0x39 => some (.ldBuLong (Bol.a w) (Bol.b w) (Bol.off16 w))
  | 0x3B => some (.movConst (Rlc.c w) (Rlc.const16 w))
  | 0x49 => decodeBo49 w
  | 0x4B => decodeRr4B w
  | 0x4D => some (.mfcr (Rlc.c w) (Rlc.const16 w))
  | 0x57 => decodeRrrw57 w
  | 0x59 => some (.stWLong (Bol.b w) (Bol.off16 w) (Bol.a w))
  | 0x5D => some (.jl (B.disp24 w))
  | 0x5F => decodeBrr5F w
  | 0x61 => some (.fcall (B.disp24 w))
  | 0x69 => decodeBo69 w
  | 0x6B => decodeRrr6B w
  | 0x6D => some (.call (B.disp24 w))
  | 0x6F => decodeBrn6F w
  | 0x79 => some (.ldBLong (Bol.a w) (Bol.b w) (Bol.off16 w))
  | 0x7B => some (.movh (Rlc.c w) (Rlc.const16 w))
  | 0x85 => decodeAbs85 w
  | 0x89 => decodeBo89 w
  | 0x8B => decodeRc8B w
  | 0x8F => decodeRc8F w
  | 0x91 => some (.movhA (Rlc.c w) (Rlc.const16 w))
  | 0x99 => some (.ldALong (Bol.a w) (Bol.b w) (Bol.off16 w))
  | 0x9D => some (.ja (B.disp24 w))
  | 0xA5 => decodeAbsA5 w
  | 0xA9 => decodeBoA9 w
  | 0xAD => decodeRcAD w
  | 0xB5 => some (.stALong (Bol.b w) (Bol.off16 w) (Bol.a w))
  | 0xB9 => some (.ldHuLong (Bol.a w) (Bol.b w) (Bol.off16 w))
  | 0xC5 => decodeAbsC5 w
  | 0xC9 => some (.ldHLong (Bol.a w) (Bol.b w) (Bol.off16 w))
  | 0xCD => some (.mtcr (Rlc.const16 w) (Rlc.a w))
  | 0xD5 => decodeAbsbD5 w
  | 0xD9 => some (.leaLong (Bol.a w) (Bol.b w) (Bol.off16 w))
  | 0xDD => some (.jla (B.disp24 w))
  | 0xDF => decodeBrcDF w
  | 0xE1 => some (.fcalla (B.disp24 w))
  | 0xE5 => decodeAbsE5 w
  | 0xE9 => some (.stBLong (Bol.b w) (Bol.off16 w) (Bol.a w))
  | 0xED => some (.calla (B.disp24 w))
  | 0xEF => decodeBrn6F w
  | 0xF9 => some (.stHLong (Bol.b w) (Bol.off16 w) (Bol.a w))
  | 0xFD => decodeBrrFD w
  | _ => none

/-- The instruction of a 16-bit word. -/
def decode16 (w : Half) : Option Instr :=
  match (w.extractLsb' 0 8).toNat with
  | 0x00 => decodeSr00 w
  | 0x02 => some (.mov16R (Srr.a w) (Srr.b w))
  | 0x2E => some (.jzT16 (Sbrn.n w) (Sbrn.disp4 w))
  | 0x42 => some (.add16R (Srr.a w) (Srr.b w))
  | 0x54 => some (.ldW16 (Slr.c w) (Slr.b w))
  | 0x5C => some (.call16 (Sb.disp8 w))
  | 0x74 => some (.stW16 (Ssr.b w) (Ssr.a w))
  | 0x82 => some (.mov16C (Src.a w) (Src.const4 w))
  | 0xC2 => some (.add16C (Src.a w) (Src.const4 w))
  | 0xE0 => some (.bisr16 (Sc.const8 w))
  | _ => none

/-- The instruction at the head of the bytes and the bytes after it. Bit 0 of the first half-word is 1 for a 32-bit
instruction (R300, R312); the bytes are little-endian (20_memory R213). -/
def decode : List Byte → Except DecodeError (Instr × List Byte)
  | b0 :: b1 :: rest =>
    if b0.getLsbD 0 then
      match rest with
      | b2 :: b3 :: rest' =>
        let w : Word := b3 ++ b2 ++ b1 ++ b0
        match decode32 w with
        | some i => .ok (i, rest')
        | none => .error (.noSuchOpcode32 w)
      | _ => .error .truncated
    else
      let w : Half := b1 ++ b0
      match decode16 w with
      | some i => .ok (i, rest)
      | none => .error (.noSuchOpcode16 w)
  | _ => .error .truncated

/-- The four bytes in which an instruction with the bits `w` lies in memory, the lowest address first; the bits above
`nbits` are 0. -/
def tableBytes (nbits w : Nat) : List Byte :=
  let v : Word := BitVec.ofNat 32 (w % 2 ^ nbits)
  [v.extractLsb' 0 8, v.extractLsb' 8 8, v.extractLsb' 16 8, v.extractLsb' 24 8]

/-- The instruction the decoder reads from an instruction whose bits, numbered as in spec/opcode_table.json, are `w`. -/
def decodeTableWord (nbits w : Nat) : Option Instr :=
  match decode (tableBytes nbits w) with
  | .ok (i, _) => some i
  | .error _ => none

/-! ## Encoding -/

/-- The words of an instruction. -/
inductive Encoding where
  /-- A 16-bit instruction. -/
  | half (w : Half)
  /-- A 32-bit instruction. -/
  | word (w : Word)
  /-- The spec gives no encoding (R316). -/
  | unknown
deriving DecidableEq, Repr

/-- A word of format SYS; unused bits are 0. -/
def Sys.word (op1 : BitVec 8) (op2 : BitVec 6) (a : BitVec 4) : BitVec 32 :=
  0#4 ++ op2 ++ 0#10 ++ a ++ op1

/-- A word of format SR; unused bits are 0. -/
def Sr.word (op1 : BitVec 8) (op2 : BitVec 4) (a : BitVec 4) : BitVec 16 :=
  op2 ++ a ++ op1

/-- A word of format RC; unused bits are 0. -/
def Rc.word (op1 : BitVec 8) (op2 : BitVec 7) (a : BitVec 4) (c : BitVec 4) (const9 : BitVec 9) : BitVec 32 :=
  c ++ op2 ++ const9 ++ a ++ op1

/-- A word of format SC; unused bits are 0. -/
def Sc.word (op1 : BitVec 8) (const8 : BitVec 8) : BitVec 16 :=
  const8 ++ op1

/-- A word of format RLC; unused bits are 0. -/
def Rlc.word (op1 : BitVec 8) (a : BitVec 4) (c : BitVec 4) (const16 : BitVec 16) : BitVec 32 :=
  c ++ const16 ++ a ++ op1

/-- A word of format B; unused bits are 0. -/
def B.word (op1 : BitVec 8) (disp24 : BitVec 24) : BitVec 32 :=
  disp24.extractLsb' 0 16 ++ disp24.extractLsb' 16 8 ++ op1

/-- A word of format SB; unused bits are 0. -/
def Sb.word (op1 : BitVec 8) (disp8 : BitVec 8) : BitVec 16 :=
  disp8 ++ op1

/-- A word of format RR; unused bits are 0. -/
def Rr.word (op1 : BitVec 8) (op2 : BitVec 8) (a : BitVec 4) (b : BitVec 4) (c : BitVec 4) (n : BitVec 2) : BitVec 32 :=
  c ++ op2 ++ 0#2 ++ n ++ b ++ a ++ op1

/-- A word of format BRN; unused bits are 0. -/
def Brn.word (op1 : BitVec 7) (op2 : BitVec 1) (a : BitVec 4) (disp15 : BitVec 15) (n : BitVec 5) : BitVec 32 :=
  op2 ++ disp15 ++ n.extractLsb' 0 4 ++ a ++ n.extractLsb' 4 1 ++ op1

/-- A word of format SBRN; unused bits are 0. -/
def Sbrn.word (op1 : BitVec 8) (disp4 : BitVec 4) (n : BitVec 4) : BitVec 16 :=
  n ++ disp4 ++ op1

/-- A word of format ABS; unused bits are 0. -/
def Abs.word (op1 : BitVec 8) (op2 : BitVec 2) (a : BitVec 4) (off18 : BitVec 18) : BitVec 32 :=
  off18.extractLsb' 6 4 ++ op2 ++ off18.extractLsb' 10 4 ++ off18.extractLsb' 0 6 ++ off18.extractLsb' 14 4 ++ a ++ op1

/-- A word of format BO; unused bits are 0. -/
def Bo.word (op1 : BitVec 8) (op2 : BitVec 6) (a : BitVec 4) (b : BitVec 4) (off10 : BitVec 10) : BitVec 32 :=
  off10.extractLsb' 6 4 ++ op2 ++ off10.extractLsb' 0 6 ++ b ++ a ++ op1

/-- A word of format BOL; unused bits are 0. -/
def Bol.word (op1 : BitVec 8) (a : BitVec 4) (b : BitVec 4) (off16 : BitVec 16) : BitVec 32 :=
  off16.extractLsb' 6 4 ++ off16.extractLsb' 10 6 ++ off16.extractLsb' 0 6 ++ b ++ a ++ op1

/-- A word of format ABSB; unused bits are 0. -/
def Absb.word (op1 : BitVec 8) (op2 : BitVec 2) (b : BitVec 1) (bpos3 : BitVec 3) (off18 : BitVec 18) : BitVec 32 :=
  off18.extractLsb' 6 4 ++ op2 ++ off18.extractLsb' 10 4 ++ off18.extractLsb' 0 6 ++ off18.extractLsb' 14 4 ++ b ++ bpos3 ++ op1

/-- A word of format RRPW; unused bits are 0. -/
def Rrpw.word (op1 : BitVec 8) (op2 : BitVec 2) (a : BitVec 4) (c : BitVec 4) (pos : BitVec 5) (width : BitVec 5) : BitVec 32 :=
  c ++ pos ++ op2 ++ width ++ 0#4 ++ a ++ op1

/-- A word of format RRRR; unused bits are 0. -/
def Rrrr.word (op1 : BitVec 8) (op2 : BitVec 3) (a : BitVec 4) (c : BitVec 4) (d : BitVec 4) : BitVec 32 :=
  c ++ d ++ op2 ++ 0#5 ++ 0#4 ++ a ++ op1

/-- A word of format RRRW; unused bits are 0. -/
def Rrrw.word (op1 : BitVec 8) (op2 : BitVec 3) (a : BitVec 4) (c : BitVec 4) (d : BitVec 4) (width : BitVec 5) : BitVec 32 :=
  c ++ d ++ op2 ++ width ++ 0#4 ++ a ++ op1

/-- A word of format RRR; unused bits are 0. -/
def Rrr.word (op1 : BitVec 8) (op2 : BitVec 4) (a : BitVec 4) (b : BitVec 4) (c : BitVec 4) (d : BitVec 4) : BitVec 32 :=
  c ++ d ++ op2 ++ 0#4 ++ b ++ a ++ op1

/-- A word of format BRR; unused bits are 0. -/
def Brr.word (op1 : BitVec 8) (op2 : BitVec 1) (a : BitVec 4) (b : BitVec 4) (disp15 : BitVec 15) : BitVec 32 :=
  op2 ++ disp15 ++ b ++ a ++ op1

/-- A word of format BRC; unused bits are 0. -/
def Brc.word (op1 : BitVec 8) (op2 : BitVec 1) (a : BitVec 4) (const4 : BitVec 4) (disp15 : BitVec 15) : BitVec 32 :=
  op2 ++ disp15 ++ const4 ++ a ++ op1

/-- A word of format SRC; unused bits are 0. -/
def Src.word (op1 : BitVec 8) (a : BitVec 4) (const4 : BitVec 4) : BitVec 16 :=
  const4 ++ a ++ op1

/-- A word of format SRR; unused bits are 0. -/
def Srr.word (op1 : BitVec 8) (a : BitVec 4) (b : BitVec 4) : BitVec 16 :=
  b ++ a ++ op1

/-- A word of format SLR; unused bits are 0. -/
def Slr.word (op1 : BitVec 8) (b : BitVec 4) (c : BitVec 4) : BitVec 16 :=
  b ++ c ++ op1

/-- A word of format SSR; unused bits are 0. -/
def Ssr.word (op1 : BitVec 8) (a : BitVec 4) (b : BitVec 4) : BitVec 16 :=
  b ++ a ++ op1

/-- The words of an instruction. -/
def Instr.encoding : Instr → Encoding
  | .nop => .word (Sys.word 0xD 0x0 0)
  | .fret => .word (Sys.word 0xD 0x3 0)
  | .debug => .word (Sys.word 0xD 0x4 0)
  | .rfm => .word (Sys.word 0xD 0x5 0)
  | .ret => .word (Sys.word 0xD 0x6 0)
  | .rfe => .word (Sys.word 0xD 0x7 0)
  | .svlcx => .word (Sys.word 0xD 0x8 0)
  | .rslcx => .word (Sys.word 0xD 0x9 0)
  | .enable => .word (Sys.word 0xD 0xC 0)
  | .disable => .word (Sys.word 0xD 0xD 0)
  | .dsync => .word (Sys.word 0xD 0x12 0)
  | .isync => .word (Sys.word 0xD 0x13 0)
  | .trapv => .word (Sys.word 0xD 0x14 0)
  | .trapsv => .word (Sys.word 0xD 0x15 0)
  | .restore a => .word (Sys.word 0xD 0xE a)
  | .disableD a => .word (Sys.word 0xD 0xF a)
  | .nop16 => .half (Sr.word 0x0 0x0 0)
  | .fret16 => .half (Sr.word 0x0 0x7 0)
  | .rfe16 => .half (Sr.word 0x0 0x8 0)
  | .ret16 => .half (Sr.word 0x0 0x9 0)
  | .debug16 => .half (Sr.word 0x0 0xA 0)
  | .bisr const9 => .word (Rc.word 0xAD 0x0 0 0 const9)
  | .bisr16 const8 => .half (Sc.word 0xE0 const8)
  | .syscall const9 => .word (Rc.word 0xAD 0x4 0 0 const9)
  | .mfcr c const16 => .word (Rlc.word 0x4D 0 c const16)
  | .mtcr const16 a => .word (Rlc.word 0xCD a 0 const16)
  | .call disp24 => .word (B.word 0x6D disp24)
  | .call16 disp8 => .half (Sb.word 0x5C disp8)
  | .calla disp24 => .word (B.word 0xED disp24)
  | .calli a => .word (Rr.word 0x2D 0x0 a 0 0 0)
  | .fcall disp24 => .word (B.word 0x61 disp24)
  | .fcalla disp24 => .word (B.word 0xE1 disp24)
  | .fcalli a => .word (Rr.word 0x2D 0x1 a 0 0 0)
  | .jl disp24 => .word (B.word 0x5D disp24)
  | .jzT a n disp15 => .word (Brn.word 0x6F 0x0 a disp15 n)
  | .jzT16 n disp4 => .half (Sbrn.word 0x2E disp4 n)
  | .stlcxAbs off18 => .word (Abs.word 0x15 0x0 0 off18)
  | .stucxAbs off18 => .word (Abs.word 0x15 0x1 0 off18)
  | .ldlcxAbs off18 => .word (Abs.word 0x15 0x2 0 off18)
  | .lducxAbs off18 => .word (Abs.word 0x15 0x3 0 off18)
  | .ldlcxOff b off10 => .word (Bo.word 0x49 0x24 0 b off10)
  | .lducxOff b off10 => .word (Bo.word 0x49 0x25 0 b off10)
  | .stlcxOff b off10 => .word (Bo.word 0x49 0x26 0 b off10)
  | .stucxOff b off10 => .word (Bo.word 0x49 0x27 0 b off10)
  | .leaOff a b off10 => .word (Bo.word 0x49 0x28 a b off10)
  | .leaAbs a off18 => .word (Abs.word 0xC5 0x0 a off18)
  | .leaLong a b off16 => .word (Bol.word 0xD9 a b off16)
  | .swapWOff b off10 a => .word (Bo.word 0x49 0x20 a b off10)
  | .swapWPost b off10 a => .word (Bo.word 0x49 0x0 a b off10)
  | .swapWPre b off10 a => .word (Bo.word 0x49 0x10 a b off10)
  | .swapWRev b a => .word (Bo.word 0x69 0x0 a b 0)
  | .swapWCirc b off10 a => .word (Bo.word 0x69 0x10 a b off10)
  | .ldmstOff b off10 a => .word (Bo.word 0x49 0x21 a b off10)
  | .ldmstPost b off10 a => .word (Bo.word 0x49 0x1 a b off10)
  | .ldmstPre b off10 a => .word (Bo.word 0x49 0x11 a b off10)
  | .ldmstRev b a => .word (Bo.word 0x69 0x1 a b 0)
  | .ldmstCirc b off10 a => .word (Bo.word 0x69 0x11 a b off10)
  | .swapmskWOff b off10 a => .word (Bo.word 0x49 0x22 a b off10)
  | .swapmskWPost b off10 a => .word (Bo.word 0x49 0x2 a b off10)
  | .swapmskWPre b off10 a => .word (Bo.word 0x49 0x12 a b off10)
  | .swapmskWRev b a => .word (Bo.word 0x69 0x2 a b 0)
  | .swapmskWCirc b off10 a => .word (Bo.word 0x69 0x12 a b off10)
  | .cmpswapWOff b off10 a => .word (Bo.word 0x49 0x23 a b off10)
  | .cmpswapWPost b off10 a => .word (Bo.word 0x49 0x3 a b off10)
  | .cmpswapWPre b off10 a => .word (Bo.word 0x49 0x13 a b off10)
  | .cmpswapWRev b a => .word (Bo.word 0x69 0x3 a b 0)
  | .cmpswapWCirc b off10 a => .word (Bo.word 0x69 0x13 a b off10)
  | .swapWAbs off18 a => .word (Abs.word 0xE5 0x0 a off18)
  | .ldmstAbs off18 a => .word (Abs.word 0xE5 0x1 a off18)
  | .stT off18 bpos3 b => .word (Absb.word 0xD5 0x0 b bpos3 off18)
  | .ldBAbs a off18 => .word (Abs.word 0x5 0x0 a off18)
  | .ldBOff a b off10 => .word (Bo.word 0x9 0x20 a b off10)
  | .ldBPost a b off10 => .word (Bo.word 0x9 0x0 a b off10)
  | .ldBPre a b off10 => .word (Bo.word 0x9 0x10 a b off10)
  | .ldBRev a b => .word (Bo.word 0x29 0x0 a b 0)
  | .ldBCirc a b off10 => .word (Bo.word 0x29 0x10 a b off10)
  | .ldBuAbs a off18 => .word (Abs.word 0x5 0x1 a off18)
  | .ldBuOff a b off10 => .word (Bo.word 0x9 0x21 a b off10)
  | .ldBuPost a b off10 => .word (Bo.word 0x9 0x1 a b off10)
  | .ldBuPre a b off10 => .word (Bo.word 0x9 0x11 a b off10)
  | .ldBuRev a b => .word (Bo.word 0x29 0x1 a b 0)
  | .ldBuCirc a b off10 => .word (Bo.word 0x29 0x11 a b off10)
  | .ldHAbs a off18 => .word (Abs.word 0x5 0x2 a off18)
  | .ldHOff a b off10 => .word (Bo.word 0x9 0x22 a b off10)
  | .ldHPost a b off10 => .word (Bo.word 0x9 0x2 a b off10)
  | .ldHPre a b off10 => .word (Bo.word 0x9 0x12 a b off10)
  | .ldHRev a b => .word (Bo.word 0x29 0x2 a b 0)
  | .ldHCirc a b off10 => .word (Bo.word 0x29 0x12 a b off10)
  | .ldHuAbs a off18 => .word (Abs.word 0x5 0x3 a off18)
  | .ldHuOff a b off10 => .word (Bo.word 0x9 0x23 a b off10)
  | .ldHuPost a b off10 => .word (Bo.word 0x9 0x3 a b off10)
  | .ldHuPre a b off10 => .word (Bo.word 0x9 0x13 a b off10)
  | .ldHuRev a b => .word (Bo.word 0x29 0x3 a b 0)
  | .ldHuCirc a b off10 => .word (Bo.word 0x29 0x13 a b off10)
  | .ldWAbs a off18 => .word (Abs.word 0x85 0x0 a off18)
  | .ldWOff a b off10 => .word (Bo.word 0x9 0x24 a b off10)
  | .ldWPost a b off10 => .word (Bo.word 0x9 0x4 a b off10)
  | .ldWPre a b off10 => .word (Bo.word 0x9 0x14 a b off10)
  | .ldWRev a b => .word (Bo.word 0x29 0x4 a b 0)
  | .ldWCirc a b off10 => .word (Bo.word 0x29 0x14 a b off10)
  | .ldDAbs a off18 => .word (Abs.word 0x85 0x1 a off18)
  | .ldDOff a b off10 => .word (Bo.word 0x9 0x25 a b off10)
  | .ldDPost a b off10 => .word (Bo.word 0x9 0x5 a b off10)
  | .ldDPre a b off10 => .word (Bo.word 0x9 0x15 a b off10)
  | .ldDRev a b => .word (Bo.word 0x29 0x5 a b 0)
  | .ldDCirc a b off10 => .word (Bo.word 0x29 0x15 a b off10)
  | .ldAAbs a off18 => .word (Abs.word 0x85 0x2 a off18)
  | .ldAOff a b off10 => .word (Bo.word 0x9 0x26 a b off10)
  | .ldAPost a b off10 => .word (Bo.word 0x9 0x6 a b off10)
  | .ldAPre a b off10 => .word (Bo.word 0x9 0x16 a b off10)
  | .ldARev a b => .word (Bo.word 0x29 0x6 a b 0)
  | .ldACirc a b off10 => .word (Bo.word 0x29 0x16 a b off10)
  | .ldDaAbs a off18 => .word (Abs.word 0x85 0x3 a off18)
  | .ldDaOff a b off10 => .word (Bo.word 0x9 0x27 a b off10)
  | .ldDaPost a b off10 => .word (Bo.word 0x9 0x7 a b off10)
  | .ldDaPre a b off10 => .word (Bo.word 0x9 0x17 a b off10)
  | .ldDaRev a b => .word (Bo.word 0x29 0x7 a b 0)
  | .ldDaCirc a b off10 => .word (Bo.word 0x29 0x17 a b off10)
  | .ldWLong a b off16 => .word (Bol.word 0x19 a b off16)
  | .ldALong a b off16 => .word (Bol.word 0x99 a b off16)
  | .ldBLong a b off16 => .word (Bol.word 0x79 a b off16)
  | .ldBuLong a b off16 => .word (Bol.word 0x39 a b off16)
  | .ldHLong a b off16 => .word (Bol.word 0xC9 a b off16)
  | .ldHuLong a b off16 => .word (Bol.word 0xB9 a b off16)
  | .stBAbs off18 a => .word (Abs.word 0x25 0x0 a off18)
  | .stBOff b off10 a => .word (Bo.word 0x89 0x20 a b off10)
  | .stBPost b off10 a => .word (Bo.word 0x89 0x0 a b off10)
  | .stBPre b off10 a => .word (Bo.word 0x89 0x10 a b off10)
  | .stBRev b a => .word (Bo.word 0xA9 0x0 a b 0)
  | .stBCirc b off10 a => .word (Bo.word 0xA9 0x10 a b off10)
  | .stHAbs off18 a => .word (Abs.word 0x25 0x2 a off18)
  | .stHOff b off10 a => .word (Bo.word 0x89 0x22 a b off10)
  | .stHPost b off10 a => .word (Bo.word 0x89 0x2 a b off10)
  | .stHPre b off10 a => .word (Bo.word 0x89 0x12 a b off10)
  | .stHRev b a => .word (Bo.word 0xA9 0x2 a b 0)
  | .stHCirc b off10 a => .word (Bo.word 0xA9 0x12 a b off10)
  | .stWAbs off18 a => .word (Abs.word 0xA5 0x0 a off18)
  | .stWOff b off10 a => .word (Bo.word 0x89 0x24 a b off10)
  | .stWPost b off10 a => .word (Bo.word 0x89 0x4 a b off10)
  | .stWPre b off10 a => .word (Bo.word 0x89 0x14 a b off10)
  | .stWRev b a => .word (Bo.word 0xA9 0x4 a b 0)
  | .stWCirc b off10 a => .word (Bo.word 0xA9 0x14 a b off10)
  | .stDAbs off18 a => .word (Abs.word 0xA5 0x1 a off18)
  | .stDOff b off10 a => .word (Bo.word 0x89 0x25 a b off10)
  | .stDPost b off10 a => .word (Bo.word 0x89 0x5 a b off10)
  | .stDPre b off10 a => .word (Bo.word 0x89 0x15 a b off10)
  | .stDRev b a => .word (Bo.word 0xA9 0x5 a b 0)
  | .stDCirc b off10 a => .word (Bo.word 0xA9 0x15 a b off10)
  | .stAAbs off18 a => .word (Abs.word 0xA5 0x2 a off18)
  | .stAOff b off10 a => .word (Bo.word 0x89 0x26 a b off10)
  | .stAPost b off10 a => .word (Bo.word 0x89 0x6 a b off10)
  | .stAPre b off10 a => .word (Bo.word 0x89 0x16 a b off10)
  | .stARev b a => .word (Bo.word 0xA9 0x6 a b 0)
  | .stACirc b off10 a => .word (Bo.word 0xA9 0x16 a b off10)
  | .stDaAbs off18 a => .word (Abs.word 0xA5 0x3 a off18)
  | .stDaOff b off10 a => .word (Bo.word 0x89 0x27 a b off10)
  | .stDaPost b off10 a => .word (Bo.word 0x89 0x7 a b off10)
  | .stDaPre b off10 a => .word (Bo.word 0x89 0x17 a b off10)
  | .stDaRev b a => .word (Bo.word 0xA9 0x7 a b 0)
  | .stDaCirc b off10 a => .word (Bo.word 0xA9 0x17 a b off10)
  | .stWLong b off16 a => .word (Bol.word 0x59 a b off16)
  | .stALong b off16 a => .word (Bol.word 0xB5 a b off16)
  | .stBLong b off16 a => .word (Bol.word 0xE9 a b off16)
  | .stHLong b off16 a => .word (Bol.word 0xF9 a b off16)
  | .cacheaWOff b off10 => .word (Bo.word 0x89 0x2C 0 b off10)
  | .cacheaWPost b off10 => .word (Bo.word 0x89 0xC 0 b off10)
  | .cacheaWPre b off10 => .word (Bo.word 0x89 0x1C 0 b off10)
  | .cacheaWiOff b off10 => .word (Bo.word 0x89 0x2D 0 b off10)
  | .cacheaWiPost b off10 => .word (Bo.word 0x89 0xD 0 b off10)
  | .cacheaWiPre b off10 => .word (Bo.word 0x89 0x1D 0 b off10)
  | .cacheaIOff b off10 => .word (Bo.word 0x89 0x2E 0 b off10)
  | .cacheaIPost b off10 => .word (Bo.word 0x89 0xE 0 b off10)
  | .cacheaIPre b off10 => .word (Bo.word 0x89 0x1E 0 b off10)
  | .cacheiWOff b off10 => .word (Bo.word 0x89 0x2B 0 b off10)
  | .cacheiWPost b off10 => .word (Bo.word 0x89 0xB 0 b off10)
  | .cacheiWPre b off10 => .word (Bo.word 0x89 0x1B 0 b off10)
  | .cacheiIOff b off10 => .word (Bo.word 0x89 0x2A 0 b off10)
  | .cacheiIPost b off10 => .word (Bo.word 0x89 0xA 0 b off10)
  | .cacheiIPre b off10 => .word (Bo.word 0x89 0x1A 0 b off10)
  | .cacheiWiOff b off10 => .word (Bo.word 0x89 0x2F 0 b off10)
  | .cacheiWiPost b off10 => .word (Bo.word 0x89 0xF 0 b off10)
  | .cacheiWiPre b off10 => .word (Bo.word 0x89 0x1F 0 b off10)
  | .add c a b => .word (Rr.word 0xB 0x0 a b c 0)
  | .addC c a const9 => .word (Rc.word 0x8B 0x0 a c const9)
  | .addx c a b => .word (Rr.word 0xB 0x4 a b c 0)
  | .addxC c a const9 => .word (Rc.word 0x8B 0x4 a c const9)
  | .addc c a b => .word (Rr.word 0xB 0x5 a b c 0)
  | .addcC c a const9 => .word (Rc.word 0x8B 0x5 a c const9)
  | .addscA c b a n => .word (Rr.word 0x1 0x60 a b c n)
  | .addscAt c b a => .word (Rr.word 0x1 0x62 a b c 0)
  | .extrU c a pos width => .word (Rrpw.word 0x37 0x3 a c pos width)
  | .extrUReg c a d => .word (Rrrr.word 0x17 0x3 a c d)
  | .extrUWidth c a d width => .word (Rrrw.word 0x57 0x3 a c d width)
  | .addF c d a => .word (Rrr.word 0x6B 0x2 a 0 c d)
  | .subF c d a => .word (Rrr.word 0x6B 0x3 a 0 c d)
  | .maddF c d a b => .word (Rrr.word 0x6B 0x6 a b c d)
  | .msubF c d a b => .word (Rrr.word 0x6B 0x7 a b c d)
  | .cmpF c a b => .word (Rr.word 0x4B 0x0 a b c 0)
  | .mulF c a b => .word (Rr.word 0x4B 0x4 a b c 0)
  | .divF c a b => .word (Rr.word 0x4B 0x5 a b c 0)
  | .updfl a => .word (Rr.word 0x4B 0xC a 0 0 0)
  | .ftoi c a => .word (Rr.word 0x4B 0x10 a 0 c 0)
  | .ftoq31 c a b => .word (Rr.word 0x4B 0x11 a b c 0)
  | .ftou c a => .word (Rr.word 0x4B 0x12 a 0 c 0)
  | .ftoiz c a => .word (Rr.word 0x4B 0x13 a 0 c 0)
  | .itof c a => .word (Rr.word 0x4B 0x14 a 0 c 0)
  | .q31tof c a b => .word (Rr.word 0x4B 0x15 a b c 0)
  | .utof c a => .word (Rr.word 0x4B 0x16 a 0 c 0)
  | .ftouz c a => .word (Rr.word 0x4B 0x17 a 0 c 0)
  | .ftoq31z c a b => .word (Rr.word 0x4B 0x18 a b c 0)
  | .qseedF c a => .word (Rr.word 0x4B 0x19 a 0 c 0)
  | .hptof c a => .word (Rr.word 0x4B 0x24 a 0 c 0)
  | .ftohp c a => .word (Rr.word 0x4B 0x25 a 0 c 0)
  | .movConst c const16 => .word (Rlc.word 0x3B 0 c const16)
  | .movh c const16 => .word (Rlc.word 0x7B 0 c const16)
  | .movhA c const16 => .word (Rlc.word 0x91 0 c const16)
  | .addi c a const16 => .word (Rlc.word 0x1B a c const16)
  | .mov c b => .word (Rr.word 0xB 0x1F 0 b c 0)
  | .movA c b => .word (Rr.word 0x1 0x63 0 b c 0)
  | .movD c b => .word (Rr.word 0x1 0x4C 0 b c 0)
  | .movAa c b => .word (Rr.word 0x1 0x0 0 b c 0)
  | .sub c a b => .word (Rr.word 0xB 0x8 a b c 0)
  | .and c a b => .word (Rr.word 0xF 0x8 a b c 0)
  | .andC c a const9 => .word (Rc.word 0x8F 0x8 a c const9)
  | .or c a b => .word (Rr.word 0xF 0xA a b c 0)
  | .orC c a const9 => .word (Rc.word 0x8F 0xA a c const9)
  | .xor c a b => .word (Rr.word 0xF 0xC a b c 0)
  | .xorC c a const9 => .word (Rc.word 0x8F 0xC a c const9)
  | .eq c a b => .word (Rr.word 0xB 0x10 a b c 0)
  | .eqC c a const9 => .word (Rc.word 0x8B 0x10 a c const9)
  | .lt c a b => .word (Rr.word 0xB 0x12 a b c 0)
  | .ltC c a const9 => .word (Rc.word 0x8B 0x12 a c const9)
  | .j disp24 => .word (B.word 0x1D disp24)
  | .ja disp24 => .word (B.word 0x9D disp24)
  | .jla disp24 => .word (B.word 0xDD disp24)
  | .ji a => .word (Rr.word 0x2D 0x3 a 0 0 0)
  | .jli a => .word (Rr.word 0x2D 0x2 a 0 0 0)
  | .jeq a b disp15 => .word (Brr.word 0x5F 0x0 a b disp15)
  | .jeqC a const4 disp15 => .word (Brc.word 0xDF 0x0 a const4 disp15)
  | .jne a b disp15 => .word (Brr.word 0x5F 0x1 a b disp15)
  | .jneC a const4 disp15 => .word (Brc.word 0xDF 0x1 a const4 disp15)
  | .jnzT a n disp15 => .word (Brn.word 0x6F 0x1 a disp15 n)
  | .loop b disp15 => .word (Brr.word 0xFD 0x0 0 b disp15)
  | .mov16C a const4 => .half (Src.word 0x82 a const4)
  | .mov16R a b => .half (Srr.word 0x2 a b)
  | .add16C a const4 => .half (Src.word 0xC2 a const4)
  | .add16R a b => .half (Srr.word 0x42 a b)
  | .ldW16 c b => .half (Slr.word 0x54 b c)
  | .stW16 b a => .half (Ssr.word 0x74 a b)
  | .mfdcr _ _ => .unknown
  | .mtdcr _ _ => .unknown
  | .hvcall _ => .unknown
  | .rfh => .unknown
  | .jri _ => .unknown
  | .trapinv => .unknown
  | .ldDd _ _ => .unknown
  | .stDd _ _ => .unknown
  | .absF _ _ => .unknown
  | .negF _ _ => .unknown
  | .minF _ _ _ => .unknown
  | .maxF _ _ _ => .unknown
  | .ftoin _ _ => .unknown
  | .addDf _ _ _ => .unknown
  | .subDf _ _ _ => .unknown
  | .mulDf _ _ _ => .unknown
  | .divDf _ _ _ => .unknown
  | .maddDf _ _ _ _ => .unknown
  | .msubDf _ _ _ _ => .unknown
  | .cmpDf _ _ _ => .unknown
  | .qseedDf _ _ => .unknown
  | .dftoi _ _ => .unknown
  | .dftoin _ _ => .unknown
  | .dftoiz _ _ => .unknown
  | .dftou _ _ => .unknown
  | .dftouz _ _ => .unknown
  | .dftol _ _ => .unknown
  | .dftolz _ _ => .unknown
  | .dftoul _ _ => .unknown
  | .dftoulz _ _ => .unknown
  | .ltodf _ _ => .unknown

/-- The bytes of an instruction, the lowest address first; none where the spec gives no encoding. -/
def encode (i : Instr) : List Byte :=
  match i.encoding with
  | .half w => [w.extractLsb' 0 8, w.extractLsb' 8 8]
  | .word w => [w.extractLsb' 0 8, w.extractLsb' 8 8, w.extractLsb' 16 8, w.extractLsb' 24 8]
  | .unknown => []

/-- The length of an instruction in bytes (R300); 4 where the spec gives no encoding (PRESUMED,
notes/assumptions/23.md). -/
def Instr.ilen (i : Instr) : Nat :=
  match i.encoding with
  | .half _ => 2
  | .word _ => 4
  | .unknown => 4

end Sys2Proof
end

