-- ==== Sys2Proof/Machine/Bits.lean ====
section
/-! DEFINITION. Bits and fields of a word (00_scope R13): `bit`, `field`, `setBit`, `setField`. -/

namespace Sys2Proof.Machine

/-- Bit `i` of a word. -/
def bit (w : Word) (i : Nat) : Bool := w.getLsbD i

/-- The `len` bits of a word from bit `lo` up. -/
def field (w : Word) (lo len : Nat) : BitVec len := w.extractLsb' lo len

/-- A word with bit `i` replaced. -/
def setBit (w : Word) (i : Nat) (b : Bool) : Word :=
  (w &&& ~~~(1#32 <<< i)) ||| ((BitVec.ofBool b).setWidth 32 <<< i)

/-- A word with the `len` bits from bit `lo` up replaced. -/
def setField (w : Word) (lo : Nat) {len : Nat} (v : BitVec len) : Word :=
  (w &&& ~~~((BitVec.allOnes len).setWidth 32 <<< lo)) ||| (v.setWidth 32 <<< lo)

/-- A word that takes the bits of `new` where `mask` is 1 and keeps those of `old` elsewhere. -/
def merge (mask new old : Word) : Word := (new &&& mask) ||| (old &&& ~~~mask)

/-- Sign extension to 32 bits (00_scope R14). -/
def sext {n : Nat} (v : BitVec n) : Word := v.signExtend 32

/-- Zero extension to 32 bits (00_scope R14). -/
def zext {n : Nat} (v : BitVec n) : Word := v.setWidth 32

/-- A code address with bit 0 cleared (10_state R46). -/
def even (a : Word) : Word := a &&& 0xFFFFFFFE#32

/-- The segment of an address (20_memory R220). -/
def segment (a : Word) : BitVec 4 := a.extractLsb' 28 4

/-- Byte `k` of a little-endian datum (20_memory R213). -/
def byteOf (v k : Nat) : Byte := BitVec.ofNat 8 (v >>> (8 * k))

end Sys2Proof.Machine
end

