-- ==== Sys2Proof/Machine/Flags.lean ====
section
/-! DEFINITION. The fields of PSW (10_state R47 to R50), PCXI (R51) and ICR (R67), and every flag computation: the
integer status bits C, V, SV, AV, SAV (43_integer R490 to R494) and the FPU's view of PSW[31:24] (44_fpu R560). -/

namespace Sys2Proof.Machine

/-! ## PSW -/

/-- PSW.IO (R47). -/
def pswIo (p : Word) : BitVec 2 := field p 10 2

/-- PSW.PRS, whose bit 2 is PSW[15] (R47). -/
def pswPrs (p : Word) : BitVec 3 := p.extractLsb' 15 1 ++ p.extractLsb' 12 2

/-- PSW with another PRS. -/
def pswSetPrs (p : Word) (v : BitVec 3) : Word := setField (setField p 12 (v.extractLsb' 0 2)) 15 (v.extractLsb' 2 1)

/-- PSW.IS: the shared interrupt stack is in use (R47). -/
def pswIs (p : Word) : Bool := bit p 9

/-- PSW.GW: the global address registers may be written (R47). -/
def pswGw (p : Word) : Bool := bit p 8

/-- PSW.CDE (R47). -/
def pswCde (p : Word) : Bool := bit p 7

/-- PSW.CDC (R47). -/
def pswCdc (p : Word) : BitVec 7 := field p 0 7

/-- PSW.RM, the rounding mode (44_fpu R560). -/
def pswRm (p : Word) : BitVec 2 := field p 24 2

/-- PSW.C (R48). -/
def pswC (p : Word) : Bool := bit p 31

/-- PSW.V (R48). -/
def pswV (p : Word) : Bool := bit p 30

/-- PSW.SV (R48). -/
def pswSv (p : Word) : Bool := bit p 29

/-- The number of leading 1 bits of CDC (10_state R50, 41_context R400). -/
def cdcLead (c : BitVec 7) : Nat :=
  if !c.getLsbD 6 then 0 else if !c.getLsbD 5 then 1 else if !c.getLsbD 4 then 2 else if !c.getLsbD 3 then 3
  else if !c.getLsbD 2 then 4 else if !c.getLsbD 1 then 5 else if !c.getLsbD 0 then 6 else 7

/-- CDC.COUNT: the low `6 - k` bits, `k` the leading 1 bits (R50). -/
def cdcCount (c : BitVec 7) : Nat := c.toNat % 2 ^ (6 - cdcLead c)

/-- Call depth counting is on: CDE is 1 and CDC is not 1111111B (R47, R400). -/
def cdcCounts (p : Word) : Bool := pswCde p && cdcLead (pswCdc p) != 7

/-- COUNT is at its maximum; with CDC = 1111110B it always is (R400). -/
def cdcFull (p : Word) : Bool := cdcCount (pswCdc p) == 2 ^ (6 - cdcLead (pswCdc p)) - 1

/-- COUNT is 0 (R401). -/
def cdcZero (p : Word) : Bool := cdcCount (pswCdc p) == 0

/-- The PSW of a handler, before S and the user status bits (60_exceptions R805, R840): IS = 1, IO = 10B, PRS = 0,
CDC = 0, CDE = 1, GW = 0. -/
def pswHandler (p : Word) : Word :=
  setField (setBit (setBit (setBit (setField (pswSetPrs p 0) 10 0b10#2) 9 true) 8 false) 7 true) 0 0#7

/-- PSW with another S bit (R47). -/
def pswSetS (p : Word) (s : Bool) : Word := setBit p 14 s

/-! ## PCXI and ICR -/

/-- PCXI[19:0], the pointer PCX (10_state R51, R52). -/
def pcx (p : Word) : BitVec 20 := field p 0 20

/-- PCXI.UL: 1 for an upper context (R51). -/
def pcxiUl (p : Word) : Bool := bit p 20

/-- PCXI.PIE (R51). -/
def pcxiPie (p : Word) : Bool := bit p 21

/-- PCXI.PCPN (R51). -/
def pcxiPcpn (p : Word) : BitVec 8 := field p 22 8

/-- PCXI with PIE and PCPN replaced (60_exceptions R805). -/
def pcxiSetInfo (p : Word) (pie : Bool) (pcpn : BitVec 8) : Word := setField (setBit p 21 pie) 22 pcpn

/-- PCXI with UL and the pointer replaced (41_context R392). -/
def pcxiSetLink (p : Word) (ul : Bool) (ptr : BitVec 20) : Word := setField (setBit p 20 ul) 0 ptr

/-- ICR.CCPN (R67). -/
def icrCcpn (i : Word) : BitVec 8 := field i 0 8

/-- ICR.IE (R67). -/
def icrIe (i : Word) : Bool := bit i 15

/-- ICR.PIPN (R67). -/
def icrPipn (i : Word) : BitVec 8 := field i 16 8

/-! ## The integer status flags (43_integer R490 to R494) -/

/-- An exact signed result outside the 32-bit range (R492). -/
def overflows (result : Int) : Bool := decide (2 ^ 31 - 1 < result) || decide (result < -(2 ^ 31))

/-- Advance overflow: bits 31 and 30 of the result written differ (R493). -/
def advances (w : Word) : Bool := bit w 31 != bit w 30

/-- PSW after an arithmetic instruction with the exact result `result`: V, SV, AV, SAV (R492, R493). -/
def arithFlags (p : Word) (result : Int) : Word :=
  let v := overflows result
  let av := advances (BitVec.ofInt 32 result)
  setBit (setBit (setBit (setBit p 30 v) 29 (bit p 29 || v)) 28 av) 27 (bit p 27 || av)

/-- PSW with the carry replaced (R491). -/
def setCarry (p : Word) (c : Bool) : Word := setBit p 31 c

/-- The carry out of bit 31 of an unsigned addition (R496, R497). -/
def carryOut (a b : Word) (c : Bool) : Bool := decide (2 ^ 32 ≤ a.toNat + b.toNat + c.toNat)

end Sys2Proof.Machine
end

