-- ==== Sys2Proof/Config.lean ====
section
/-! DEFINITION. What an implementation fixes (00_scope R9, 93 Part 2), as plain data: State carries one `Config`, no
step changes it, and a statement about every state is a statement about every configuration. Beside it the FREE
VALUES: constants with no body, so that nothing can be proved about what they are (notes/assumptions/6.md). -/

namespace Sys2Proof

/-- What stands behind a range of addresses (20_memory R225). An address in no region is unmapped. -/
inductive RegionKind where
  /-- Ordinary memory. -/
  | ram
  /-- A device's registers: what a read gives and what a write does is the device's own. -/
  | device
deriving DecidableEq, Repr

/-- One entry of MEM_MAP (20_memory R225): the addresses `base` to `base + size - 1`. -/
structure Region where
  base : Nat
  size : Nat
  kind : RegionKind
deriving DecidableEq, Repr

/-- Where a scratchpad memory of this core is seen in the core's image segment (20_memory R224, Table 12): the offset
of its first byte in the segment and its size. -/
structure ScratchImage where
  offset : Nat
  size : Nat
deriving DecidableEq, Repr

/-- One entry of the decoder's own table (30_encoding R312, `decode : ... -> Option (Instr, ilen)`): the fetched word, a
16-bit instruction zero-extended, the instruction it stands for and its length in bytes; `none` is a word that is no
instruction. -/
structure CodeRow where
  word : Word
  instr : Option (Instr × Nat)
deriving DecidableEq, Repr

/-- One entry of HV_CSFR_LIST (46_virtualization R726): a CSFR offset whose read or write by a guest raises HVCSFR. -/
structure HvCsfr where
  offset  : BitVec 16
  onRead  : Bool
  onWrite : Bool
deriving DecidableEq, Repr

/-- The parameters of 00_scope R9 and 93 Part 2. -/
structure Config where
  /-- HAS_SP_FPU. -/
  hasSpFpu : Bool
  /-- HAS_DP_FPU (it requires HAS_SP_FPU). -/
  hasDpFpu : Bool
  /-- HAS_VIRT. -/
  hasVirt : Bool
  /-- TCCON_OVL. -/
  tcconOvl : Bool
  /-- N_DPR, the number of data protection ranges, 4 to 32. -/
  nDpr : Nat
  /-- N_CPR, the number of code protection ranges, 4 to 32. -/
  nCpr : Nat
  /-- N_PRS, the number of protection sets, 2 to 8. -/
  nPrs : Nat
  /-- N_TRIG, the number of debug triggers, at most 8. -/
  nTrig : Nat
  /-- N_BRKINT, the number of breakpoint interrupts, 1 to 4. -/
  nBrkInt : Nat
  /-- BOOT_HALT: the core leaves reset halted (70_reset R932). -/
  bootHalt : Bool
  /-- CROSS_RANGE_TRAP: every byte of a data access is checked, not the first alone (20_memory R256). -/
  crossRangeTrap : Bool
  /-- HAS_OPD_TRAP: a bad pair or quad specifier raises OPD (60_exceptions R829). -/
  hasOpdTrap : Bool
  /-- PROT_WRITE_OPD: a write to a protected CSFR raises OPD (42_system R456). -/
  protWriteOpd : Bool
  /-- The choice of 93 U16: MFDCR and MTDCR of a half-defined pair raise OPD (true) or access the defined half. -/
  halfPairOpd : Bool
  /-- CPU_ID_VALUE (10_state R59). -/
  cpuId : Word
  /-- CORE_ID_VALUE (10_state R60). -/
  coreId : BitVec 3
  /-- JZ.T D[15], n, disp4 extends the sign of its displacement, as 30_encoding R307 writes for every relative branch,
  and not with zeros, as opcode_table.json writes for this row (notes/assumptions/49.md). -/
  disp4Signed : Bool
  /-- RESET_PC (70_reset R933). -/
  resetPc : Word
  /-- CSFR_BASE of the HRA image and the bases of the HRHV and HRB images (46_virtualization R708). -/
  csfrBaseHv : Word
  csfrBaseA : Word
  csfrBaseB : Word
  /-- SEG_ATTR: the writable bits of PMA0.DAC, PMA1.CAC and PMA2.PSD (20_memory R236). -/
  pma0Mask : BitVec 16
  pma1Mask : BitVec 16
  pma2Mask : BitVec 16
  /-- Where COMPAT.RM and COMPAT.ESEN lie; the spec names the two bits and gives no position (10_state R63). -/
  compatRm : Fin 32
  compatEsen : Fin 32
  /-- HV_CSFR_LIST. -/
  hvCsfrs : List HvCsfr
  /-- MEM_MAP. -/
  memMap : List Region
  /-- The images of the core's program and data scratchpad in its image segment, 7 - CORE_ID (20_memory R224). -/
  psprImage : ScratchImage
  dsprImage : ScratchImage
  /-- The decoder as a parameter (30_encoding R312, R316, 92 D39): the words that it reads in another way than
  opcode_table.json, which has the rest; in particular the words of the instructions that the table gives no encoding.
  The first row of a word counts. -/
  codes : List CodeRow
deriving DecidableEq, Repr

/-- The ranges the manual allows for the counted parameters (00_scope R9), and images that lie in one segment. -/
def Config.legal (c : Config) : Bool :=
  (c.hasSpFpu || !c.hasDpFpu) && 4 ≤ c.nDpr && c.nDpr ≤ 32 && 4 ≤ c.nCpr && c.nCpr ≤ 32 && 2 ≤ c.nPrs && c.nPrs ≤ 8 &&
    c.nTrig ≤ 8 && 1 ≤ c.nBrkInt && c.nBrkInt ≤ 4 && c.psprImage.offset + c.psprImage.size ≤ 2 ^ 28 &&
    c.dsprImage.offset + c.dsprImage.size ≤ 2 ^ 28

/-- DESIGN CHOICE (unsafe, notes/assumptions/2.md): the configuration of `State.reset`, the reference one of
92_eei_decisions.md, with values of the model's own where that file names none: RAM in segments 0H to DH, device
registers in segments EH and FH, the reset PC 8000 0000H, the CSFR images in segment FH, 1 MByte of each scratchpad
seen in segment 7H, the displacement of the 16-bit JZ.T zero-extended, no word decoded in another way than
opcode_table.json. -/
def Config.reference : Config where
  hasSpFpu := true
  hasDpFpu := true
  hasVirt := true
  tcconOvl := false
  nDpr := 24
  nCpr := 24
  nPrs := 8
  nTrig := 8
  nBrkInt := 1
  bootHalt := false
  crossRangeTrap := true
  hasOpdTrap := true
  protWriteOpd := true
  halfPairOpd := true
  cpuId := 0x00C0C001#32
  coreId := 0#3
  disp4Signed := false
  resetPc := 0x80000000#32
  csfrBaseHv := 0xF8800000#32
  csfrBaseA := 0xF8810000#32
  csfrBaseB := 0xF8820000#32
  pma0Mask := 0x5FFF#16
  pma1Mask := 0x6FFF#16
  pma2Mask := 0x3FFF#16
  compatRm := 3
  compatEsen := 4
  hvCsfrs := []
  memMap := [⟨0, 0xE0000000, .ram⟩, ⟨0xE0000000, 0x20000000, .device⟩]
  psprImage := ⟨0x100000, 0x100000⟩
  dsprImage := ⟨0, 0x100000⟩
  codes := []

/-! ## Free values -/

/-- DESIGN CHOICE (safe, notes/assumptions/6.md): an unconstrained 32-bit value, one for each number of a draw and
each use within the draw. It has no body: a claim that holds, holds whatever it is. -/
opaque Config.free (draw use : Nat) : Word

/-- QSEED_APPROX (44_fpu R571): the seed of QSEED.F on an ordinary operand; any function (notes/assumptions/29.md). -/
opaque Config.qseed (x : Word) : Word

/-- QSEED_APPROX_DF (44_fpu R608): the same for QSEED.DF. -/
opaque Config.qseedDf (x : Dword) : Dword

/-- Whether QSEED.F asserts FX on an ordinary operand under a rounding mode; any function (44 R571, 91 N-44-2,
notes/assumptions/29.md). -/
opaque Config.qseedInexact (rm : BitVec 2) (x : Word) : Bool

/-- The same for QSEED.DF, a function of its own (44 R608, notes/assumptions/29.md). -/
opaque Config.qseedDfInexact (rm : BitVec 2) (x : Dword) : Bool

/-- PERF_EVENTS (60_exceptions R923): how many events counter `k` with selector `sel` sees in one step. -/
opaque Config.perfEvents (k : Nat) (sel : BitVec 3) (draw : Nat) : Nat

end Sys2Proof
end

