-- ==== Sys2Proof/Machine/State.lean ====
section
/-! DEFINITION. The machine's state as plain data: every register of 10_state and the chapters it points to, memory,
the hidden state of 10_state R108, and the model's own fields (the CSFR update window, the draw counter, the schedule,
the output). INVENTORY.md lists each piece with its rule and its reset value. -/

namespace Sys2Proof.Machine

/-- The hardware resources of 46_virtualization R694. -/
inductive Resource where
  /-- HRHV, of the hypervisor (VM0). -/
  | hv
  /-- HRA, of VM1, and of a core without virtualization. -/
  | a
  /-- HRB, of VM2 to VM7. -/
  | b
deriving DecidableEq, Repr

/-- The CSFRs of which every hardware resource has its own copy (46_virtualization R702, group "replicated"). -/
inductive RepReg where
  /-- FCX, free CSA list head pointer (10_state R65). -/
  | fcx
  /-- LCX, free CSA list limit pointer (R66). -/
  | lcx
  /-- ISP, interrupt stack pointer (R55). -/
  | isp
  /-- BIV, base of the interrupt vector table (R68). -/
  | biv
  /-- BTV, base of the trap vector table (R69). -/
  | btv
  /-- CORECON, core control (R58). -/
  | corecon
  /-- COMPAT, compatibility mode (R63). -/
  | compat
  /-- SMACON, SIST mode access control (R64). -/
  | smacon
  /-- PSTR, program synchronous error trap (R70). -/
  | pstr
  /-- DSTR, data synchronous error trap (R71). -/
  | dstr
  /-- DATR, data asynchronous error trap (R72). -/
  | datr
  /-- DEADD, data error address (R73). -/
  | deadd
  /-- PIETR, program integrity error trap (R74). -/
  | pietr
  /-- PIEAR, program integrity error address (R75). -/
  | piear
  /-- DIETR, data integrity error trap (R76). -/
  | dietr
  /-- DIEAR, data integrity error address (R77). -/
  | diear
  /-- PMA0, data cacheability (R78). -/
  | pma0
  /-- PMA1, code cacheability (R79). -/
  | pma1
  /-- PMA2, peripheral space designator (R80). -/
  | pma2
  /-- PCON0 (R81). -/
  | pcon0
  /-- PCON1 (R82). -/
  | pcon1
  /-- PCON2 (R83). -/
  | pcon2
  /-- DCON0 (R84). -/
  | dcon0
  /-- DCON1 (R85). -/
  | dcon1
  /-- DCON2 (R86). -/
  | dcon2
  /-- TPS_CON, temporal protection control (R95). -/
  | tpsCon
  /-- CCTRL, counter control (R96). -/
  | cctrl
  /-- CCNT, clock cycle count (R97). -/
  | ccnt
  /-- ICNT, instruction count (R98). -/
  | icnt
  /-- FPU_TRAP_CON (44_fpu R590). -/
  | fpuTrapCon
  /-- FPU_TRAP_PC (R591). -/
  | fpuTrapPc
  /-- FPU_TRAP_OPC (R592). -/
  | fpuTrapOpc
  /-- FPU_TRAP_SRC1_L (R593). -/
  | fpuSrc1L
  /-- FPU_TRAP_SRC1_U (R594). -/
  | fpuSrc1U
  /-- FPU_TRAP_SRC2_L (R595). -/
  | fpuSrc2L
  /-- FPU_TRAP_SRC2_U (R596). -/
  | fpuSrc2U
  /-- FPU_TRAP_SRC3_L (R597). -/
  | fpuSrc3L
  /-- FPU_TRAP_SRC3_U (R598). -/
  | fpuSrc3U
  /-- FPU_SYNC_TRAP_CON (R599). -/
  | fpuSyncCon
  /-- FPU_SYNC_TRAP_OPC (R600). -/
  | fpuSyncOpc
  /-- TPS_TIMER0 to TPS_TIMER2 (10_state R94). -/
  | tpsTimer (n : Fin 3)
  /-- M1CNT to M3CNT, as `mcnt 0` to `mcnt 2` (R99 to R101). -/
  | mcnt (n : Fin 3)
  /-- DPRE_x, data read enables of set x (R91). -/
  | dpre (n : Fin 8)
  /-- DPWE_x, data write enables of set x (R92). -/
  | dpwe (n : Fin 8)
  /-- CPXE_x, execute enables of set x (R93). -/
  | cpxe (n : Fin 8)
  /-- DPRn_L (R87). -/
  | dprL (n : Fin 32)
  /-- DPRn_U (R88). -/
  | dprU (n : Fin 32)
  /-- CPRn_L (R89). -/
  | cprL (n : Fin 32)
  /-- CPRn_U (R90). -/
  | cprU (n : Fin 32)
deriving DecidableEq, Repr

/-- The place of a register in its bank. -/
def RepReg.index : RepReg → Fin 198
  | .fcx => 0
  | .lcx => 1
  | .isp => 2
  | .biv => 3
  | .btv => 4
  | .corecon => 5
  | .compat => 6
  | .smacon => 7
  | .pstr => 8
  | .dstr => 9
  | .datr => 10
  | .deadd => 11
  | .pietr => 12
  | .piear => 13
  | .dietr => 14
  | .diear => 15
  | .pma0 => 16
  | .pma1 => 17
  | .pma2 => 18
  | .pcon0 => 19
  | .pcon1 => 20
  | .pcon2 => 21
  | .dcon0 => 22
  | .dcon1 => 23
  | .dcon2 => 24
  | .tpsCon => 25
  | .cctrl => 26
  | .ccnt => 27
  | .icnt => 28
  | .fpuTrapCon => 29
  | .fpuTrapPc => 30
  | .fpuTrapOpc => 31
  | .fpuSrc1L => 32
  | .fpuSrc1U => 33
  | .fpuSrc2L => 34
  | .fpuSrc2U => 35
  | .fpuSrc3L => 36
  | .fpuSrc3U => 37
  | .fpuSyncCon => 38
  | .fpuSyncOpc => 39
  | .tpsTimer n => ⟨40 + n.val, by omega⟩
  | .mcnt n => ⟨43 + n.val, by omega⟩
  | .dpre n => ⟨46 + n.val, by omega⟩
  | .dpwe n => ⟨54 + n.val, by omega⟩
  | .cpxe n => ⟨62 + n.val, by omega⟩
  | .dprL n => ⟨70 + n.val, by omega⟩
  | .dprU n => ⟨102 + n.val, by omega⟩
  | .cprL n => ⟨134 + n.val, by omega⟩
  | .cprU n => ⟨166 + n.val, by omega⟩

/-- The CSFRs of which there is one copy: the hypervisor's, the debug system's, BOOTCON and CCON (46_virtualization
R702). -/
inductive SysReg where
  /-- VCON0 (46_virtualization R761). -/
  | vcon0
  /-- VCON1, whose CVMN is the running machine (R762). -/
  | vcon1
  /-- VCON2 (R763). -/
  | vcon2
  /-- BHV, base of the hypervisor trap vector table (R764). -/
  | bhv
  /-- BOOTCON (10_state R61). -/
  | bootcon
  /-- CCON (R102). -/
  | ccon
  /-- DBGSR (45_debug R660). -/
  | dbgsr
  /-- EXEVT (R662). -/
  | exevt
  /-- CREVT (R663). -/
  | crevt
  /-- SWEVT (R664). -/
  | swevt
  /-- DBGACT (R665). -/
  | dbgact
  /-- TRIG_ACC (R670). -/
  | trigAcc
  /-- DMS (R671). -/
  | dms
  /-- DCX (R672). -/
  | dcx
  /-- DBGTCR (R673). -/
  | dbgtcr
  /-- DBGCFG (R674). -/
  | dbgcfg
  /-- TRCCFG (R675). -/
  | trccfg
  /-- TRCFLT (R676). -/
  | trcflt
  /-- TRCLIM (R677). -/
  | trclim
  /-- VMn_ICR; ICR is the running machine's (46_virtualization R712, R765). -/
  | vmIcr (n : Fin 8)
  /-- VMn_PETHRESH (R766). -/
  | vmPeThresh (n : Fin 8)
  /-- TRnEVT (45_debug R668). -/
  | trEvt (n : Fin 8)
  /-- TRnADR (R669). -/
  | trAdr (n : Fin 8)
deriving DecidableEq, Repr

/-- The place of a register in its bank. -/
def SysReg.index : SysReg → Fin 51
  | .vcon0 => 0
  | .vcon1 => 1
  | .vcon2 => 2
  | .bhv => 3
  | .bootcon => 4
  | .ccon => 5
  | .dbgsr => 6
  | .exevt => 7
  | .crevt => 8
  | .swevt => 9
  | .dbgact => 10
  | .trigAcc => 11
  | .dms => 12
  | .dcx => 13
  | .dbgtcr => 14
  | .dbgcfg => 15
  | .trccfg => 16
  | .trcflt => 17
  | .trclim => 18
  | .vmIcr n => ⟨19 + n.val, by omega⟩
  | .vmPeThresh n => ⟨27 + n.val, by omega⟩
  | .trEvt n => ⟨35 + n.val, by omega⟩
  | .trAdr n => ⟨43 + n.val, by omega⟩

/-- A core special function register of the map of 10_state R105. -/
inductive Csfr where
  /-- A replicated register. -/
  | rep (r : RepReg)
  /-- A single-copy register. -/
  | sys (r : SysReg)
  /-- PCXI, of which PCX is the low part (10_state R51, R52). -/
  | pcxi
  /-- PSW (R47). -/
  | psw
  /-- PC (R46). -/
  | pc
  /-- PPRS (R53). -/
  | pprs
  /-- ICR: the running machine's VMn_ICR (R67, 46_virtualization R712). -/
  | icr
  /-- CPU_ID (R59). -/
  | cpuId
  /-- CORE_ID (R60). -/
  | coreId
  /-- TCCON (R62). -/
  | tccon
  /-- The global address register A[0], A[1], A[8] or A[9], reached by the hypervisor (46_virtualization R706). -/
  | ga (n : Fin 4)
deriving DecidableEq, Repr

/-- One hardware resource: the global address registers and the replicated CSFRs. -/
structure HrSet where
  /-- A[0], A[1], A[8], A[9], in this order (46_virtualization R706). -/
  ga   : Vector Word 4
  /-- The replicated CSFRs, at `RepReg.index`. -/
  regs : Vector Word 198
deriving DecidableEq, Repr

/-- A CSFR update that no synchronising event has followed yet (70_reset R950): the value the register had before. -/
structure Stale where
  res : Resource
  reg : Csfr
  old : Word
deriving DecidableEq, Repr

/-- What the world outside the core can do between two instructions (93 Part 2, 'Host inputs'). -/
inductive HostEvent where
  /-- The interrupt router presents a pending priority number for a virtual machine (60_exceptions R792). -/
  | setPipn (vm : Fin 8) (pipn : Byte)
  /-- NMI is requested (60 R851). -/
  | nmi
  /-- An earlier store, cache operation or write-back is answered with a bus error (60 R847). -/
  | dae
  /-- An uncorrectable data memory integrity error, met by an operation that accessed `addr` (60 R849, 10_state R77). -/
  | die (addr : Word)
  /-- The next fetch meets an uncorrectable program memory integrity error where it accesses `addr` (60 R849, 10_state
  R75). -/
  | fetchError (addr : Word)
  /-- Break-in is asserted (45_debug R621). -/
  | breakIn
  /-- The level of suspend-in changes (45 R621, R645). -/
  | suspendIn (level : Bool)
  /-- The system sets or clears DBGSR.DE (45 R622). -/
  | debugEnable (level : Bool)
  /-- ENDINIT opens or closes (10_state R56). -/
  | endinit (isOpen : Bool)
  /-- SAFETY_ENDINIT opens or closes (10_state R57). -/
  | safetyEndinit (isOpen : Bool)
  /-- Another master reads `size` bytes of memory, in one step (20_memory R272, 45_debug R620, R621). -/
  | readMem (addr : Word) (size : Nat)
  /-- Another master writes `size` bytes of memory, in one step (20_memory R272, 92 D14): a single access, a 64-byte
  context, or the store of its atomic read-modify-write. -/
  | writeMem (addr : Word) (size value : Nat)
  /-- Another master reads a CSFR through a resource's image (20 R226, 46 R708). -/
  | readCsfr (res : Resource) (offset : BitVec 16)
  /-- Another master writes a CSFR through a resource's image. -/
  | writeCsfr (res : Resource) (offset : BitVec 16) (value : Word)
  /-- One CPU clock cycle more (60 R912). -/
  | tick
  /-- Reset (70 R930). -/
  | reset
deriving DecidableEq, Repr

/-- One entry of the schedule: what the next step is (notes/assumptions/8.md, 9.md). -/
inductive Sched where
  /-- The core takes its next step, and takes what is pending at this boundary. -/
  | core
  /-- The core executes its next instruction and lets every pending request wait (60 R801, R850: the manual gives no
  latency; 45 R625). -/
  | hold
  /-- A host event. -/
  | host (e : HostEvent)
deriving DecidableEq, Repr

/-- What the core tells the host. -/
inductive OutEvent where
  /-- An interrupt of a virtual machine has been accepted (60 R792). -/
  | accepted (vm : Fin 8) (pipn : Byte)
  /-- A pulse on break-out (45 R636). -/
  | breakOut
  /-- A breakpoint interrupt is posted (45 R654). -/
  | breakInterrupt (k : Nat)
  /-- A read of `size` bytes from a device or from peripheral space; `supervisor` is the mode it is presented with
  (60 R902), `safe` is PSW.S (60 R905). -/
  | busRead (addr size : Nat) (supervisor safe : Bool)
  /-- A write of `size` bytes to a device or to peripheral space, presented likewise. -/
  | busWrite (addr size value : Nat) (supervisor safe : Bool)
  /-- The answer to a host read of a CSFR; `none` is a bus error (46 R703). -/
  | csfrValue (res : Resource) (offset : BitVec 16) (value : Option Word)
  /-- A host write to a CSFR image is answered with a bus error (46 R703). -/
  | csfrError (res : Resource) (offset : BitVec 16)
  /-- The answer to a host read of memory; `none` is a bus error (20_memory R225, 45 R621). -/
  | memValue (addr : Word) (size : Nat) (value : Option Nat)
  /-- A host write to where nothing is, is answered with a bus error (20_memory R225). -/
  | memError (addr : Word) (size : Nat)
deriving DecidableEq, Repr

/-- The machine. -/
structure State where
  /-- The configuration; no step changes it. -/
  cfg : Config
  /-- PC (10_state R46). -/
  pc : Word
  /-- PSW (R47). -/
  psw : Word
  /-- PSW[23:16] have become undefined by an MTCR or MTDCR, until reset (R49, 93 U3). -/
  pswUndef : Bool
  /-- PCXI (R51). -/
  pcxi : Word
  /-- PPRS (R53). -/
  pprs : Word
  /-- D[0] to D[15] (R41). -/
  d : Vector Word 16
  /-- A[2] to A[7] and A[10] to A[15] (R42, R45). -/
  ca : Vector Word 12
  /-- HRHV. -/
  hv : HrSet
  /-- HRA. -/
  hra : HrSet
  /-- HRB. -/
  hrb : HrSet
  /-- The single-copy CSFRs, at `SysReg.index`. -/
  sys : Vector Word 51
  /-- pending_NMI (60 R850). -/
  pendNmi : Bool
  /-- pending_DAE. -/
  pendDae : Bool
  /-- pending_CAE. -/
  pendCae : Bool
  /-- pending_DIE, with the address that the operation in error accessed (10_state R77, notes/assumptions/60.md). -/
  pendDie : Option Word
  /-- Break-in has been asserted and not yet recognised (45 R625). -/
  breakIn : Bool
  /-- The performance counters' task-mode gate (60 R921). -/
  taskGate : Bool
  /-- VCON0 has been written since reset (46 R761). -/
  vcon0Written : Bool
  /-- ENDINIT_OPEN (10_state R56). -/
  endinitOpen : Bool
  /-- SAFETY_ENDINIT_OPEN (R57). -/
  safetyOpen : Bool
  /-- A context save has used the CSA that LCX names: FCD is due (60 R832). -/
  fcdPending : Bool
  /-- The next fetch meets an integrity error (60 R849), with the address it accesses (10_state R75,
  notes/assumptions/60.md). -/
  fetchError : Option Word
  /-- Memory, in canonical form (`Memory.wf`). -/
  mem : List Host.Cell
  /-- The open CSFR updates (70 R950). The model's own field. -/
  window : List Stale
  /-- Selects the free values of a step (notes/assumptions/6.md). The model's own field. -/
  draws : Nat
  /-- What comes next; an empty schedule is the core alone. The model's own field. -/
  schedule : List Sched
  /-- What the core has told the host, newest first. The model's own field. -/
  out : List OutEvent
  /-- The instruction of this step has ended in an entry. The model's own field. -/
  entered : Bool
  /-- The instruction of this step has raised its debug event (45 R633). The model's own field. -/
  evt : Bool
deriving DecidableEq, Repr

/-- Why the machine stops. -/
inductive Fault where
  /-- RFH before the first write of VCON0: "an illegal operation ... leading to undefined results" (46_virtualization
  R754, 93 U18). Raised by `execRfh`. Safe: the model stops where the hardware goes on. -/
  | rfhBeforeVcon0
deriving DecidableEq, Repr

/-- Why an instruction is given no meaning. -/
inductive Refusal where
  /-- The instruction has no meaning in this model. Raised by `exec` alone. Safe. -/
  | notModelled (mnemonic : String)
  /-- An MTCR or MTDCR wrote a non-zero value to a reserved field (00_scope R12, 93 U2). Raised by `execMtcr` and
  `execMtdcr`. Safe. -/
  | reservedField (offset : BitVec 16)
  /-- A bad pair or quad specifier on a core without the OPD trap (60_exceptions R829, 93 U13). Raised by every
  instruction with a pair or a quad. Safe. -/
  | badOperand (r : Reg)
deriving DecidableEq, Repr

/-- The resource after reset: every register 0 where the spec gives no value (DESIGN CHOICE, unsafe,
notes/assumptions/3.md), PMA0 to PMA2 as 10_state R109. -/
def HrSet.reset : HrSet where
  ga := Vector.replicate 4 0
  regs := (((Vector.replicate 198 0).set RepReg.pma0.index 0x300#32).set RepReg.pma1.index 0x300#32).set
    RepReg.pma2.index 0xC000#32

/-- The single-copy registers after reset (10_state R109, 45_debug R660, R671 to R673, 70_reset R932). -/
def State.resetSys (c : Config) : Vector Word 51 :=
  let core := (c.coreId.zeroExtend 32) <<< 6
  let halt : Word := if c.bootHalt then 1 else 0
  (((((Vector.replicate 51 0).set SysReg.bootcon.index halt).set SysReg.dbgsr.index (halt <<< 1)).set
    SysReg.dms.index (0xA0000200#32 + core)).set SysReg.dcx.index (0xA0000400#32 + core)).set SysReg.dbgtcr.index 1#32

/-- The machine with configuration `c` right after reset (10_state R109, 70_reset R931). Every register whose reset
value the spec leaves to the implementation is 0 (DESIGN CHOICE, unsafe, notes/assumptions/3.md). -/
def State.resetWith (c : Config) : State where
  cfg := c
  pc := c.resetPc
  psw := 0xB80#32
  pswUndef := false
  pcxi := 0
  pprs := 0
  d := Vector.replicate 16 0
  ca := Vector.replicate 12 0
  hv := HrSet.reset
  hra := HrSet.reset
  hrb := HrSet.reset
  sys := State.resetSys c
  pendNmi := false
  pendDae := false
  pendCae := false
  pendDie := none
  breakIn := false
  taskGate := false
  vcon0Written := false
  endinitOpen := true
  safetyOpen := true
  fcdPending := false
  fetchError := none
  mem := []
  window := []
  draws := 0
  schedule := []
  out := []
  entered := false
  evt := false

/-- The machine right after reset, in the reference configuration (notes/assumptions/2.md). -/
def State.reset : State := State.resetWith Config.reference

end Sys2Proof.Machine
end

