-- ==== Sys2Proof/Machine/Regs.lean ====
section
/-! DEFINITION. The registers and their accessors: the general registers, the banks of CSFRs, the resource and the
machine that are running, the CSFR update window (70_reset R950), and the free values of a step. Every read of a
register and every write goes through these. -/

namespace Sys2Proof.Machine

/-! ## Free values -/

/-- A free value of this step (notes/assumptions/6.md). -/
def State.freeW (s : State) (use : Nat) : Word := Config.free s.draws use

/-- A free bit of this step. -/
def State.freeB (s : State) (use : Nat) : Bool := (s.freeW use).getLsbD 0

/-! ## Resources and the banks -/

/-- A resource's registers. -/
def State.hr (s : State) : Resource → HrSet
  | .hv => s.hv
  | .a => s.hra
  | .b => s.hrb

/-- The state with a resource's registers replaced. -/
def State.setHr (s : State) (r : Resource) (h : HrSet) : State :=
  match r with
  | .hv => { s with hv := h }
  | .a => { s with hra := h }
  | .b => { s with hrb := h }

/-- A single-copy CSFR, as stored. -/
def State.getSys (s : State) (x : SysReg) : Word := s.sys.get x.index

/-- A replicated CSFR, as stored. -/
def State.getRep (s : State) (r : Resource) (x : RepReg) : Word := (s.hr r).regs.get x.index

/-- VCON1.CVMN, the running machine (46_virtualization R762). -/
def State.cvmn (s : State) : BitVec 3 := field (s.getSys .vcon1) 0 3

/-- The resource of a machine: hr(n) (46 R694). -/
def resourceOf (vm : BitVec 3) : Resource := if vm = 0 then .hv else if vm = 1 then .a else .b

/-- The current resource; HRA on a core without virtualization (46 R694, R702, notes/assumptions/38.md). -/
def State.res (s : State) : Resource := if s.cfg.hasVirt then resourceOf s.cvmn else .a

/-- The machine whose ICR is `ICR`; VM1's on a core without virtualization (46 R712, notes/assumptions/38.md). -/
def State.vm (s : State) : BitVec 3 := if s.cfg.hasVirt then s.cvmn else 1

/-- A machine's ICR as a register. -/
def icrOf (vm : BitVec 3) : SysReg := .vmIcr vm.toFin

/-- The VMn_ICR that "ICR" of resource `r` names: the running machine's for the current resource, VM1's for HRA, the
hypervisor's for HRHV; for HRB seen from outside the spec does not say which, any of VM2 to VM7 (46 R712,
notes/assumptions/31.md). -/
def State.icrVm (s : State) (r : Resource) : BitVec 3 :=
  if r = s.res then s.vm
  else match r with
    | .hv => 0
    | .a => 1
    | .b => BitVec.ofNat 3 (2 + (s.freeW 1).toNat % 6)

/-- CORE_ID: VMN is CVMN while virtualization is on and 1 otherwise (10_state R60). -/
def State.coreIdWord (s : State) (virtOn : Bool) : Word :=
  setField (zext s.cfg.coreId) 8 (if virtOn then s.cvmn else 1#3)

/-- TCCON reports the configuration (10_state R62). -/
def State.tcconWord (s : State) (virtOn : Bool) : Word :=
  setBit (setBit (setBit (setBit 0 3 virtOn) 2 s.cfg.tcconOvl) 1 s.cfg.hasDpFpu) 0 s.cfg.hasSpFpu

/-- VCON0.EN as stored, on a core that has virtualization. -/
def State.virtEnabled (s : State) : Bool := s.cfg.hasVirt && bit (s.getSys .vcon0) 0

/-- A CSFR as stored, in the view of a resource. -/
def State.raw (s : State) (r : Resource) : Csfr → Word
  | .rep x => s.getRep r x
  | .sys x => s.getSys x
  | .pcxi => s.pcxi
  | .psw => s.psw
  | .pc => s.pc
  | .pprs => s.pprs
  | .icr => s.getSys (icrOf (s.icrVm r))
  | .cpuId => s.cfg.cpuId
  | .coreId => s.coreIdWord s.virtEnabled
  | .tccon => s.tcconWord s.virtEnabled
  | .ga n => (s.hr r).ga.get n

/-- The state with a CSFR's storage replaced; the computed registers have none. -/
def State.setRaw (s : State) (r : Resource) (c : Csfr) (v : Word) : State :=
  match c with
  | .rep x => s.setHr r { s.hr r with regs := (s.hr r).regs.set x.index v }
  | .sys x => { s with sys := s.sys.set x.index v }
  | .pcxi => { s with pcxi := v }
  | .psw => { s with psw := v }
  | .pc => { s with pc := v }
  | .pprs => { s with pprs := v }
  | .icr => { s with sys := s.sys.set (icrOf (s.icrVm r)).index v }
  | .cpuId => s
  | .coreId => s
  | .tccon => s
  | .ga n => s.setHr r { s.hr r with ga := (s.hr r).ga.set n v }

/-! ## The CSFR update window (70_reset R950) -/

/-- What a register's value is used for: each use of an updated register before the next ISYNC is a draw of its own
(70 R950). -/
inductive Use where
  /-- The privilege of an instruction (PSW.IO, CORECON). -/
  | priv
  /-- PSW.GW. -/
  | globals
  /-- The call depth counter. -/
  | calls
  /-- The rounding mode and the FPU trap enables. -/
  | fpu
  /-- Taking an interrupt (ICR, the thresholds). -/
  | irq
  /-- Entering a handler (BTV, BIV, BHV, ISP, CORECON, PSW.IS). -/
  | entry
  /-- A context operation (FCX, LCX, PCXI, PPRS, the ICR and the PSW it stores). -/
  | context
  /-- The protection set that PPRS takes (PSW.PRS). -/
  | set
  /-- The check of a fetch. -/
  | fetch
  /-- The check of a data access. -/
  | data
  /-- The mode check of an access to peripheral space (PSW.IO). -/
  | periphery
  /-- The mode presented with an access (PSW.IO, CORECON.U1_IOS). -/
  | bus
  /-- The safe task bit presented with an access (PSW.S). -/
  | safety
  /-- The debug controller. -/
  | debug
  /-- The virtualization registers. -/
  | virt
  /-- The timers and counters. -/
  | count
deriving DecidableEq, Repr

/-- A number for each use. -/
def Use.tag : Use → Nat
  | .priv => 0
  | .globals => 1
  | .calls => 2
  | .fpu => 3
  | .irq => 4
  | .entry => 5
  | .context => 6
  | .fetch => 7
  | .data => 8
  | .debug => 9
  | .virt => 10
  | .count => 11
  | .set => 12
  | .periphery => 13
  | .bus => 14
  | .safety => 15

/-- A number for each CSFR. -/
def Csfr.tag : Csfr → Nat
  | .rep x => x.index.val
  | .sys x => 200 + x.index.val
  | .pcxi => 300
  | .psw => 301
  | .pc => 302
  | .pprs => 303
  | .icr => 304
  | .cpuId => 305
  | .coreId => 306
  | .tccon => 307
  | .ga n => 308 + n.val

/-- The register as the window names it: ICR is a VMn_ICR. -/
def State.canon (s : State) (r : Resource) : Csfr → Csfr
  | .icr => .sys (icrOf (s.icrVm r))
  | c => c

/-- A register with one copy has one window entry, whatever the resource. -/
def Csfr.home (r : Resource) : Csfr → Resource
  | .rep _ => r
  | .ga _ => r
  | _ => .hv

/-- The old values of a register that are still open. -/
def State.stale (s : State) (r : Resource) (c : Csfr) : List Word :=
  (s.window.filter fun e => e.res = c.home r && e.reg = c).map Stale.old

/-- The value of a register that governs a use: the stored one, or, before the next synchronising event, any value
it had since (R950, notes/assumptions/7.md). -/
def State.eff (s : State) (r : Resource) (c : Csfr) (u : Use) : Word :=
  match s.stale r (s.canon r c) with
  | [] => s.raw r c
  | old :: rest =>
    let all := s.raw r c :: old :: rest
    all.getD ((s.freeW (1000 + 400 * u.tag + c.tag)).toNat % all.length) old

/-- The governing value of a register of the current resource. -/
def State.ctl (s : State) (c : Csfr) (u : Use) : Word := s.eff s.res c u

/-- A hardware update of a register: it reaches the stored value and every open old value alike, so that an update of
one field does not hide an earlier MTCR of another (R950, notes/assumptions/7.md). -/
def State.hw (s : State) (r : Resource) (c : Csfr) (f : Word → Word) : State :=
  let k := s.canon r c
  let s' := s.setRaw r c (f (s.raw r c))
  { s' with window := s'.window.map fun e => if e.res = k.home r && e.reg = k then { e with old := f e.old } else e }

/-- A hardware update of a register of the current resource. -/
def State.hwCur (s : State) (c : Csfr) (f : Word → Word) : State := s.hw s.res c f

/-- The open updates of one register are settled: the stored value governs. -/
def State.settle (s : State) (r : Resource) (c : Csfr) : State :=
  let k := s.canon r c
  { s with window := s.window.filter fun e => !(e.res = k.home r && e.reg = k) }

/-- The end of the window: ISYNC, an entry, RFE, RFH, RFM (R950). -/
def State.sync (s : State) : State := { s with window := [] }

/-! ## The modes that select behaviour -/

/-- VIRT_ON: virtualization is implemented and enabled (00_scope R15). -/
def State.virtOn (s : State) : Bool := s.cfg.hasVirt && bit (s.ctl (.sys .vcon0) .virt) 0

/-- A guest runs: VIRT_ON and CVMN is 1 to 7 (46 R742). -/
def State.guest (s : State) : Bool := s.virtOn && s.cvmn != 0

/-- PSW.PRS; its bit 2 reads 0 on a core with at most four sets (10_state R47, notes/assumptions/39.md). -/
def State.prsOf (s : State) (p : Word) : BitVec 3 := if 4 < s.cfg.nPrs then pswPrs p else pswPrs p &&& 3

/-- What is seen of a PSW image: bits 23:16 are any value after an MTCR to PSW and until reset (10_state R49, 93 U3), bit
15 is 0 on a core with at most four sets. -/
def State.pswView (s : State) (psw : Word) : Word :=
  let p := pswSetPrs psw (s.prsOf psw)
  if s.pswUndef then setField p 16 (field (s.freeW 2) 0 8) else p

/-- PSW as it is read. -/
def State.pswRead (s : State) : Word := s.pswView s.psw

/-- PSW as a context operation stores it: in the update window of PSW the new image or an old one (70 R950). -/
def State.pswImage (s : State) : Word := s.pswView (s.ctl .psw .context)

/-- PCXI as a context operation uses it. -/
def State.link (s : State) : Word := s.ctl .pcxi .context

/-- The privilege level of the running program (60_exceptions R900). -/
def State.io (s : State) : BitVec 2 := pswIo (s.ctl .psw .priv)

/-- Supervisor mode. -/
def State.supervisor (s : State) : Bool := s.io == 0b10#2

/-- may_change_ie() (60 R903): Supervisor, or User-1 with CORECON.U1_IED = 0. -/
def State.mayChangeIe (s : State) : Bool :=
  s.supervisor || (s.io == 0b01#2 && !bit (s.ctl (.rep .corecon) .priv) 16)

/-- An access to a peripheral is presented as Supervisor (60 R902): Supervisor mode, or User-1 with CORECON.U1_IOS. -/
def State.presentsSupervisor (s : State) : Bool :=
  let io := pswIo (s.ctl .psw .bus)
  io == 0b10#2 || (io == 0b01#2 && bit (s.ctl (.rep .corecon) .bus) 17)

/-- PSW.S as it is presented with an access (60 R905). -/
def State.presentsSafe (s : State) : Bool := bit (s.ctl .psw .safety) 14

/-! ## General registers -/

/-- D[n] (10_state R41). -/
def State.getD (s : State) (n : Reg) : Word := s.d.get n.toFin

/-- D[n] replaced. -/
def State.setD (s : State) (n : Reg) (v : Word) : State := { s with d := s.d.set n.toNat v n.isLt }

/-- Where an address register lives: in the current resource (A[0], A[1], A[8], A[9]) or in the context. -/
inductive AHome where
  | ga (i : Fin 4)
  | ctx (i : Fin 12)
deriving DecidableEq, Repr

/-- The home of A[n] (10_state R44, R45). -/
def aHome (n : Reg) : AHome :=
  match n.toNat with
  | 0 => .ga 0
  | 1 => .ga 1
  | 2 => .ctx 0
  | 3 => .ctx 1
  | 4 => .ctx 2
  | 5 => .ctx 3
  | 6 => .ctx 4
  | 7 => .ctx 5
  | 8 => .ga 2
  | 9 => .ga 3
  | 10 => .ctx 6
  | 11 => .ctx 7
  | 12 => .ctx 8
  | 13 => .ctx 9
  | 14 => .ctx 10
  | _ => .ctx 11

/-- A[n] is a system global register (10_state R44). -/
def isGlobal (n : Reg) : Bool := n == 0 || n == 1 || n == 8 || n == 9

/-- A[n] (10_state R42). -/
def State.getA (s : State) (n : Reg) : Word :=
  match aHome n with
  | .ga i => (s.hr s.res).ga.get i
  | .ctx i => s.ca.get i

/-- A[n] replaced. -/
def State.setA (s : State) (n : Reg) (v : Word) : State :=
  match aHome n with
  | .ga i => s.setHr s.res { s.hr s.res with ga := (s.hr s.res).ga.set i v }
  | .ctx i => { s with ca := s.ca.set i v }

/-- E[n] = D[n+1], D[n] (10_state R43). -/
def State.getE (s : State) (n : Reg) : Dword := s.getD (n + 1) ++ s.getD n

/-- E[n] replaced. -/
def State.setE (s : State) (n : Reg) (v : Dword) : State :=
  (s.setD n (v.extractLsb' 0 32)).setD (n + 1) (v.extractLsb' 32 32)

/-- P[n] = A[n+1], A[n] (10_state R43). -/
def State.getP (s : State) (n : Reg) : Dword := s.getA (n + 1) ++ s.getA n

/-- Q[n] = D[n+3], D[n+2], D[n+1], D[n] (10_state R43). -/
def State.getQ (s : State) (n : Reg) : BitVec 128 :=
  s.getD (n + 3) ++ s.getD (n + 2) ++ s.getD (n + 1) ++ s.getD n

/-- Q[n] replaced. -/
def State.setQ (s : State) (n : Reg) (v : BitVec 128) : State :=
  (((s.setD n (v.extractLsb' 0 32)).setD (n + 1) (v.extractLsb' 32 32)).setD (n + 2) (v.extractLsb' 64 32)).setD
    (n + 3) (v.extractLsb' 96 32)

/-! ## Program counter and PSW -/

/-- The pc past an instruction of `len` bytes (10_state R46). -/
def State.advance (s : State) (len : Nat) : State := { s with pc := s.pc + BitVec.ofNat 32 len }

/-- The pc at a target. -/
def State.jump (s : State) (target : Word) : State := { s with pc := target }

/-- A hardware update of PSW. -/
def State.modPsw (s : State) (f : Word → Word) : State := s.hw .hv .psw f

/-- What the core tells the host. -/
def State.emit (s : State) (e : OutEvent) : State := { s with out := e :: s.out }

end Sys2Proof.Machine
end

