-- ==== Sys2Proof/Machine/Memory.lean ====
section
/-! DEFINITION. Memory and every check on an access to it: the canonical list of cells, MEM_MAP (20_memory R225), the
two levels of range protection (20 R240 to R258, 46_virtualization R740 to R746), the order of the checks of a data
access (20 R260) and the access itself. -/

namespace Sys2Proof.Machine

/-! ## The list of cells -/

/-- What a byte that is not listed reads as (DESIGN CHOICE, unsafe, notes/assumptions/4.md: the spec gives memory no
reset contents). -/
def Memory.unlisted : Byte := 0

/-- The canonical form from address `lo` on: addresses strictly rising and below 2^32, no entry equal to the unlisted
byte. -/
def Memory.wfFrom (lo : Nat) : List Host.Cell → Bool
  | [] => true
  | (a, v) :: rest => decide (lo ≤ a) && decide (a < 2 ^ 32) && v != Memory.unlisted && Memory.wfFrom (a + 1) rest

/-- The canonical form of memory. -/
def Memory.wf (m : List Host.Cell) : Bool := Memory.wfFrom 0 m

/-- The byte at an address. -/
def Memory.read : List Host.Cell → Nat → Byte
  | [], _ => Memory.unlisted
  | (b, w) :: rest, a => if a = b then w else Memory.read rest a

/-- A cell put in its place by address. -/
def Memory.insert (a : Nat) (v : Byte) : List Host.Cell → List Host.Cell
  | [] => [(a, v)]
  | (b, w) :: rest => if a < b then (a, v) :: (b, w) :: rest else (b, w) :: Memory.insert a v rest

/-- Memory without an address. -/
def Memory.erase (m : List Host.Cell) (a : Nat) : List Host.Cell := m.filter fun c => c.1 != a

/-- Memory with the byte at an address replaced, in canonical form again. -/
def Memory.write (m : List Host.Cell) (a : Nat) (v : Byte) : List Host.Cell :=
  if v = Memory.unlisted then Memory.erase m a else Memory.insert a v (Memory.erase m a)

/-- Bytes at the listed addresses as one little-endian number (20_memory R213). -/
def Memory.gather (m : List Host.Cell) : List Nat → Nat
  | [] => 0
  | a :: rest => (Memory.read m a).toNat + 256 * Memory.gather m rest

/-- A little-endian number stored at the listed addresses. -/
def Memory.scatter (m : List Host.Cell) (v : Nat) : List Nat → List Host.Cell
  | [] => m
  | a :: rest => Memory.scatter (Memory.write m a (BitVec.ofNat 8 v)) (v / 256) rest

/-- The addresses `a` to `a + n - 1`. -/
def span (a n : Nat) : List Nat := (List.range n).map (a + ·)

/-- An offset in an image, moved to the segment it is a view of; nothing where the image does not reach. -/
def imageOf (w : ScratchImage) (segment offset : Nat) : Option Nat :=
  if w.offset ≤ offset ∧ offset < w.offset + w.size then some (segment * 2 ^ 28 + (offset - w.offset)) else none

/-- The cell behind an address: in the image segment of this core, 7 - CORE_ID, the images of the scratchpads are views
of the PSPR in segment CH and of the DSPR in segment DH (20_memory R224, Table 12); every other address is its own
cell. -/
def State.cell (s : State) (a : Nat) : Nat :=
  let o := a % 2 ^ 28
  if a / 2 ^ 28 = 7 - s.cfg.coreId.toNat then
    ((imageOf s.cfg.psprImage 0xC o).or (imageOf s.cfg.dsprImage 0xD o)).getD a
  else a

/-- The byte of memory at an address. -/
def State.byteAt (s : State) (a : Nat) : Byte := Memory.read s.mem (s.cell a)

/-- The bytes of memory at the listed addresses as one number. -/
def State.readAt (s : State) (addrs : List Nat) : Nat := Memory.gather s.mem (addrs.map s.cell)

/-- A number stored in memory at the listed addresses. -/
def State.writeAt (s : State) (addrs : List Nat) (v : Nat) : State :=
  { s with mem := Memory.scatter s.mem v (addrs.map s.cell) }

/-- The word at a word-aligned address, unchecked. -/
def State.wordAt (s : State) (a : Word) : Word := BitVec.ofNat 32 (s.readAt (span a.toNat 4))

/-- A word stored at a word-aligned address, unchecked. -/
def State.putWord (s : State) (a : Word) (v : Word) : State := s.writeAt (span a.toNat 4) v.toNat

/-! ## What stands behind an address (20_memory R225, R226) -/

/-- MEM_MAP of one byte address: the first region that holds its cell, or nothing. -/
def State.kindAt (s : State) (a : Nat) : Option RegionKind :=
  let c := s.cell a
  (s.cfg.memMap.find? fun r => decide (r.base ≤ c) && decide (c < r.base + r.size)).map Region.kind

/-- What stands behind all bytes of an access: ordinary memory only if every byte is, nothing if any byte is
unmapped, else a device (notes/assumptions/5.md). -/
def State.kindOf (s : State) (addrs : List Nat) : Option RegionKind :=
  if addrs.all fun a => s.kindAt a == some .ram then some .ram
  else if addrs.any fun a => s.kindAt a == none then none
  else some .device

/-- A byte of the core's own CSFR images (R226): with virtualization one image for each resource (46 R708). -/
def State.inCsfrImage (s : State) (a : Nat) : Bool :=
  let hit (b : Word) := decide (b.toNat ≤ a) && decide (a < b.toNat + 0x10000)
  hit s.cfg.csfrBaseA || (s.cfg.hasVirt && (hit s.cfg.csfrBaseHv || hit s.cfg.csfrBaseB))

/-- is_peripheral(s) (R236): PMA2.PSD, with segment F always peripheral. -/
def State.peripheral (s : State) (seg : BitVec 4) (u : Use) : Bool :=
  seg == 15#4 || bit (s.ctl (.rep .pma2) u) seg.toNat

/-! ## Range protection -/

/-- An enabled range covers an address (R241, R247): unsigned, the upper bound exclusive. -/
def covered (count : Nat) (mask : Word) (lower upper : Fin 32 → Word) (a : Word) : Bool :=
  (List.finRange 32).any fun i =>
    decide (i.val < count) && bit mask i.val && decide ((lower i).toNat ≤ a.toNat) && decide (a.toNat < (upper i).toNat)

/-- The enable register of set `x`; a set that does not exist enables nothing (R246, 92 D17, 93 U19). -/
def State.setMask (s : State) (r : Resource) (reg : Fin 8 → RepReg) (x : BitVec 3) (u : Use) : Word :=
  if x.toNat < s.cfg.nPrs then s.eff r (.rep (reg x.toFin)) u else 0

/-- An address may be fetched under the ranges of resource `r` and set `x` (R250). -/
def State.fetchAllowed (s : State) (r : Resource) (x : BitVec 3) (a : Word) : Bool :=
  covered s.cfg.nCpr (s.setMask r .cpxe x .fetch) (fun i => s.eff r (.rep (.cprL i)) .fetch)
    (fun i => s.eff r (.rep (.cprU i)) .fetch) a

/-- An address may be read under the ranges of resource `r` and set `x` (R251). -/
def State.readAllowed (s : State) (r : Resource) (x : BitVec 3) (a : Word) : Bool :=
  covered s.cfg.nDpr (s.setMask r .dpre x .data) (fun i => s.eff r (.rep (.dprL i)) .data)
    (fun i => s.eff r (.rep (.dprU i)) .data) a

/-- An address may be written under the ranges of resource `r` and set `x` (R252). -/
def State.writeAllowed (s : State) (r : Resource) (x : BitVec 3) (a : Word) : Bool :=
  covered s.cfg.nDpr (s.setMask r .dpwe x .data) (fun i => s.eff r (.rep (.dprL i)) .data)
    (fun i => s.eff r (.rep (.dprU i)) .data) a

/-- CORECON.PROTEN of the current resource (R249). -/
def State.protEn (s : State) (u : Use) : Bool := bit (s.ctl (.rep .corecon) u) 1

/-- The current protection set (R246). -/
def State.prs (s : State) (u : Use) : BitVec 3 := s.prsOf (s.ctl .psw u)

/-- VCON2.L2_PRS (46 R763). -/
def State.l2Prs (s : State) : BitVec 3 := field (s.eff .hv (.sys .vcon2) .virt) 8 3

/-- debug_mode: DBGSR.DE (45_debug R622). -/
def State.debugMode (s : State) : Bool := bit (s.getSys .dbgsr) 0

/-- COMPAT.ESEN (10_state R63, 45 R646). -/
def State.emulatorSpace (s : State) (u : Use) : Bool :=
  s.debugMode && bit (s.ctl (.rep .compat) u) s.cfg.compatEsen.val

/-- emu_fetch_ok(a) (45 R646). -/
def State.emuFetch (s : State) (a : Word) : Bool :=
  s.emulatorSpace .fetch && field a 24 8 == field (s.eff .hv (.sys .dms) .fetch) 24 8

/-- emu_data_ok(a) (45 R646). -/
def State.emuData (s : State) (a : Word) : Bool :=
  s.emulatorSpace .data && field a 24 8 == field (s.eff .hv (.sys .dcx) .data) 24 8

/-- exec_ok(a), level 1 (R250). -/
def State.l1Fetch (s : State) (a : Word) : Bool :=
  !s.protEn .fetch || s.emuFetch a || s.fetchAllowed s.res (s.prs .fetch) a

/-- read_ok(a), level 1 (R251). -/
def State.l1Read (s : State) (a : Word) : Bool :=
  !s.protEn .data || s.emuData a || s.readAllowed s.res (s.prs .data) a

/-- write_ok(a), level 1 (R252). -/
def State.l1Write (s : State) (a : Word) : Bool :=
  !s.protEn .data || s.emuData a || s.writeAllowed s.res (s.prs .data) a

/-- l2_fetch_ok(a) (46 R742): level 2 acts only while a guest runs. -/
def State.l2Fetch (s : State) (a : Word) : Bool := !s.guest || s.fetchAllowed .hv s.l2Prs a

/-- l2_read_ok(a) (46 R742). -/
def State.l2Read (s : State) (a : Word) : Bool := !s.guest || s.readAllowed .hv s.l2Prs a

/-- l2_write_ok(a) (46 R742). -/
def State.l2Write (s : State) (a : Word) : Bool := !s.guest || s.writeAllowed .hv s.l2Prs a

/-! ## The verdict on an instruction -/

/-- What a failed context operation would have written besides FCX, PCXI and PPRS (41 R395, 93 U14). -/
inductive Lost where
  /-- Nothing: the free list was empty. -/
  | none
  /-- A save to the CSA at FCX: the CSA's 16 words. -/
  | save
  /-- A restore of the upper context from the CSA at PCXI: its registers and the CSA's link word. -/
  | upper
  /-- A restore of the lower context, likewise. -/
  | lower
deriving DecidableEq, Repr

/-- What the checks of an instruction come to. -/
inductive Verdict where
  /-- Nothing stands in its way. -/
  | go
  /-- The trap T(cls, tin) (60_exceptions R811). -/
  | trap (cls : BitVec 3) (tin : Byte)
  /-- The hypervisor trap HT(cls, hvtin) (46 R720). -/
  | hv (cls : BitVec 3) (hvtin : Word)
  /-- The FCU trap of a context operation that cannot complete (60 R834). -/
  | fcu (lost : Lost)
  /-- A refusal. -/
  | refuse (r : Refusal)
  /-- A fault. -/
  | fault (f : Fault)
deriving DecidableEq, Repr

/-- The first check that fails decides: "the one with the smallest number is raised" (60 R852). -/
def Verdict.first : List Verdict → Verdict
  | [] => .go
  | .go :: rest => Verdict.first rest
  | v :: _ => v

/-- A check: the verdict if its condition fails to hold. -/
def Verdict.need (ok : Bool) (v : Verdict) : Verdict := if ok then .go else v

/-! ## Data accesses -/

/-- A data access of an instruction, before it is checked. -/
structure Access where
  /-- The effective address. -/
  ea : Word
  /-- The size in bytes. -/
  size : Nat
  /-- The base register's value, where the mode adds an offset or an index to it (40 R333). -/
  base : Option Word
  /-- Base, index and length of a circular buffer (40 R337). -/
  circ : Option (Word × Nat × Nat)
  /-- The required alignment in ordinary memory (20 R210). -/
  align : Nat
  /-- The required alignment in peripheral space (20 R211); 0 where the access is not permitted there. -/
  periAlign : Nat
  /-- The instruction reads there. -/
  loads : Bool
  /-- The instruction writes there. -/
  stores : Bool
deriving DecidableEq, Repr

/-- The address of byte `k` of an access: a circular access wraps to the start of its buffer (40 R339). DESIGN CHOICE
(unsafe, notes/assumptions/58.md): LD.DA and ST.DA wrap by this formula of R339 too, where their index is 4 below a
length that is a multiple of 8; R339 also says that word accesses for address registers never wrap. -/
def Access.addr (x : Access) (k : Nat) : Word :=
  match x.circ with
  | some (b, i, l) => b + BitVec.ofNat 32 ((i + k) % l)
  | none => x.ea + BitVec.ofNat 32 k

/-- The addresses of an access, the least significant byte first. -/
def Access.addrs (x : Access) : List Nat := (List.range x.size).map fun k => (x.addr k).toNat

/-- The bytes the protection ranges are asked about (20 R256). -/
def State.checkedBytes (s : State) (x : Access) : List Word :=
  (List.range (if s.cfg.crossRangeTrap then x.size else 1)).map x.addr

/-- The MEM conditions (20 R226, R260, 40 R333, R338): another segment than the base's, the end of a segment crossed,
a circular access to peripheral space, the core's own CSFR image. -/
def State.memOk (s : State) (x : Access) : Bool :=
  (match x.base with
    | some b => segment x.ea == segment b
    | none => true) &&
  ((List.range x.size).all fun k => segment (x.addr k) == segment x.ea) &&
  !(x.circ.isSome && s.peripheral (segment x.ea) .data) &&
  !(x.addrs.any s.inCsfrImage)

/-- The ALN conditions (20 R210 to R212, 40 R337). -/
def State.alnOk (s : State) (x : Access) : Bool :=
  (if s.peripheral (segment x.ea) .data then x.periAlign != 0 && x.ea.toNat % x.periAlign == 0
    else x.ea.toNat % x.align == 0) &&
  (match x.circ with
    | some (b, i, l) => b.toNat % 8 == 0 && l % x.size == 0 && decide (i < l)
    | none => true)

/-- A peripheral segment is closed to User-0 (20 R232); IO = 11B is granted nothing (93 U20). -/
def State.mppOk (s : State) (x : Access) : Bool :=
  let io := pswIo (s.ctl .psw .periphery)
  !(s.peripheral (segment x.ea) .data && (io == 0b00#2 || io == 0b11#2))

/-- The bus answers a load with an error: nothing is there, or the device says so (20 R225, 60 R902; the device's
answer is a free value, notes/assumptions/5.md). -/
def State.loadError (s : State) (x : Access) : Bool :=
  match s.kindOf x.addrs with
  | some .ram => false
  | some .device => s.freeB 10
  | none => true

/-- The checks of a data access in the order of 20 R260. -/
def State.check (s : State) (x : Access) : Verdict :=
  Verdict.first
    [ .need (s.memOk x) (.trap 2 5),
      .need (s.alnOk x) (.trap 2 4),
      .need (x.ea != 0) (.trap 1 6),
      .need (s.mppOk x) (.trap 1 5),
      .need (!x.loads || (s.checkedBytes x).all s.l1Read) (.trap 1 2),
      .need (!x.stores || (s.checkedBytes x).all s.l1Write) (.trap 1 3),
      .need (!x.loads || (s.checkedBytes x).all s.l2Read) (.hv 2 0),
      .need (!x.stores || (s.checkedBytes x).all s.l2Write) (.hv 2 1),
      .need (!x.loads || !s.loadError x) (.trap 4 2) ]

/-- A free number of `n` words. -/
def State.freeNat (s : State) (use : Nat) : Nat → Nat
  | 0 => 0
  | n + 1 => (s.freeW use).toNat + 2 ^ 32 * s.freeNat (use + 1) n

/-- The value an access reads: memory's, or, from a device, any value. -/
def State.load (s : State) (x : Access) : Nat :=
  match s.kindOf x.addrs with
  | some .ram => s.readAt x.addrs
  | _ => s.freeNat 10000 ((x.size + 3) / 4) % 256 ^ x.size

/-- The host sees an access: one to peripheral space, with the mode and PSW.S it is presented with (60 R902, R905), and
one to a device in another segment alike. -/
def State.seen (s : State) (x : Access) : Bool :=
  s.peripheral (segment x.ea) .data || s.kindOf x.addrs == some .device

/-- What a read does besides: the host sees it. -/
def State.loaded (s : State) (x : Access) : State :=
  if s.seen x then s.emit (.busRead x.ea.toNat x.size s.presentsSupervisor s.presentsSafe) else s

/-- A write: to memory, or, where nothing is, a DAE request (60 R847, 20 R225); the host sees it as it sees a read. -/
def State.store (s : State) (x : Access) (v : Nat) : State :=
  let t := match s.kindOf x.addrs with
    | some .ram => s.writeAt x.addrs v
    | some .device => s
    | none => { s with pendDae := true }
  if s.seen x then t.emit (.busWrite x.ea.toNat x.size (v % 256 ^ x.size) s.presentsSupervisor s.presentsSafe) else t

/-- The state from which the verdict on an instruction with a load is acted on: a load that the bus answers with an
error, DSE, has been presented (60 R902). -/
def State.issued (s : State) (x : Access) (v : Verdict) : State := if v = .trap 4 2 then s.loaded x else s

end Sys2Proof.Machine
end

