-- ==== Sys2Proof/Machine/Debug.lean ====
section
/-! DEFINITION. The core debug controller (45_debug): when it is on, the trigger event unit, the action sequence of a
debug event, the halt and the breakpoint trap. The DEBUG and RFM instructions are in `System.lean`. -/

namespace Sys2Proof.Machine

/-- The governing value of a debug register. -/
def State.dbg (s : State) (x : SysReg) : Word := s.eff .hv (.sys x) .debug

/-- debug_on (45 R622): DBGSR.DE, DBGCFG.EN and, under virtualization, DBGCFG.VM[CVMN]. -/
def State.debugOn (s : State) : Bool :=
  s.debugMode && bit (s.dbg .dbgcfg) 15 && (!s.virtOn || bit (s.dbg .dbgcfg) (16 + s.cvmn.toNat))

/-- The core is halted (45 R642): DBGSR.HALT[0], or suspend-in while debug is enabled. The bit counts as stored: a write
that sets or clears it halts or resumes the core at once, an MTCR's too (R643, R644: "the core halts after the MTCR";
notes/assumptions/7.md). -/
def State.halted (s : State) : Bool := bit (s.getSys .dbgsr) 1 || (s.debugMode && bit (s.getSys .dbgsr) 3)

/-- suspend_out (45 R637). -/
def State.suspendOut (s : State) : Bool := bit (s.getSys .dbgsr) 4 || bit (s.getSys .dbgsr) 3

/-! ## The trigger event unit (45 R627 to R630) -/

/-- range(n) (45 R629): an even trigger with RNG set, over the pair. DESIGN CHOICE (unsafe, notes/assumptions/44.md): where
N_TRIG is odd the last even trigger has no partner and its RNG is without effect: it compares for equality (R629 and
R668 do not say). -/
def State.trigRange (s : State) (n : Fin 8) : Bool :=
  n.val % 2 == 0 && decide (n.val + 1 < s.cfg.nTrig) && bit (s.dbg (.trEvt n)) 13

/-- Trigger n exists as one of its own: it is implemented and is not the upper half of a range pair (45 R629). -/
def State.trigExists (s : State) (n : Fin 8) : Bool :=
  decide (n.val < s.cfg.nTrig) && !(n.val % 2 == 1 && s.trigRange (n - 1))

/-- match(n, x) (45 R628). DEDUCED (unsafe, notes/assumptions/45.md): for a pc too all 32 bits of TRnADR are compared, so
that an address with bit 0 set equals no pc (R669: "For PC comparison, bit[0] is always zero"). -/
def State.trigMatch (s : State) (n : Fin 8) (x : Word) : Bool :=
  if s.trigRange n then
    decide ((s.dbg (.trAdr n)).toNat ≤ x.toNat) && decide (x.toNat < (s.dbg (.trAdr (n + 1))).toNat)
  else x == s.dbg (.trAdr n)

/-- Trigger n is active for the instruction at `pc` (45 R628, TYP = 1). -/
def State.pcActive (s : State) (pc : Word) (n : Fin 8) : Bool :=
  s.trigExists n && bit (s.dbg (.trEvt n)) 12 && s.trigMatch n pc

/-- Trigger n is active for a data access at `ea` (45 R628, TYP = 0). -/
def State.dataActive (s : State) (loads stores : Bool) (ea : Word) (n : Fin 8) : Bool :=
  s.trigExists n && !bit (s.dbg (.trEvt n)) 12 &&
    ((bit (s.dbg (.trEvt n)) 28 && loads) || (bit (s.dbg (.trEvt n)) 27 && stores)) && s.trigMatch n ea

/-- An active trigger leads to an event (45 R628): debug is on and EN is 1. -/
def State.trigEnabled (s : State) (n : Fin 8) : Bool := s.debugOn && bit (s.dbg (.trEvt n)) 0

/-- The PC trigger whose break-before-make event the instruction at `pc` raises: the lowest number first (45 R633), and
before a break-after-make trigger of a lower number (DEDUCED, unsafe, notes/assumptions/35.md: R633 ranks by number,
R631 by make). -/
def State.pcBbm (s : State) (pc : Word) : Option (Fin 8) :=
  (List.finRange 8).find? fun n => s.pcActive pc n && s.trigEnabled n && bit (s.dbg (.trEvt n)) 3

/-- The PC trigger whose break-after-make event the instruction at `pc` raises. -/
def State.pcBam (s : State) (pc : Word) : Option (Fin 8) :=
  (List.finRange 8).find? fun n => s.pcActive pc n && s.trigEnabled n && !bit (s.dbg (.trEvt n)) 3

/-- The address trigger whose event a data access raises; always break-after-make (45 R628). -/
def State.dataBam (s : State) (loads stores : Bool) (ea : Word) : Option (Fin 8) :=
  (List.finRange 8).find? fun n => s.dataActive loads stores ea n && s.trigEnabled n

/-- TRIG_ACC records every active trigger while DBGSR.DE = 1 (45 R630, 92 D24). -/
def State.record (s : State) (active : Fin 8 → Bool) : State :=
  if s.debugMode && (List.finRange 8).any active then
    s.hw .hv (.sys .trigAcc) fun w => (List.finRange 8).foldl (fun w n => if active n then setBit w n.val true else w) w
  else s

/-! ## The actions (45 R635 to R655) -/

/-- The CNT action on the task-mode gate (45 R638). -/
def State.gate (s : State) (cnt : BitVec 2) : State :=
  { s with taskGate :=
      match cnt.toNat with
      | 0 => s.taskGate
      | 1 => true
      | 2 => false
      | _ => !s.taskGate }

/-- The debug context is stored without any check, and vanishes where no memory is (45 R651, 92 D25). DESIGN CHOICE
(unsafe, notes/assumptions/53.md): it vanishes whole where any byte of its four words is no ordinary memory. -/
def State.putDebugContext (s : State) : State :=
  let dcx := s.dbg .dcx &&& 0xFFFFFFC0#32
  if s.kindOf (span dcx.toNat 16) == some .ram then
    (((s.putWord (dcx + 4) s.pswImage).putWord dcx s.link).putWord (dcx + 8) (s.getA 10)).putWord (dcx + 12) (s.getA 11)
  else s

/-- The entry sequence of the breakpoint trap with return address `ra` (45 R651). -/
def State.breakpointTrap (s : State) (ra : Word) : State :=
  let icr := s.ctl .icr .context
  let isp := s.ctl (.rep .isp) .entry
  let dms := s.dbg .dms
  let own := pswIs (s.ctl .psw .entry)
  let s1 := (s.putDebugContext).setA 11 ra
  let s2 := if own then s1 else s1.setA 10 isp
  let s3 := s2.hw .hv .pcxi fun p => pcxiSetInfo p (icrIe icr) (icrCcpn icr)
  let s4 := s3.modPsw fun p => setBit (pswHandler p) 7 false
  let s5 := s4.hwCur .icr fun i => setBit i 15 false
  let s6 := s5.hw .hv (.sys .dbgtcr) fun w => setBit w 0 true
  { s6.sync with pc := even dms, entered := true }

/-- Where the running machine's number goes: DBGSR.EVTVMN (45 R635). -/
def State.noteEvent (s : State) (src : BitVec 5) : State :=
  let vmn := if src = 0 then 0 else s.cvmn
  let on := s.virtOn
  s.hw .hv (.sys .dbgsr) fun w => let w' := setField w 8 src; if on then setField w' 16 vmn else w'

/-- The action sequence of a debug event from source `src` with event register `ereg`; `ra` is the address it leaves
off at (45 R631, R635). The second component says whether the event took the machine over (halt, breakpoint trap). -/
def State.debugEvent (s : State) (src : BitVec 5) (ereg ra : Word) : State × Bool :=
  let act := s.dbg .dbgact
  let a := (field act 0 3).toNat
  if a = 0 then (s, false)
  else
    let s1 := { (s.noteEvent src).gate (field ereg 6 2) with evt := true }
    let s2 :=
      if 4 ≤ a ∧ a - 4 < s.cfg.nBrkInt then
        (s1.hw .hv (.sys .dbgsr) fun w => setBit w 7 true).emit (.breakInterrupt (a - 4))
      else if bit act 4 then s1.hw .hv (.sys .dbgsr) fun w => setBit w 4 true
      else s1
    let s3 := if !bit act 3 && (decide (a < 4) || decide (a - 4 < s.cfg.nBrkInt)) then s2.emit .breakOut else s2
    if a = 2 then ({ s3.hw .hv (.sys .dbgsr) fun w => setBit w 1 true with pc := ra }, true)
    else if a = 3 ∧ !bit (s.dbg .dbgtcr) 0 then (s3.breakpointTrap ra, true)
    else (s3, false)

/-- The event of trigger n (45 R628). -/
def State.trigEvent (s : State) (n : Fin 8) (ra : Word) : State × Bool :=
  s.debugEvent (16 + BitVec.ofNat 5 n.val) (s.dbg (.trEvt n)) ra

/-- The core register access event is armed for an offset (45 R626). -/
def State.crEvent (s : State) (offset : BitVec 16) : Bool :=
  s.debugOn && bit (s.dbg .crevt) 0 && !(decide (0xF000 ≤ offset.toNat) && decide (offset.toNat ≤ 0xFDFF))

/-- A break-before-make event in place of an instruction, and whether it took the machine over; if not, the instruction
runs in that state (45 R631, R635). DEDUCED (unsafe, notes/assumptions/35.md): it is then the one event of the
instruction, and a break-after-make trigger on the same pc, which R633 ranks higher, raises none: that event would come
after the instruction, and this one has acted. -/
def State.before (s : State) (armed : Bool) (src : BitVec 5) (x : SysReg) : State × Bool :=
  if armed && bit (s.dbg x) 3 && !s.evt then s.debugEvent src (s.dbg x) s.pc else (s, false)

/-- A break-after-make event after an instruction that has completed (45 R631); one event acts per instruction, and a
PC trigger comes first (45 R633). `pc` is the instruction's own address. -/
def State.after (s : State) (armed : Bool) (src : BitVec 5) (ereg pc : Word) : State :=
  if armed && !bit ereg 3 && !s.evt && (s.pcBam pc).isNone then (s.debugEvent src ereg s.pc).1 else s

end Sys2Proof.Machine
end

