-- ==== Sys2Proof/Machine/Ops.lean ====
section
/-! DEFINITION. The shared operations on contexts and exceptions: context save areas (41_context R390 to R399), taking
an exception as the one operation `State.enter` (60_exceptions R805, R840, 46_virtualization R717, R728, R738), the
FCU entry (60 R842), the return from one (41 R415), and how a verdict becomes the outcome of an instruction. -/

namespace Sys2Proof.Machine

/-! ## Context save areas -/

/-- csa_ea(ptr) (41 R391). -/
def csaEa (ptr : BitVec 20) : Word := ptr.extractLsb' 16 4 ++ 0#6 ++ ptr.extractLsb' 0 16 ++ 0#6

/-- The governing FCX pointer of the current resource. -/
def State.fcx (s : State) : BitVec 20 := field (s.ctl (.rep .fcx) .context) 0 20

/-- The governing LCX pointer of the current resource. -/
def State.lcx (s : State) : BitVec 20 := field (s.ctl (.rep .lcx) .context) 0 20

/-- The words of a context, word 1 first, at consecutive addresses (41 R392). -/
def State.putWords (s : State) (a : Word) : List Word → State
  | [] => s
  | w :: rest => (s.putWord a w).putWords (a + 4) rest

/-- A CSA access by a guest needs the level-2 read and write permission (46 R743). -/
def State.csaL2 (s : State) (ptr : BitVec 20) : Verdict :=
  let addrs := (List.range (if s.cfg.crossRangeTrap then 64 else 1)).map fun k => csaEa ptr + BitVec.ofNat 32 k
  Verdict.first [.need (addrs.all s.l2Read) (.hv 2 0), .need (addrs.all s.l2Write) (.hv 2 1)]

/-- The CSA lies in ordinary memory outside peripheral space; everything else is an error of the access (41 R395,
20 R232, R290). -/
def State.csaUsable (s : State) (ptr : BitVec 20) : Bool :=
  !s.peripheral (segment (csaEa ptr)) .context && s.kindOf (span (csaEa ptr).toNat 64) == some .ram

/-- The checks of a context save (41 R392, R395, R408, 46 R743): an empty free list first (60 R834: it "takes priority
over all other exceptions"). DEDUCED (unsafe, notes/assumptions/43.md): a CSA that level 2 denies and that is also
unusable takes the level-2 trap, since R743 lets the access not be performed; Table 28 lists FCU (20) before L2MPR
(34). -/
def State.saveCheck (s : State) : Verdict :=
  Verdict.first [.need (s.fcx != 0) (.fcu .none), s.csaL2 s.fcx, .need (s.csaUsable s.fcx) (.fcu .save)]

/-- The checks of the access of a context restore (41 R395, 46 R743), in the order of `State.saveCheck`: DEDUCED
(unsafe, notes/assumptions/43.md). -/
def State.restoreCheck (s : State) (lost : Lost) : Verdict :=
  Verdict.first [s.csaL2 (pcx s.link), .need (s.csaUsable (pcx s.link)) (.fcu lost)]

/-- save_list (41 R392): the block goes to the CSA at FCX, PCXI links it with ICR.IE and ICR.CCPN, FCX takes the next
CSA; if LCX names the CSA, FCD is due (R407). DEDUCED (unsafe, notes/assumptions/11.md): for a hypervisor entry too
LCX is compared with HRHV's FCX before the save, as R392 and R407 say and 46 R751 takes over; 46 R750 words it as "the
new HRHV_FCX". -/
def State.saveList (s : State) (ul : Bool) (block : List Word) : State :=
  let ptr := s.fcx
  let ea := csaEa ptr
  let next := field (s.wordAt ea) 0 20
  let icr := s.ctl .icr .context
  let hit := ptr == s.lcx
  let s1 := s.putWords ea (s.link :: block)
  let s2 := s1.hw .hv .pcxi fun p => pcxiSetInfo (pcxiSetLink p ul ptr) (icrIe icr) (icrCcpn icr)
  let s3 := s2.hwCur (.rep .fcx) fun f => setField f 0 next
  { s3 with fcdPending := s3.fcdPending || hit }

/-- restore_list (41 R393): the CSA at PCXI goes back to the free list and PCXI takes its link word. -/
def State.restoreList (s : State) : State :=
  let ptr := pcx s.link
  let ea := csaEa ptr
  let w := s.wordAt ea
  let s1 := s.putWord ea (s.ctl (.rep .fcx) .context)
  let s2 := s1.hwCur (.rep .fcx) fun f => setField f 0 ptr
  s2.hw .hv .pcxi fun _ => w

/-- Word `k` of the CSA at PCXI. -/
def State.linkWord (s : State) (k : Nat) : Word := s.wordAt (csaEa (pcx s.link) + BitVec.ofNat 32 (4 * k))

/-- The upper context, word 1 first, around a PSW image (41 R396). -/
def State.upperBlock (s : State) (psw : Word) : List Word :=
  [psw, s.getA 10, s.getA 11, s.getD 8, s.getD 9, s.getD 10, s.getD 11, s.getA 12, s.getA 13, s.getA 14, s.getA 15,
    s.getD 12, s.getD 13, s.getD 14, s.getD 15]

/-- The lower context, word 1 first (41 R399). -/
def State.lowerBlock (s : State) : List Word :=
  [s.getA 11, s.getA 2, s.getA 3, s.getD 0, s.getD 1, s.getD 2, s.getD 3, s.getA 4, s.getA 5, s.getA 6, s.getA 7,
    s.getD 4, s.getD 5, s.getD 6, s.getD 7]

/-- Registers D[8] to D[15] from a function of their number in the upper block (41 R396). -/
def State.setUpper (s : State) (w : Nat → Word) : State :=
  let s1 := (((s.setA 10 (w 2)).setA 11 (w 3)).setD 8 (w 4)).setD 9 (w 5)
  let s2 := (((s1.setD 10 (w 6)).setD 11 (w 7)).setA 12 (w 8)).setA 13 (w 9)
  let s3 := ((s2.setA 14 (w 10)).setA 15 (w 11)).setD 12 (w 12)
  ((s3.setD 13 (w 13)).setD 14 (w 14)).setD 15 (w 15)

/-- The registers of the lower context from a function of their word number (41 R399). -/
def State.setLower (s : State) (w : Nat → Word) : State :=
  let s1 := (((s.setA 11 (w 1)).setA 2 (w 2)).setA 3 (w 3)).setD 0 (w 4)
  let s2 := (((s1.setD 1 (w 5)).setD 2 (w 6)).setD 3 (w 7)).setA 4 (w 8)
  let s3 := (((s2.setA 5 (w 9)).setA 6 (w 10)).setA 7 (w 11)).setD 4 (w 12)
  ((s3.setD 5 (w 13)).setD 6 (w 14)).setD 7 (w 15)

/-- PSW as the upper save stores it, from PSW image `p`: PPRS in the place of PRS (41 R396). -/
def State.csaPsw (s : State) (p : Word) : Word := pswSetPrs p (field (s.ctl .pprs .context) 0 3)

/-- The upper context save around PSW image `p` (41 R396): PPRS takes PSW.PRS. In the update window of PSW that is the
new set or an old one, whichever image is stored (70 R950). -/
def State.saveUpper (s : State) (p : Word) : State :=
  let prs := s.prsOf (s.ctl .psw .set)
  (s.saveList true (s.upperBlock (s.csaPsw p))).hw .hv .pprs fun w => setField w 0 prs

/-- The lower context save (41 R399). -/
def State.saveLower (s : State) : State := s.saveList false s.lowerBlock

/-- The upper context restore (41 R397): PRS comes from PPRS and PPRS from the CSA; `keepRm` keeps PSW.RM (41 R414), in
the update window of PSW each open image its own (70 R950): the old RM or the new one still governs after a RET. The
other fields are the context's in every image, for what a return writes has no window (R950: "the calls and returns
... have no window"; DEDUCED, notes/assumptions/7.md). PSW[23:16] stay undefined if an MTCR has made them so (93 U3:
until reset). -/
def State.restoreUpper (s : State) (keepRm : Bool) : State :=
  let w := s.linkWord
  let p := pswSetPrs (w 1) (field (s.ctl .pprs .context) 0 3)
  let s1 := s.restoreList.setUpper w
  (s1.modPsw fun q => if keepRm then setField p 24 (pswRm q) else p).hw .hv .pprs fun q => setField q 0 (pswPrs (w 1))

/-- The lower context restore (41 R418). -/
def State.restoreLower (s : State) : State :=
  let w := s.linkWord
  s.restoreList.setLower w

/-! ## Taking an exception -/

/-- The vector of an entry. -/
inductive HandlerVector where
  /-- The interrupt vector of a priority number (60 R806). -/
  | biv (pipn : Byte)
  /-- The trap vector of a class (60 R841). -/
  | btv (cls : BitVec 3)
  /-- The hypervisor trap vector of a class (46 R721). -/
  | bhv (cls : BitVec 3)
deriving DecidableEq, Repr

/-- What distinguishes one entry from another. -/
structure Entry where
  /-- The hypervisor's sequence (46 R717, R728, R738): it switches to HRHV, loads A[10] whatever IS says, and clears
  the user status bits. -/
  hyper : Bool
  /-- The return address. -/
  ra : Word
  /-- D[15] at the handler's first instruction. -/
  d15 : Word
  /-- The new CCPN: an interrupt sets it, a trap leaves it. -/
  ccpn : Option Byte
  /-- PSW.S comes from CORECON.IS (an interrupt) and not from CORECON.TS (a trap). -/
  isrS : Bool
  /-- Where the handler is. -/
  vector : HandlerVector
deriving DecidableEq, Repr

/-- The address of a vector in the current resource (60 R806, R841, 46 R721): an OR, not an addition. -/
def State.vectorPc (s : State) : HandlerVector → Word
  | .biv p =>
    let b := s.ctl (.rep .biv) .entry
    even b ||| (zext p <<< (if bit b 0 then 3 else 5))
  | .btv c => even (s.ctl (.rep .btv) .entry) ||| (zext c <<< 5)
  | .bhv c => even (s.eff .hv (.sys .bhv) .entry) ||| (zext c <<< 5)

/-- The machine VMn becomes the running one (46 R716, R728). -/
def State.setCvmn (s : State) (n : BitVec 3) : State := s.hw .hv (.sys .vcon1) fun w => setField w 0 n

/-- The registers of which a handler may expect nothing: A[12] to A[15] and D[8] to D[14] hold any value (41 R428,
93 U15, notes/assumptions/13.md). -/
def State.scramble (s : State) : State :=
  let f := fun n => s.freeW (100 + n)
  let s1 := (((s.setA 12 (f 0)).setA 13 (f 1)).setA 14 (f 2)).setA 15 (f 3)
  let s2 := (((s1.setD 8 (f 4)).setD 9 (f 5)).setD 10 (f 6)).setD 11 (f 7)
  ((s2.setD 12 (f 8)).setD 13 (f 9)).setD 14 (f 10)

/-- The part of an entry after its context save has succeeded, in the resource the handler runs in (60 R805, R840, 46
R717, R728): the saved context is the one before; then A[11], D[15], A[10], PSW, ICR and the pc; an interrupt is
reported as accepted. -/
def State.enterBody (s : State) (e : Entry) : State :=
  let isp := s.ctl (.rep .isp) .entry
  let own := pswIs (s.ctl .psw .entry) && !e.hyper
  let core := s.ctl (.rep .corecon) .entry
  let target := s.vectorPc e.vector
  let s1 := (s.saveUpper s.pswImage).scramble
  let s2 := (s1.setA 11 e.ra).setD 15 e.d15
  let s3 := if own then s2 else s2.setA 10 isp
  let s4 := s3.modPsw fun p =>
    let p' := pswSetS (pswHandler p) (bit core (if e.isrS then 3 else 4))
    if e.hyper then setField p' 24 0#8 else p'
  let s5 := s4.hwCur .icr fun i =>
    let i' := setBit i 15 false
    match e.ccpn with
    | some p => setField i' 0 p
    | none => i'
  let s6 := match e.ccpn with
    | some p => s5.emit (.accepted s.vm.toFin p)
    | none => s5
  { s6.sync with pc := target, entered := true }

/-- What an FCU leaves of the pending requests: any of them may be lost (60 R842). -/
def State.dropPending (s : State) : State :=
  { (s.hwCur (.rep .tpsCon) fun w => setBit w 17 (bit w 17 && s.freeB 204)) with
    pendNmi := s.pendNmi && s.freeB 200, pendDae := s.pendDae && s.freeB 201,
    pendCae := s.pendCae && s.freeB 202, pendDie := s.pendDie.filter fun _ => s.freeB 203 }

/-- The addresses that a failed context operation would have written (41 R392, R393). -/
def State.lostAddrs (s : State) : Lost → List Nat
  | .none => []
  | .save => span (csaEa s.fcx).toNat 64
  | .upper => span (csaEa (pcx s.link)).toNat 4
  | .lower => span (csaEa (pcx s.link)).toNat 4

/-- The memory that a failed context operation would have written, as far as memory is there, holds any value (41 R395,
93 U14). -/
def State.loseMemory (s : State) (lost : Lost) : State :=
  s.writeAt ((s.lostAddrs lost).filter fun a => s.kindAt a == some .ram) (s.freeNat 300 16)

/-- The registers a failed restore would have written hold any value (93 U14). -/
def State.loseContext (s : State) : Lost → State
  | .none => s
  | .save => s
  | .upper => s.setUpper fun k => s.freeW (220 + k)
  | .lower => s.setLower fun k => s.freeW (220 + k)

/-- fcu_entry() (60 R842): the listed state is fixed, everything else the operation or the entry would have written
holds any value (93 U14, notes/assumptions/12.md). -/
def State.fcuEntry (s : State) (lost : Lost) : State :=
  let isp := s.ctl (.rep .isp) .entry
  let own := pswIs (s.ctl .psw .entry)
  let ts := bit (s.ctl (.rep .corecon) .entry) 4
  let target := s.vectorPc (.btv 3)
  let any := s.freeW
  let s1 := ((((s.loseMemory lost).loseContext lost).scramble).setA 11 (any 210)).setD 15 4
  let s2 := if own then s1 else s1.setA 10 isp
  let s3 := s2.modPsw fun _ => pswSetS (pswSetPrs (setField (any 211) 10 0b10#2) 0) ts
  let s4 := (s3.hw .hv .pcxi fun _ => any 212).hwCur (.rep .fcx) fun _ => any 213
  let s5 := (s4.hw .hv .pprs fun w => setField w 0 (field (any 214) 0 3)).hwCur .icr fun i => setBit i 15 false
  { (s5.dropPending).sync with pc := target, entered := true }

/-- The implementation-specific registers that inform about a trap take any value when it is taken (60 R845 to R849,
R856, notes/assumptions/26.md); PIEAR and DIEAR, which hold an address, are `State.informAt`'s. DESIGN CHOICE (unsafe,
notes/assumptions/54.md): those of the resource in which the handler runs, which for a guest's DAE or DIE is HRHV (46
R738), and for a guest's PSE, DSE or PIE whose entry a level-2 trap on the CSA replaces is HRHV too (46 R743). -/
def State.inform (s : State) (cls : BitVec 3) (tin : Byte) : State :=
  if cls = 4 then
    match tin.toNat with
    | 1 => s.hwCur (.rep .pstr) fun _ => s.freeW 240
    | 2 => (s.hwCur (.rep .dstr) fun _ => s.freeW 241).hwCur (.rep .deadd) fun _ => s.freeW 242
    | 3 => (s.hwCur (.rep .datr) fun _ => s.freeW 243).hwCur (.rep .deadd) fun _ => s.freeW 242
    | 5 => s.hwCur (.rep .pietr) fun _ => s.freeW 244
    | 6 => s.hwCur (.rep .dietr) fun _ => s.freeW 246
    | _ => s
  else s

/-- What the save or restore that a verdict stops would have written. -/
def Verdict.lost : Verdict → Lost
  | .fcu l => l
  | _ => .none

/-- TAKING AN EXCEPTION, the one operation of every entry (60 R805, R840, 46 R717, R728, R738): the resource switch of
a hypervisor entry, the upper context save, the handler's state. If the save finds no CSA the entry is FCU (60 R842,
46 R729); if level 2 denies a guest's save, the hypervisor trap replaces the entry with the same return address
(46 R743, 92 D38). -/
def State.enter (s : State) (e : Entry) : State :=
  let s0 := if e.hyper then s.setCvmn 0 else s
  match s0.saveCheck with
  | .go => s0.enterBody e
  | .hv cls tin =>
    let h := s0.setCvmn 0
    match h.saveCheck with
    | .go => h.enterBody { hyper := true, ra := e.ra, d15 := tin, ccpn := none, isrS := false, vector := .bhv cls }
    | v => h.fcuEntry v.lost
  | v => s0.fcuEntry v.lost

/-- trap_entry(cls, tin, ra) (60 R840). The trap-information registers are written also where a level-2 trap on the CSA
replaces the entry, then HRHV's (`State.inform`, notes/assumptions/54.md). -/
def State.takeTrap (s : State) (cls : BitVec 3) (tin : Byte) (ra : Word) : State :=
  (s.enter { hyper := false, ra := ra, d15 := zext tin, ccpn := none, isrS := false, vector := .btv cls }).inform cls tin

/-- The entry of the hypervisor trap HT(cls, hvtin) (46 R728). -/
def State.takeHvTrap (s : State) (cls : BitVec 3) (hvtin ra : Word) : State :=
  s.enter { hyper := true, ra := ra, d15 := hvtin, ccpn := none, isrS := false, vector := .bhv cls }

/-- The entry of a trap that goes to the hypervisor when a guest runs (46 R738): D[15] bit 31 tells the switch. The
trap-information registers are HRHV's (`State.inform`, notes/assumptions/54.md). -/
def State.takeTrapInHv (s : State) (cls : BitVec 3) (tin : Byte) (ra : Word) : State :=
  if s.guest then
    (s.enter
      { hyper := true, ra := ra, d15 := 0x80000000#32 ||| zext tin, ccpn := none, isrS := false, vector := .btv cls }).inform
      cls tin
  else s.takeTrap cls tin ra

/-- PIEAR or DIEAR after the entry of PIE or DIE: "the address accessed by the last operation that caused" the error
(10_state R75, R77), which the host gives (notes/assumptions/60.md), in the resource of `State.inform`. -/
def State.informAt (s : State) (x : RepReg) (a : Word) : State := s.hwCur (.rep x) fun _ => a

/-- The entry of PIE for an error at address `a`. -/
def State.takePie (s : State) (a : Word) : State := (s.takeTrap 4 5 s.pc).informAt .piear a

/-- The entry of DIE for an error at address `a`, of a guest in the hypervisor (46 R738). -/
def State.takeDie (s : State) (a : Word) : State := (s.takeTrapInHv 4 6 s.pc).informAt .diear a

/-- The entry of an interrupt of the running machine (60 R805). -/
def State.takeInterrupt (s : State) (pipn : Byte) : State :=
  s.enter { hyper := false, ra := s.pc, d15 := 0, ccpn := some pipn, isrS := true, vector := .biv pipn }

/-- The entry of an interrupt for the hypervisor while a guest runs (46 R717). -/
def State.takeHvInterrupt (s : State) (pipn : Byte) : State :=
  s.enter { hyper := true, ra := s.pc, d15 := 0x80000000#32, ccpn := some pipn, isrS := true, vector := .biv pipn }

/-- The entry of HVINT for VM `n` (46 R717, R723). -/
def State.takeHvInt (s : State) (n : BitVec 3) : State :=
  s.enter { hyper := true, ra := s.pc, d15 := 0x80000000#32 ||| zext n, ccpn := none, isrS := true, vector := .bhv 1 }

/-! ## The return from an exception -/

/-- The interrupt state that a return brings back from PCXI: ICR.IE and ICR.CCPN (41 R415). -/
def State.restoreIcr (s : State) : State :=
  let p := s.link
  s.hwCur .icr fun i => setField (setBit i 15 (pcxiPie p)) 0 (pcxiPcpn p)

/-- THE RETURN FROM AN EXCEPTION, after its checks (41 R415): the interrupt state, the upper context, the pc from the
A[11] before the restore. -/
def State.leave (s : State) : State :=
  let target := even (s.getA 11)
  { ((s.restoreIcr).restoreUpper false).sync with pc := target }

/-! ## From a verdict to an outcome -/

/-- The outcome of an instruction: its effect if nothing stands in its way, else the trap with the instruction's own
address as the return address (60 R843), the refusal or the fault. -/
def State.conclude (s : State) (v : Verdict) (effect : State) : Host.Outcome State Fault Refusal :=
  match v with
  | .go => .next effect
  | .trap cls tin => .next (s.takeTrap cls tin s.pc)
  | .hv cls tin => .next (s.takeHvTrap cls tin s.pc)
  | .fcu lost => .next (s.fcuEntry lost)
  | .refuse r => .refused r
  | .fault f => .fault f

/-- OPD for a pair or a quad with a bad specifier (60 R829); without the trap the program is refused (93 U13). -/
def State.operandCheck (s : State) (ok : Bool) (r : Reg) : Verdict :=
  Verdict.need ok (if s.cfg.hasOpdTrap then .trap 2 3 else .refuse (.badOperand r))

/-- The specifier of a register pair (10_state R43). -/
def State.pairCheck (s : State) (r : Reg) : Verdict := s.operandCheck (r.toNat % 2 == 0) r

/-- The specifier of a register quad (10_state R43). -/
def State.quadCheck (s : State) (r : Reg) : Verdict := s.operandCheck (r.toNat % 4 == 0) r

/-- GRWP: a global address register may be written only with PSW.GW = 1 (60 R826). -/
def State.globalCheck (s : State) (r : Reg) : Verdict :=
  Verdict.need (!isGlobal r || pswGw (s.ctl .psw .globals)) (.trap 1 7)

/-- PRIV unless the program runs in Supervisor mode (60 R903). -/
def State.supervisorCheck (s : State) : Verdict := Verdict.need s.supervisor (.trap 1 1)

/-- PRIV unless the program may change ICR.IE (60 R903). -/
def State.ieCheck (s : State) : Verdict := Verdict.need s.mayChangeIe (.trap 1 1)

/-- UOPC of a core without the unit (60 R828). -/
def unitCheck (present : Bool) : Verdict := Verdict.need present (.trap 2 2)

end Sys2Proof.Machine
end

