-- ==== Sys2Proof/Machine/Operands.lean ====
section
/-! DEFINITION. The operand forms: the seven addressing modes (40_addressing R330 to R340) with their register updates,
the branch targets (30_encoding R306, R307), and the common shape of loads, stores and read-modify-writes (40 R342). -/

namespace Sys2Proof.Machine

/-! ## Branch targets -/

/-- A PC-relative target: the displacement counts half-words (30 R307). -/
def State.relative (s : State) {n : Nat} (disp : BitVec n) : Word := s.pc + (sext disp <<< 1)

/-- An absolute code target (30 R306): disp24[23:20], seven zeros, disp24[19:0], a zero. -/
def absoluteTarget (disp24 : BitVec 24) : Word := disp24.extractLsb' 20 4 ++ 0#7 ++ disp24.extractLsb' 0 20 ++ 0#1

/-! ## Addressing modes -/

/-- The absolute address of an 18-bit constant (40 R331). -/
def absoluteEa (off18 : BitVec 18) : Word := off18.extractLsb' 14 4 ++ 0#14 ++ off18.extractLsb' 0 14

/-- reverse16 (40 R340). -/
def reverse16 (x : BitVec 16) : BitVec 16 := x.reverse

/-- The new index of a bit-reverse access (40 R340). -/
def bitReverseNext (i m : BitVec 16) : BitVec 16 := reverse16 (reverse16 i + reverse16 m)

/-- The new index of a circular access: one correction by the length, as the manual prints it (40 R337, 93 U12). -/
def circularNext (i l : BitVec 16) (off10 : BitVec 10) : BitVec 16 :=
  let tmp : Int := (i.toNat : Int) + off10.toInt
  BitVec.ofInt 16 (if tmp < 0 then tmp + l.toNat else if (l.toNat : Int) ≤ tmp then tmp - l.toNat else tmp)

/-- A memory operand resolved: the effective address, what R333 compares it with, the circular buffer, and the
register update that is still to be made. -/
structure Resolved where
  ea : Word
  base : Option Word
  circ : Option (Word × Nat × Nat)
  update : Option (Reg × Word)
deriving DecidableEq, Repr

/-- The effective address and the pending update of a memory operand, from the registers at the instruction's start
(40 R330 to R340, R342). -/
def State.resolve (s : State) : MemOp → Resolved
  | .abs off18 => ⟨absoluteEa off18, none, none, none⟩
  | .off b off10 => ⟨s.getA b + sext off10, some (s.getA b), none, none⟩
  | .long b off16 => ⟨s.getA b + sext off16, some (s.getA b), none, none⟩
  | .post b off10 => ⟨s.getA b, none, none, some (b, s.getA b + sext off10)⟩
  | .pre b off10 => ⟨s.getA b + sext off10, some (s.getA b), none, some (b, s.getA b + sext off10)⟩
  | .circ b off10 =>
    let base := s.getA b
    let i := field (s.getA (b + 1)) 0 16
    let l := field (s.getA (b + 1)) 16 16
    ⟨base + zext i, some base, some (base, i.toNat, l.toNat), some (b + 1, l ++ circularNext i l off10)⟩
  | .rev b =>
    let base := s.getA b
    let i := field (s.getA (b + 1)) 0 16
    let m := field (s.getA (b + 1)) 16 16
    ⟨base + zext i, some base, none, some (b + 1, m ++ bitReverseNext i m)⟩

/-- The access of a resolved operand. -/
def Resolved.access (r : Resolved) (size align periAlign : Nat) (loads stores : Bool) : Access :=
  ⟨r.ea, size, r.base, r.circ, align, periAlign, loads, stores⟩

/-- The mode's register update (40 R342, step 6). -/
def State.applyUpdate (s : State) (r : Resolved) : State :=
  match r.update with
  | some (n, v) => s.setA n v
  | none => s

/-- The mode updates this address register (40 R336). -/
def Resolved.updates (r : Resolved) (n : Reg) : Bool :=
  match r.update with
  | some (m, _) => m == n
  | none => false

/-- The pair specifier of circular and bit-reverse modes (10_state R43, 60 R829). -/
def State.modeCheck (s : State) : MemOp → Verdict
  | .circ b _ => s.pairCheck b
  | .rev b => s.pairCheck b
  | .abs _ => .go
  | .off _ _ => .go
  | .long _ _ => .go
  | .post _ _ => .go
  | .pre _ _ => .go

/-- GRWP for the mode's update (40 R341). -/
def State.updateCheck (s : State) (r : Resolved) : Verdict :=
  match r.update with
  | some (n, _) => s.globalCheck n
  | none => .go

/-! ## Loads, stores and read-modify-writes (40 R342) -/

/-- A register the load writes and the mode updates holds any value (40 R336, 93 U10). -/
def State.loadConflict (s : State) (r : Resolved) (dst : List Reg) : State :=
  match r.update with
  | some (n, _) => if dst.contains n then s.setA n (s.freeW 20) else s
  | none => s

/-- A load of `size` bytes: `put` writes the destination, `dst` are the address registers among it, `pre` are the
checks of the destination's specifier. -/
def State.execLoad (s : State) (len : Nat) (m : MemOp) (size align : Nat) (pre : Verdict) (dst : List Reg)
    (put : State → Nat → State) : Host.Outcome State Fault Refusal :=
  let r := s.resolve m
  let x := r.access size align size true false
  let v := Verdict.first ([pre, s.modeCheck m] ++ dst.map s.globalCheck ++ [s.updateCheck r, s.check x])
  (s.issued x v).conclude v
    ((((put (s.loaded x) (s.load x)).applyUpdate r).loadConflict r dst).advance len)

/-- The value a store writes. If the mode updates a register the value comes from (`src`), the value before or after
the update is stored (40 R336, 93 U11). -/
def State.storeValue (s : State) (r : Resolved) (src : List Reg) (value : State → Nat) : Nat :=
  if src.any r.updates && s.freeB 21 then value (s.applyUpdate r) else value s

/-- A store of `size` bytes: `value` gives the datum, `src` are the address registers it comes from. -/
def State.execStore (s : State) (len : Nat) (m : MemOp) (size align : Nat) (pre : Verdict) (src : List Reg)
    (value : State → Nat) : Host.Outcome State Fault Refusal :=
  let r := s.resolve m
  let x := r.access size align size false true
  s.conclude (Verdict.first [pre, s.modeCheck m, s.updateCheck r, s.check x])
    (((s.store x (s.storeValue r src value)).applyUpdate r).advance len)

/-- An atomic read-modify-write of `size` bytes (20_memory R280, 40 R360 to R364): `new` gives the bytes stored from
the bytes read, `ret` is the data register that takes them. -/
def State.execRmw (s : State) (len : Nat) (m : MemOp) (size align : Nat) (pre : Verdict) (new : Nat → Nat)
    (ret : Option Reg) : Host.Outcome State Fault Refusal :=
  let r := s.resolve m
  let x := r.access size align size true true
  let old := s.load x
  let s1 := (s.loaded x).store x (new old)
  let s2 := match ret with
    | some d => s1.setD d (BitVec.ofNat 32 old)
    | none => s1
  let v := Verdict.first [pre, s.modeCheck m, s.updateCheck r, s.check x]
  (s.issued x v).conclude v ((s2.applyUpdate r).advance len)

/-- An instruction without memory access whose result is a data register. -/
def State.execD (s : State) (len : Nat) (v : Verdict) (c : Reg) (value : Word) : Host.Outcome State Fault Refusal :=
  s.conclude v ((s.setD c value).advance len)

/-- An instruction without memory access whose result is an address register (GRWP, 60 R826). -/
def State.execA (s : State) (len : Nat) (c : Reg) (value : Word) : Host.Outcome State Fault Refusal :=
  s.conclude (s.globalCheck c) ((s.setA c value).advance len)

end Sys2Proof.Machine
end

