-- ==== Sys2Proof/Machine/Address.lean ====
section
/-! DEFINITION. Address arithmetic: LEA, ADDSC.A and ADDSC.AT (40_addressing R366 to R368). None accesses memory. -/

namespace Sys2Proof.Machine

/-- LEA A[a], [A[b]]off10 (40 R366, R332). -/
def execLeaOff (a b : Reg) (off10 : BitVec 10) (s : State) : Host.Outcome State Fault Refusal :=
  s.execA 4 a (s.resolve (.off b off10)).ea

/-- LEA A[a], off18 (R366, R331). -/
def execLeaAbs (a : Reg) (off18 : BitVec 18) (s : State) : Host.Outcome State Fault Refusal :=
  s.execA 4 a (s.resolve (.abs off18)).ea

/-- LEA A[a], [A[b]]off16 (R366, R332). -/
def execLeaLong (a b : Reg) (off16 : BitVec 16) (s : State) : Host.Outcome State Fault Refusal :=
  s.execA 4 a (s.resolve (.long b off16)).ea

/-- ADDSC.A A[c], A[b], D[a], n (R367). -/
def execAddscA (c b a : Reg) (n : BitVec 2) (s : State) : Host.Outcome State Fault Refusal :=
  s.execA 4 c (s.getA b + (s.getD a <<< n.toNat))

/-- ADDSC.AT A[c], A[b], D[a] (R368); the shift of the bit index is arithmetic, as in earlier generations
(PRESUMED, notes/assumptions/42.md). -/
def execAddscAt (c b a : Reg) (s : State) : Host.Outcome State Fault Refusal :=
  s.execA 4 c ((s.getA b + (s.getD a).sshiftRight 3) &&& 0xFFFFFFFC#32)

end Sys2Proof.Machine
end

