-- ==== Sys2Proof/Machine/Branch.lean ====
section
/-! DEFINITION. The jumps: JZ.T, JL, JRI (43_integer R499 to R501) and the branches of 47_supplementary R992 to R997.
No flag changes; the fetch at the target is checked like any fetch (20_memory R261). -/

namespace Sys2Proof.Machine

/-- A conditional jump to a PC-relative target (30 R307). -/
def State.execBranch (s : State) (len : Nat) (taken : Bool) {n : Nat} (disp : BitVec n) :
    Host.Outcome State Fault Refusal :=
  .next (if taken then s.jump (s.relative disp) else s.advance len)

/-- A jump that leaves the address of the next instruction in A[11] (43 R500). -/
def State.execLink (s : State) (len : Nat) (target : Word) : Host.Outcome State Fault Refusal :=
  .next ((s.setA 11 (s.pc + BitVec.ofNat 32 len)).jump target)

/-- JZ.T D[a], n, disp15 (43 R499). -/
def execJzT (a : Reg) (n : BitVec 5) (disp15 : BitVec 15) (s : State) : Host.Outcome State Fault Refusal :=
  s.execBranch 4 (!bit (s.getD a) n.toNat) disp15

/-- JZ.T D[15], n, disp4 (R499). DESIGN CHOICE (safe, notes/assumptions/49.md): the configuration says which of two
passages of the spec the displacement follows: 30_encoding R307 extends its sign as every relative branch does, this
row of opcode_table.json says "disp4 zero-extended, times 2". -/
def execJzT16 (n disp4 : BitVec 4) (s : State) : Host.Outcome State Fault Refusal :=
  s.execBranch 2 (!bit (s.getD 15) n.toNat) (if s.cfg.disp4Signed then sext disp4 else zext disp4)

/-- JL disp24 (R500). -/
def execJl (disp24 : BitVec 24) (s : State) : Host.Outcome State Fault Refusal :=
  s.execLink 4 (s.relative disp24)

/-- JRI A[a] (R501): a byte offset from the JRI itself, bit 0 of the sum cleared (92 D20; the spec gives no encoding,
notes/assumptions/23.md). -/
def execJri (a : Reg) (s : State) : Host.Outcome State Fault Refusal := .next (s.jump (even (s.pc + s.getA a)))

/-- J disp24 (47 R992). -/
def execJ (disp24 : BitVec 24) (s : State) : Host.Outcome State Fault Refusal := s.execBranch 4 true disp24

/-- JA disp24 (R993). -/
def execJa (disp24 : BitVec 24) (s : State) : Host.Outcome State Fault Refusal := .next (s.jump (absoluteTarget disp24))

/-- JLA disp24 (R993). -/
def execJla (disp24 : BitVec 24) (s : State) : Host.Outcome State Fault Refusal :=
  s.execLink 4 (absoluteTarget disp24)

/-- JI A[a] (R994). -/
def execJi (a : Reg) (s : State) : Host.Outcome State Fault Refusal := .next (s.jump (even (s.getA a)))

/-- JLI A[a]: the target is read before A[11] is written (R994). -/
def execJli (a : Reg) (s : State) : Host.Outcome State Fault Refusal := s.execLink 4 (even (s.getA a))

/-- JEQ D[a], D[b], disp15 (R995). -/
def execJeq (a b : Reg) (disp15 : BitVec 15) (s : State) : Host.Outcome State Fault Refusal :=
  s.execBranch 4 (s.getD a == s.getD b) disp15

/-- JEQ D[a], const4, disp15 (R995). -/
def execJeqC (a : Reg) (const4 : BitVec 4) (disp15 : BitVec 15) (s : State) : Host.Outcome State Fault Refusal :=
  s.execBranch 4 (s.getD a == sext const4) disp15

/-- JNE D[a], D[b], disp15 (R995). -/
def execJne (a b : Reg) (disp15 : BitVec 15) (s : State) : Host.Outcome State Fault Refusal :=
  s.execBranch 4 (s.getD a != s.getD b) disp15

/-- JNE D[a], const4, disp15 (R995). -/
def execJneC (a : Reg) (const4 : BitVec 4) (disp15 : BitVec 15) (s : State) : Host.Outcome State Fault Refusal :=
  s.execBranch 4 (s.getD a != sext const4) disp15

/-- JNZ.T D[a], n, disp15 (R996). -/
def execJnzT (a : Reg) (n : BitVec 5) (disp15 : BitVec 15) (s : State) : Host.Outcome State Fault Refusal :=
  s.execBranch 4 (bit (s.getD a) n.toNat) disp15

/-- LOOP A[b], disp15 (R997). -/
def execLoop (b : Reg) (disp15 : BitVec 15) (s : State) : Host.Outcome State Fault Refusal :=
  let t := s.setA b (s.getA b - 1)
  s.conclude (s.globalCheck b) (if s.getA b != 0 then t.jump (s.relative disp15) else t.advance 4)

end Sys2Proof.Machine
end

