-- ==== Sys2Proof/Machine/Context.lean ====
section
/-! DEFINITION. Calls, returns and contexts (41_context_call_return R400 to R427): CALL, RET, RFE, BISR, SVLCX, RSLCX,
the fast calls and the loads and stores of contexts. -/

namespace Sys2Proof.Machine

/-! ## Calls -/

/-- A call to `target` (41 R411, R400): the saved PSW has CDE = 1 and the count from before the call, the callee's
PSW has CDE = 1 and the count incremented. -/
def State.execCallTo (s : State) (len : Nat) (target : Word) : Host.Outcome State Fault Refusal :=
  let p := s.ctl .psw .calls
  let counts := cdcCounts p
  let t := (s.saveUpper (setBit s.pswImage 7 true)).modPsw fun q =>
    setBit (if counts then setField q 0 (pswCdc p + 1) else q) 7 true
  s.conclude
    (Verdict.first [.need (s.fcx != 0) (.fcu .none), .need (!(counts && cdcFull p)) (.trap 3 2), s.saveCheck])
    ((t.setA 11 (s.pc + BitVec.ofNat 32 len)).jump target)

/-- CALL disp24 (R411). -/
def execCall (disp24 : BitVec 24) (s : State) : Host.Outcome State Fault Refusal :=
  s.execCallTo 4 (s.relative disp24)

/-- CALL disp8 (R411). -/
def execCall16 (disp8 : BitVec 8) (s : State) : Host.Outcome State Fault Refusal :=
  s.execCallTo 2 (s.relative disp8)

/-- CALLA disp24 (R412). -/
def execCalla (disp24 : BitVec 24) (s : State) : Host.Outcome State Fault Refusal :=
  s.execCallTo 4 (absoluteTarget disp24)

/-- CALLI A[a] (R413). DEDUCED (unsafe, notes/assumptions/59.md): the target is read before A[11] is written, as 47 R994
says of JLI; R413 does not say. -/
def execCalli (a : Reg) (s : State) : Host.Outcome State Fault Refusal := s.execCallTo 4 (even (s.getA a))

/-! ## Returns -/

/-- The checks of the context that every restore makes: CSU, then the checks of its own, then CTYP, then the access
(41 R409, R410, 60 R852). -/
def State.returnCheck (s : State) (own : Verdict) (ul : Bool) (lost : Lost) : Verdict :=
  Verdict.first
    [.need (pcx s.link != 0) (.trap 3 5), own, .need (pcxiUl s.link == ul) (.trap 3 6), s.restoreCheck lost]

/-- RET (R414): CDU where the count is 0; PSW.RM comes back only with COMPAT.RM = 1. -/
def State.execReturn (s : State) : Host.Outcome State Fault Refusal :=
  let p := s.ctl .psw .calls
  let keep := !bit (s.ctl (.rep .compat) .context) s.cfg.compatRm.val
  s.conclude (s.returnCheck (.need (!(cdcCounts p && cdcZero p)) (.trap 3 3)) true .upper)
    ((s.restoreUpper keep).jump (even (s.getA 11)))

/-- RET, 32-bit (R414). -/
def execRet (s : State) : Host.Outcome State Fault Refusal := s.execReturn

/-- RET, 16-bit (R414). -/
def execRet16 (s : State) : Host.Outcome State Fault Refusal := s.execReturn

/-- NEST: a return from an exception with a count that is not 0 (41 R404). -/
def State.nestCheck (s : State) : Verdict :=
  let p := s.ctl .psw .calls
  .need (!(cdcCounts p && !cdcZero p)) (.trap 3 7)

/-- RFE (R415). -/
def State.execRfeBody (s : State) : Host.Outcome State Fault Refusal :=
  s.conclude (s.returnCheck s.nestCheck true .upper) s.leave

/-- RFE, 32-bit (R415). -/
def execRfe (s : State) : Host.Outcome State Fault Refusal := s.execRfeBody

/-- RFE, 16-bit (R415). -/
def execRfe16 (s : State) : Host.Outcome State Fault Refusal := s.execRfeBody

/-! ## The lower context -/

/-- BISR (R416): the lower context is saved with the old ICR.IE and CCPN, then IE is 1 and CCPN the constant. -/
def State.execBisrTo (s : State) (len : Nat) (ccpn : Byte) : Host.Outcome State Fault Refusal :=
  s.conclude (Verdict.first [s.supervisorCheck, s.saveCheck])
    ((s.saveLower.hwCur .icr fun i => setField (setBit i 15 true) 0 ccpn).advance len)

/-- BISR const9: the low 8 bits are the priority (R416). -/
def execBisr (const9 : BitVec 9) (s : State) : Host.Outcome State Fault Refusal :=
  s.execBisrTo 4 (const9.setWidth 8)

/-- BISR const8, 16-bit (R416). -/
def execBisr16 (const8 : BitVec 8) (s : State) : Host.Outcome State Fault Refusal := s.execBisrTo 2 const8

/-- SVLCX (R417). -/
def execSvlcx (s : State) : Host.Outcome State Fault Refusal := s.conclude s.saveCheck (s.saveLower.advance 4)

/-- RSLCX (R418). -/
def execRslcx (s : State) : Host.Outcome State Fault Refusal :=
  s.conclude (s.returnCheck .go false .lower) (s.restoreLower.advance 4)

/-! ## Fast calls -/

/-- A word access through the stack pointer (41 R420, R423). -/
def State.stackAccess (s : State) (ea : Word) (loads stores : Bool) : Access :=
  ⟨ea, 4, some (s.getA 10), none, 4, 4, loads, stores⟩

/-- A fast call to `target` (R420): A[11] goes to the stack, A[10] moves down a word. -/
def State.execFcallTo (s : State) (target : Word) : Host.Outcome State Fault Refusal :=
  let ea := s.getA 10 - 4
  let x := s.stackAccess ea false true
  s.conclude (s.check x)
    ((((s.store x (s.getA 11).toNat).setA 10 ea).setA 11 (s.pc + 4)).jump target)

/-- FCALL disp24 (R420). -/
def execFcall (disp24 : BitVec 24) (s : State) : Host.Outcome State Fault Refusal := s.execFcallTo (s.relative disp24)

/-- FCALLA disp24 (R421). -/
def execFcalla (disp24 : BitVec 24) (s : State) : Host.Outcome State Fault Refusal :=
  s.execFcallTo (absoluteTarget disp24)

/-- FCALLI A[a] (R422). DEDUCED (unsafe, notes/assumptions/59.md): the target is read before A[10] and A[11] are
written, as 47 R994 says of JLI; R422 does not say. -/
def execFcalli (a : Reg) (s : State) : Host.Outcome State Fault Refusal := s.execFcallTo (even (s.getA a))

/-- FRET (R423): the jump goes to the old A[11], the old A[11] of the caller comes from the stack. -/
def State.execFastReturn (s : State) : Host.Outcome State Fault Refusal :=
  let ea := s.getA 10
  let x := s.stackAccess ea true false
  (s.issued x (s.check x)).conclude (s.check x)
    ((((s.loaded x).setA 11 (BitVec.ofNat 32 (s.load x))).setA 10 (ea + 4)).jump (even (s.getA 11)))

/-- FRET, 32-bit (R423). -/
def execFret (s : State) : Host.Outcome State Fault Refusal := s.execFastReturn

/-- FRET, 16-bit (R423). -/
def execFret16 (s : State) : Host.Outcome State Fault Refusal := s.execFastReturn

/-! ## Loads and stores of a context -/

/-- Words as one little-endian number, the first the least significant (20_memory R213). -/
def wordsValue : List Word → Nat
  | [] => 0
  | w :: rest => w.toNat + 2 ^ 32 * wordsValue rest

/-- The access of a context load or store: 64 bytes, aligned to 64, never in peripheral space (41 R424). -/
def State.contextAccess (s : State) (m : MemOp) (loads stores : Bool) : Access :=
  (s.resolve m).access 64 64 0 loads stores

/-- A store of a context through an effective address (R424, R425). -/
def State.storeContext (s : State) (m : MemOp) (block : List Word) : Host.Outcome State Fault Refusal :=
  let x := s.contextAccess m false true
  s.conclude (s.check x) ((s.store x (wordsValue (s.link :: block))).advance 4)

/-- Word `k` of a context read as one number. -/
def contextWord (v k : Nat) : Word := BitVec.ofNat 32 (v >>> (32 * k))

/-- A load of a context through an effective address; `put` takes the words (R426, R427). -/
def State.loadContext (s : State) (m : MemOp) (put : State → (Nat → Word) → State) :
    Host.Outcome State Fault Refusal :=
  let x := s.contextAccess m true false
  (s.issued x (s.check x)).conclude (s.check x) ((put (s.loaded x) (contextWord (s.load x))).advance 4)

/-- STLCX off18 (R424). -/
def execStlcxAbs (off18 : BitVec 18) (s : State) : Host.Outcome State Fault Refusal :=
  s.storeContext (.abs off18) s.lowerBlock

/-- STLCX [A[b]]off10 (R424). -/
def execStlcxOff (b : Reg) (off10 : BitVec 10) (s : State) : Host.Outcome State Fault Refusal :=
  s.storeContext (.off b off10) s.lowerBlock

/-- STUCX off18: PSW as it stands (R425, 92 D18). -/
def execStucxAbs (off18 : BitVec 18) (s : State) : Host.Outcome State Fault Refusal :=
  s.storeContext (.abs off18) (s.upperBlock s.pswImage)

/-- STUCX [A[b]]off10 (R425). -/
def execStucxOff (b : Reg) (off10 : BitVec 10) (s : State) : Host.Outcome State Fault Refusal :=
  s.storeContext (.off b off10) (s.upperBlock s.pswImage)

/-- LDLCX off18: the link word is not loaded (R426). -/
def execLdlcxAbs (off18 : BitVec 18) (s : State) : Host.Outcome State Fault Refusal :=
  s.loadContext (.abs off18) State.setLower

/-- LDLCX [A[b]]off10 (R426). -/
def execLdlcxOff (b : Reg) (off10 : BitVec 10) (s : State) : Host.Outcome State Fault Refusal :=
  s.loadContext (.off b off10) State.setLower

/-- LDUCX off18: PCXI and PSW are not loaded (R427). -/
def execLducxAbs (off18 : BitVec 18) (s : State) : Host.Outcome State Fault Refusal :=
  s.loadContext (.abs off18) State.setUpper

/-- LDUCX [A[b]]off10 (R427). -/
def execLducxOff (b : Reg) (off10 : BitVec 10) (s : State) : Host.Outcome State Fault Refusal :=
  s.loadContext (.off b off10) State.setUpper

end Sys2Proof.Machine
end

