-- ==== Sys2Proof/Machine/Float.lean ====
section
/-! DEFINITION. Floating-point data and arithmetic (44_fpu R523 to R558, R564 to R588) on exact rationals: the formats,
classification, rounding with its exception flags, and the operations, each written once for single and double
precision. Registers, traps and flags in PSW are in `Fpu.lean`. -/

namespace Sys2Proof.Machine

/-! ## Exact values -/

/-- A signed rational `± num / den`, `den` never 0; the sign is kept at zero (R523). -/
structure Exact where
  neg : Bool
  num : Nat
  den : Nat
deriving DecidableEq, Repr

/-- `m * 2^k`. -/
def Exact.scaled (neg : Bool) (m : Nat) (k : Int) : Exact :=
  if 0 ≤ k then ⟨neg, m * 2 ^ k.toNat, 1⟩ else ⟨neg, m, 2 ^ (-k).toNat⟩

/-- An integer times `2^k`. -/
def Exact.ofInt (i : Int) (k : Int) : Exact := Exact.scaled (decide (i < 0)) i.natAbs k

/-- The numerator with its sign. -/
def Exact.signed (x : Exact) : Int := if x.neg then -(x.num : Int) else x.num

/-- The exact product. -/
def Exact.mul (x y : Exact) : Exact := ⟨x.neg != y.neg, x.num * y.num, x.den * y.den⟩

/-- The exact quotient, `y` not 0. -/
def Exact.div (x y : Exact) : Exact := ⟨x.neg != y.neg, x.num * y.den, x.den * y.num⟩

/-- The exact sum; an exact zero of operands of opposite signs is +0, and -0 where the mode is towards -infinity
(44_fpu section 6). -/
def Exact.add (rm : BitVec 2) (x y : Exact) : Exact :=
  let n := x.signed * y.den + y.signed * x.den
  if n = 0 then ⟨if x.neg == y.neg then x.neg else rm == 0b10#2, 0, 1⟩
  else ⟨decide (n < 0), n.natAbs, x.den * y.den⟩

/-- A rational rounded to an integer in a rounding mode, and whether that was inexact (R540, R542). -/
def roundNat (rm : BitVec 2) (neg : Bool) (num den : Nat) : Nat × Bool :=
  let q := num / den
  let r := num % den
  let up :=
    match rm.toNat with
    | 0 => decide (den < 2 * r) || (2 * r == den && q % 2 == 1)
    | 1 => !neg && r != 0
    | 2 => neg && r != 0
    | _ => false
  (if up then q + 1 else q, r != 0)

/-! ## Formats (R523, R525, R529) -/

/-- A binary interchange format: the width of the exponent field and of the fraction field. -/
structure FloatFmt where
  expBits : Nat
  fracBits : Nat
deriving DecidableEq, Repr

/-- Half precision. -/
def FloatFmt.half : FloatFmt := ⟨5, 10⟩

/-- Single precision. -/
def FloatFmt.single : FloatFmt := ⟨8, 23⟩

/-- Double precision. -/
def FloatFmt.double : FloatFmt := ⟨11, 52⟩

/-- The exponent bias. -/
def FloatFmt.bias (f : FloatFmt) : Nat := 2 ^ (f.expBits - 1) - 1

/-- The exponent field of infinities and NaNs. -/
def FloatFmt.top (f : FloatFmt) : Nat := 2 ^ f.expBits - 1

/-- The exponent of the lowest fraction bit of a subnormal number. -/
def FloatFmt.lowest (f : FloatFmt) : Int := 1 - (f.bias : Int) - f.fracBits

/-- The sign of a datum. -/
def FloatFmt.neg (f : FloatFmt) (x : Nat) : Bool := x.testBit (f.expBits + f.fracBits)

/-- The exponent field. -/
def FloatFmt.exp (f : FloatFmt) (x : Nat) : Nat := x / 2 ^ f.fracBits % 2 ^ f.expBits

/-- The fraction field. -/
def FloatFmt.frac (f : FloatFmt) (x : Nat) : Nat := x % 2 ^ f.fracBits

/-- A NaN. -/
def FloatFmt.isNan (f : FloatFmt) (x : Nat) : Bool := f.exp x == f.top && f.frac x != 0

/-- A signaling NaN: the top fraction bit is 0. -/
def FloatFmt.isSnan (f : FloatFmt) (x : Nat) : Bool := f.isNan x && !x.testBit (f.fracBits - 1)

/-- An infinity. -/
def FloatFmt.isInf (f : FloatFmt) (x : Nat) : Bool := f.exp x == f.top && f.frac x == 0

/-- A zero. -/
def FloatFmt.isZero (f : FloatFmt) (x : Nat) : Bool := f.exp x == 0 && f.frac x == 0

/-- A subnormal number. -/
def FloatFmt.isSub (f : FloatFmt) (x : Nat) : Bool := f.exp x == 0 && f.frac x != 0

/-- A magnitude with a sign. -/
def FloatFmt.withSign (f : FloatFmt) (neg : Bool) (mag : Nat) : Nat :=
  if neg then 2 ^ (f.expBits + f.fracBits) + mag else mag

/-- A datum without its sign. -/
def FloatFmt.mag (f : FloatFmt) (x : Nat) : Nat := x % 2 ^ (f.expBits + f.fracBits)

/-- The infinity of a sign. -/
def FloatFmt.inf (f : FloatFmt) (neg : Bool) : Nat := f.withSign neg (f.top * 2 ^ f.fracBits)

/-- The datum with the other sign. -/
def FloatFmt.flip (f : FloatFmt) (x : Nat) : Nat := f.withSign (!f.neg x) (f.mag x)

/-- The exact value of a finite datum. -/
def FloatFmt.value (f : FloatFmt) (x : Nat) : Exact :=
  if f.exp x = 0 then Exact.scaled (f.neg x) (f.frac x) f.lowest
  else Exact.scaled (f.neg x) (2 ^ f.fracBits + f.frac x) (f.lowest + (f.exp x - 1 : Nat))

/-! ## Results -/

/-- The result of an operation and the exceptions it meets (R551). -/
structure FpResult where
  value : Nat
  fi : Bool := false
  fv : Bool := false
  fz : Bool := false
  fu : Bool := false
  fx : Bool := false
deriving DecidableEq, Repr

/-- The exponent of the leading bit of a positive rational. -/
def leading (num den : Nat) : Int :=
  let e : Int := (num.log2 : Int) - den.log2
  if 0 ≤ e then (if num < den * 2 ^ e.toNat then e - 1 else e)
  else (if num * 2 ^ (-e).toNat < den then e - 1 else e)

/-- The magnitude an overflow returns in a mode (R543). -/
def FloatFmt.overflowMag (f : FloatFmt) (rm : BitVec 2) (neg : Bool) : Nat :=
  let inf := f.top * 2 ^ f.fracBits
  match rm.toNat with
  | 0 => inf
  | 1 => if neg then inf - 1 else inf
  | 2 => if neg then inf else inf - 1
  | _ => inf - 1

/-- An exact value rounded to a format, subnormal results kept (R527 step 3, R531, R540 to R543): FV where the rounded
magnitude leaves the format, FX where rounding was inexact; `fu` tells tininess before rounding. -/
def FloatFmt.round (f : FloatFmt) (rm : BitVec 2) (x : Exact) : FpResult :=
  if x.num = 0 then { value := f.withSign x.neg 0 }
  else
    let e := leading x.num x.den
    let tiny := decide (e < 1 - (f.bias : Int))
    let q := if tiny then f.lowest else e - f.fracBits
    let scaled : Exact := if 0 ≤ q then ⟨x.neg, x.num, x.den * 2 ^ q.toNat⟩ else ⟨x.neg, x.num * 2 ^ (-q).toNat, x.den⟩
    let (n, inexact) := roundNat rm x.neg scaled.num scaled.den
    let mag := (q - f.lowest).toNat * 2 ^ f.fracBits + n
    if f.top * 2 ^ f.fracBits ≤ mag then
      { value := f.withSign x.neg (f.overflowMag rm x.neg), fv := true, fx := true }
    else { value := f.withSign x.neg mag, fu := tiny, fx := inexact }

/-! ## Precisions -/

/-- A precision of the FPU: its format, whether subnormal data are flushed (R527, R531), its quiet NaN (R526, R530). -/
structure Precision where
  fmt : FloatFmt
  flush : Bool
  qnan : Nat
deriving DecidableEq, Repr

/-- Single precision. -/
def Precision.single : Precision := ⟨.single, true, 0x7FC00000⟩

/-- Double precision. -/
def Precision.double : Precision := ⟨.double, false, 0x7FF8000000000000⟩

/-- A subnormal operand replaced by the zero of its sign, where the precision flushes (R527 step 1). -/
def Precision.ftz (p : Precision) (x : Nat) : Nat :=
  if p.flush && p.fmt.isSub x then p.fmt.withSign (p.fmt.neg x) 0 else x

/-- round32 and round64 (44_fpu sections 6 and 7): single precision replaces a subnormal result by zero, with FU and
FX for every tiny value (R528); double precision asserts FU where a tiny result is inexact (R531). -/
def Precision.round (p : Precision) (rm : BitVec 2) (x : Exact) : FpResult :=
  let r := p.fmt.round rm x
  if p.flush then { r with value := p.ftz r.value, fx := r.fx || r.fu } else { r with fu := r.fu && r.fx }

/-- An invalid operation: FI and the quiet NaN that tells its origin (R553, R554). -/
def Precision.invalid (p : Precision) (origin : Nat) : FpResult := { value := p.qnan + origin, fi := true }

/-- The result where an operand is a NaN: the quiet NaN, FI if one of them is signaling (R526, R530). -/
def Precision.nan (p : Precision) (xs : List Nat) : FpResult := { value := p.qnan, fi := xs.any p.fmt.isSnan }

/-! ## Arithmetic -/

/-- The sum (R564, R601). -/
def Precision.add (p : Precision) (rm : BitVec 2) (x y : Nat) : FpResult :=
  let f := p.fmt
  if f.isNan x || f.isNan y then p.nan [x, y]
  else if f.isInf x && f.isInf y && f.neg x != f.neg y then p.invalid 1
  else if f.isInf x then { value := x }
  else if f.isInf y then { value := y }
  else p.round rm (Exact.add rm (f.value (p.ftz x)) (f.value (p.ftz y)))

/-- The difference `x - y` (R565, R602). -/
def Precision.sub (p : Precision) (rm : BitVec 2) (x y : Nat) : FpResult := p.add rm x (p.fmt.flip y)

/-- The product (R566, R603). -/
def Precision.mul (p : Precision) (rm : BitVec 2) (x y : Nat) : FpResult :=
  let f := p.fmt
  let zx := f.isZero (p.ftz x)
  let zy := f.isZero (p.ftz y)
  if f.isNan x || f.isNan y then p.nan [x, y]
  else if (zx && f.isInf y) || (f.isInf x && zy) then p.invalid 2
  else if f.isInf x || f.isInf y then { value := f.inf (f.neg x != f.neg y) }
  else p.round rm ((f.value (p.ftz x)).mul (f.value (p.ftz y)))

/-- The quotient (R567, R604, R556). -/
def Precision.div (p : Precision) (rm : BitVec 2) (x y : Nat) : FpResult :=
  let f := p.fmt
  let zx := f.isZero (p.ftz x)
  let zy := f.isZero (p.ftz y)
  let s := f.neg x != f.neg y
  if f.isNan x || f.isNan y then p.nan [x, y]
  else if (zx && zy) || (f.isInf x && f.isInf y) then p.invalid 8
  else if f.isInf x then { value := f.inf s }
  else if zy then { value := f.inf s, fz := true }
  else if f.isInf y then { value := f.withSign s 0 }
  else p.round rm ((f.value (p.ftz x)).div (f.value (p.ftz y)))

/-- `d + x * y` with one rounding (R541, R568, R605). -/
def Precision.madd (p : Precision) (rm : BitVec 2) (d x y : Nat) : FpResult :=
  let f := p.fmt
  let zx := f.isZero (p.ftz x)
  let zy := f.isZero (p.ftz y)
  let s := f.neg x != f.neg y
  if f.isNan d || f.isNan x || f.isNan y then p.nan [d, x, y]
  else if (zx && f.isInf y) || (f.isInf x && zy) then p.invalid 2
  else if (f.isInf x || f.isInf y) && f.isInf d && f.neg d != s then p.invalid 1
  else if f.isInf x || f.isInf y then { value := f.inf s }
  else if f.isInf d then { value := d }
  else p.round rm (Exact.add rm (f.value (p.ftz d)) ((f.value (p.ftz x)).mul (f.value (p.ftz y))))

/-- `d - x * y` with one rounding (R569, R606). -/
def Precision.msub (p : Precision) (rm : BitVec 2) (d x y : Nat) : FpResult := p.madd rm d (p.fmt.flip x) y

/-- The real value of `x` is below that of `y`, both without NaN, subnormal numbers as they are (R570). -/
def FloatFmt.less (f : FloatFmt) (x y : Nat) : Bool :=
  if f.mag x == 0 && f.mag y == 0 then false
  else if f.neg x then !f.neg y || decide (f.mag y < f.mag x)
  else !f.neg y && decide (f.mag x < f.mag y)

/-- The result of CMP.F and CMP.DF (R570, R607). -/
def Precision.cmp (p : Precision) (x y : Nat) : FpResult :=
  let f := p.fmt
  let un := f.isNan x || f.isNan y
  let b (c : Bool) (k : Nat) : Nat := if c then k else 0
  { value := b (!un && f.less x y) 1 + b (!un && !f.less x y && !f.less y x) 2 + b (!un && f.less y x) 4 + b un 8 +
      b (f.isSub x) 16 + b (f.isSub y) 32
    fi := f.isSnan x || f.isSnan y }

/-- The absolute value (R572). -/
def Precision.abs (p : Precision) (x : Nat) : FpResult := if p.fmt.isNan x then p.nan [x] else { value := p.fmt.mag x }

/-- The negated value (R573). -/
def Precision.negate (p : Precision) (x : Nat) : FpResult :=
  if p.fmt.isNan x then p.nan [x] else { value := p.fmt.flip x }

/-- The smaller operand; of -0 and +0, -0 (R574). -/
def Precision.min (p : Precision) (x y : Nat) : FpResult :=
  if p.fmt.isNan x || p.fmt.isNan y then p.nan [x, y]
  else { value := if p.fmt.less x y || (!p.fmt.less y x && p.fmt.neg x) then x else y }

/-- The larger operand; of -0 and +0, +0 (R575). -/
def Precision.max (p : Precision) (x y : Nat) : FpResult :=
  if p.fmt.isNan x || p.fmt.isNan y then p.nan [x, y]
  else { value := if p.fmt.less y x || (!p.fmt.less x y && !p.fmt.neg x) then x else y }

/-- The inverse square root seed (R571, R608): `approx` and `inexact` are the implementation's, on ordinary
operands. -/
def Precision.qseed (p : Precision) (x approx : Nat) (inexact : Bool) : FpResult :=
  let f := p.fmt
  if f.isNan x then p.nan [x]
  else if f.isZero (p.ftz x) then { value := f.inf (f.neg x) }
  else if f.neg x then p.invalid 4
  else if f.isInf x then { value := 0 }
  else { value := approx, fx := inexact }

/-! ## Conversions -/

/-- An integer result as the two's complement number of `bits` bits. -/
def twos (bits : Nat) (i : Int) : Nat := (i % (2 ^ bits : Nat)).toNat

/-- A datum scaled by `2^k` and converted to an integer of the range `lo` to `hi` (R576, R579, R581, R609 to R617):
saturation with FI outside the range, 0 with FI for a NaN, FX where inexact. -/
def Precision.toInt (p : Precision) (rm : BitVec 2) (lo hi k : Int) (bits x : Nat) : FpResult :=
  let f := p.fmt
  if f.isNan x then { value := 0, fi := true }
  else if f.isInf x then { value := twos bits (if f.neg x then lo else hi), fi := true }
  else
    let v := (f.value (p.ftz x)).mul (Exact.scaled false 1 k)
    let (n, inexact) := roundNat rm v.neg v.num v.den
    let i : Int := if v.neg then -(n : Int) else n
    if hi < i then { value := twos bits hi, fi := true }
    else if i < lo then { value := twos bits lo, fi := true }
    else { value := twos bits i, fx := inexact }

/-- Half to single precision, exact (R587). -/
def halfToSingle (x : Nat) : FpResult :=
  let f := FloatFmt.half
  if f.isNan x then { value := Precision.single.qnan, fi := f.isSnan x }
  else if f.isInf x then { value := FloatFmt.single.inf (f.neg x) }
  else FloatFmt.single.round 0 (f.value x)

/-- Single to half precision (R588): no flushing on either side, FI and the half-precision quiet NaN on overflow
(92 D22), FU where a tiny result is inexact. DESIGN CHOICE (unsafe, notes/assumptions/50.md): an infinite operand gives the
half-precision infinity and no flag; R553 and R588 do not say whether it is outside the target's range. -/
def singleToHalf (rm : BitVec 2) (x : Nat) : FpResult :=
  let f := FloatFmt.single
  if f.isNan x then { value := 0x7FE0, fi := f.isSnan x }
  else if f.isInf x then { value := FloatFmt.half.inf (f.neg x) }
  else
    let r := FloatFmt.half.round rm (f.value x)
    if r.fv then { value := 0x7FE0, fi := true } else { r with fu := r.fu && r.fx }

end Sys2Proof.Machine
end

