-- ==== Sys2Proof/Machine/Fpu.lean ====
section
/-! DEFINITION. The floating-point instructions (44_fpu R564 to R588, R601 to R618): presence, operands, the two traps
with their captures (R561 to R563), the flags in PSW (R551). The arithmetic is in `Float.lean`. -/

namespace Sys2Proof.Machine

/-! ## The course of an instruction -/

/-- What a trap captures of an instruction (R592 to R598): precision, destination, the format bit and secondary
opcode where the spec gives an encoding, the operands named a, b and d. -/
structure FpuOp where
  dp : Bool
  dreg : Option Reg
  /-- FMT (true for RR) and OPC. -/
  opc : Option (Bool × Byte)
  src1 : Option Nat
  src2 : Option Nat
  src3 : Option Nat
deriving DecidableEq, Repr

/-- FPU_TRAP_OPC and FPU_SYNC_TRAP_OPC (R592, R600): what the spec does not give is any value: the opcode of an
instruction without an encoding, OPC[7:4] in format RRR, DREG of UPDFL (notes/assumptions/30.md). -/
def State.opcWord (s : State) (op : FpuOp) : Word :=
  let any := s.freeW 60
  let w := setBit 0 9 op.dp
  let w1 := setField w 16 (op.dreg.getD (field any 16 4))
  match op.opc with
  | some (true, opc) => setField (setBit w1 8 true) 0 opc
  | some (false, opc) => setField (setField (setBit w1 8 false) 0 opc) 4 (field any 4 4)
  | none => setField w1 0 (field any 0 9)

/-- One operand into its two capture registers (R593 to R598): the upper one is 0 for single precision; a register
without an operand takes any value. -/
def State.captureSrc (s : State) (l u : RepReg) (use : Nat) (src : Option Nat) : State :=
  let w := fun k => match src with
    | some v => BitVec.ofNat 32 (v >>> (32 * k))
    | none => s.freeW (use + k)
  (s.hwCur (.rep l) fun _ => w 0).hwCur (.rep u) fun _ => w 1

/-- The capture of the asynchronous trap (R562). -/
def State.captureAsync (s : State) (op : FpuOp) (r : FpResult) (rm : BitVec 2) : State :=
  let s1 := s.hwCur (.rep .fpuTrapCon) fun w =>
    setBit (setField (setBit (setBit (setBit w 29 r.fv) 27 r.fu) 26 r.fx) 8 rm) 0 true
  let s2 := (s1.hwCur (.rep .fpuTrapPc) fun _ => even s.pc).hwCur (.rep .fpuTrapOpc) fun _ => s.opcWord op
  let s3 := (s2.captureSrc .fpuSrc1L .fpuSrc1U 62 op.src1).captureSrc .fpuSrc2L .fpuSrc2U 64 op.src2
  { s3.captureSrc .fpuSrc3L .fpuSrc3U 66 op.src3 with pendCae := true }

/-- The capture of the synchronous trap (R563). -/
def State.captureSync (s : State) (op : FpuOp) (r : FpResult) (rm : BitVec 2) : State :=
  let s1 := s.hwCur (.rep .fpuSyncCon) fun w => setBit (setField (setBit (setBit w 30 r.fi) 28 r.fz) 8 rm) 0 true
  s1.hwCur (.rep .fpuSyncOpc) fun _ => s.opcWord op

/-- An enabled synchronous exception with nothing captured yet (R561 step 4). -/
def State.fpuSyncDue (s : State) (r : FpResult) : Bool :=
  let c := s.ctl (.rep .fpuSyncCon) .fpu
  ((r.fi && bit c 22) || (r.fz && bit c 20)) && !bit c 0

/-- An enabled asynchronous exception with nothing captured yet (R561 step 6). -/
def State.fpuAsyncDue (s : State) (r : FpResult) : Bool :=
  let c := s.ctl (.rep .fpuTrapCon) .fpu
  ((r.fv && bit c 21) || (r.fu && bit c 19) || (r.fx && bit c 18)) && !bit c 0

/-- PSW after an instruction other than UPDFL (R551): FS is written, the other flags are sticky. -/
def fpuFlags (p : Word) (r : FpResult) : Word :=
  let p1 := setBit (setBit (setBit p 31 (r.fi || r.fv || r.fz || r.fu || r.fx)) 30 (bit p 30 || r.fi)) 29
    (bit p 29 || r.fv)
  setBit (setBit (setBit p1 28 (bit p 28 || r.fz)) 27 (bit p 27 || r.fu)) 26 (bit p 26 || r.fx)

/-- The rounding mode an instruction runs with (R540). -/
def State.rm (s : State) : BitVec 2 := pswRm (s.ctl .psw .fpu)

/-- The unit an instruction needs is present (R520). -/
def State.fpuPresent (s : State) (dp : Bool) : Bool := if dp then s.cfg.hasDpFpu else s.cfg.hasSpFpu

/-- R561: `put` writes the destination, `flags` the PSW. -/
def State.execFpu (s : State) (op : FpuOp) (opd : Verdict) (r : FpResult) (flags : Word → Word) (put : State → State) :
    Host.Outcome State Fault Refusal :=
  match Verdict.first [opd, unitCheck (s.fpuPresent op.dp)] with
  | .go =>
    if s.fpuSyncDue r then .next ((s.captureSync op r s.rm).takeTrap 2 6 s.pc)
    else
      let s1 := (put s).modPsw flags
      .next ((if s.fpuAsyncDue r then s1.captureAsync op r s.rm else s1).advance 4)
  | v => s.conclude v s

/-- A datum of D[n]. -/
def State.fD (s : State) (n : Reg) : Nat := (s.getD n).toNat

/-- A datum of E[n]. -/
def State.fE (s : State) (n : Reg) : Nat := (s.getE n).toNat

/-- An instruction of the single-precision unit with a result in D[c]. -/
def State.execSp (s : State) (c : Reg) (opc : Option (Bool × Byte)) (src1 src2 src3 : Option Nat) (r : FpResult) :
    Host.Outcome State Fault Refusal :=
  s.execFpu ⟨false, some c, opc, src1, src2, src3⟩ .go r (fun p => fpuFlags p r) fun t =>
    t.setD c (BitVec.ofNat 32 r.value)

/-- An instruction of the double-precision unit with a result in E[c] (R521); `pairs` are its register pairs. -/
def State.execDp (s : State) (c : Reg) (pairs : List Reg) (src1 src2 src3 : Option Nat) (r : FpResult) :
    Host.Outcome State Fault Refusal :=
  s.execFpu ⟨true, some c, none, src1, src2, src3⟩ (Verdict.first ((c :: pairs).map s.pairCheck)) r
    (fun p => fpuFlags p r) fun t => t.setE c (BitVec.ofNat 64 r.value)

/-- An instruction of the double-precision unit with a result in D[c]. -/
def State.execDpWord (s : State) (c : Reg) (pairs : List Reg) (src1 src2 : Option Nat) (r : FpResult) :
    Host.Outcome State Fault Refusal :=
  s.execFpu ⟨true, some c, none, src1, src2, none⟩ (Verdict.first (pairs.map s.pairCheck)) r
    (fun p => fpuFlags p r) fun t => t.setD c (BitVec.ofNat 32 r.value)

/-! ## Conversions to integers -/

/-- To a signed 32-bit integer (R576, R609). -/
def Precision.toI32 (p : Precision) (rm : BitVec 2) (x : Nat) : FpResult := p.toInt rm (-2147483648) 2147483647 0 32 x

/-- To an unsigned 32-bit integer (R579, R612). -/
def Precision.toU32 (p : Precision) (rm : BitVec 2) (x : Nat) : FpResult := p.toInt rm 0 4294967295 0 32 x

/-- To a signed 64-bit integer (R614). -/
def Precision.toI64 (p : Precision) (rm : BitVec 2) (x : Nat) : FpResult :=
  p.toInt rm (-9223372036854775808) 9223372036854775807 0 64 x

/-- To an unsigned 64-bit integer (R616). -/
def Precision.toU64 (p : Precision) (rm : BitVec 2) (x : Nat) : FpResult := p.toInt rm 0 18446744073709551615 0 64 x

/-- The exponent operand of the Q31 conversions (R581). -/
def State.q31Exp (s : State) (b : Reg) : Int := (field (s.getD b) 0 9).toInt

/-- To a Q31 fraction (R581). -/
def State.toQ31 (s : State) (rm : BitVec 2) (a b : Reg) : FpResult :=
  Precision.single.toInt rm (-2147483648) 2147483647 (31 - s.q31Exp b) 32 (s.fD a)

/-! ## Single precision -/

/-- ADD.F D[c], D[d], D[a] (R564). -/
def execAddF (c d a : Reg) (s : State) : Host.Outcome State Fault Refusal :=
  s.execSp c (some (false, 0x02)) (some (s.fD a)) none (some (s.fD d))
    (Precision.single.add s.rm (s.fD d) (s.fD a))

/-- SUB.F D[c], D[d], D[a] (R565). -/
def execSubF (c d a : Reg) (s : State) : Host.Outcome State Fault Refusal :=
  s.execSp c (some (false, 0x03)) (some (s.fD a)) none (some (s.fD d))
    (Precision.single.sub s.rm (s.fD d) (s.fD a))

/-- MADD.F D[c], D[d], D[a], D[b] (R568). -/
def execMaddF (c d a b : Reg) (s : State) : Host.Outcome State Fault Refusal :=
  s.execSp c (some (false, 0x06)) (some (s.fD a)) (some (s.fD b)) (some (s.fD d))
    (Precision.single.madd s.rm (s.fD d) (s.fD a) (s.fD b))

/-- MSUB.F D[c], D[d], D[a], D[b] (R569). -/
def execMsubF (c d a b : Reg) (s : State) : Host.Outcome State Fault Refusal :=
  s.execSp c (some (false, 0x07)) (some (s.fD a)) (some (s.fD b)) (some (s.fD d))
    (Precision.single.msub s.rm (s.fD d) (s.fD a) (s.fD b))

/-- CMP.F D[c], D[a], D[b] (R570). -/
def execCmpF (c a b : Reg) (s : State) : Host.Outcome State Fault Refusal :=
  s.execSp c (some (true, 0x00)) (some (s.fD a)) (some (s.fD b)) none
    (Precision.single.cmp (s.fD a) (s.fD b))

/-- MUL.F D[c], D[a], D[b] (R566). -/
def execMulF (c a b : Reg) (s : State) : Host.Outcome State Fault Refusal :=
  s.execSp c (some (true, 0x04)) (some (s.fD a)) (some (s.fD b)) none
    (Precision.single.mul s.rm (s.fD a) (s.fD b))

/-- DIV.F D[c], D[a], D[b] (R567). -/
def execDivF (c a b : Reg) (s : State) : Host.Outcome State Fault Refusal :=
  s.execSp c (some (true, 0x05)) (some (s.fD a)) (some (s.fD b)) none
    (Precision.single.div s.rm (s.fD a) (s.fD b))

/-- FTOI D[c], D[a] (R576). -/
def execFtoi (c a : Reg) (s : State) : Host.Outcome State Fault Refusal :=
  s.execSp c (some (true, 0x10)) (some (s.fD a)) none none
    (Precision.single.toI32 s.rm (s.fD a))

/-- FTOIN D[c], D[a]: to nearest (R577). -/
def execFtoin (c a : Reg) (s : State) : Host.Outcome State Fault Refusal :=
  s.execSp c none (some (s.fD a)) none none
    (Precision.single.toI32 0 (s.fD a))

/-- FTOIZ D[c], D[a]: towards zero (R578). -/
def execFtoiz (c a : Reg) (s : State) : Host.Outcome State Fault Refusal :=
  s.execSp c (some (true, 0x13)) (some (s.fD a)) none none
    (Precision.single.toI32 3 (s.fD a))

/-- FTOU D[c], D[a] (R579). -/
def execFtou (c a : Reg) (s : State) : Host.Outcome State Fault Refusal :=
  s.execSp c (some (true, 0x12)) (some (s.fD a)) none none
    (Precision.single.toU32 s.rm (s.fD a))

/-- FTOUZ D[c], D[a]: towards zero (R580). -/
def execFtouz (c a : Reg) (s : State) : Host.Outcome State Fault Refusal :=
  s.execSp c (some (true, 0x17)) (some (s.fD a)) none none
    (Precision.single.toU32 3 (s.fD a))

/-- FTOQ31 D[c], D[a], D[b] (R581). -/
def execFtoq31 (c a b : Reg) (s : State) : Host.Outcome State Fault Refusal :=
  s.execSp c (some (true, 0x11)) (some (s.fD a)) (some (s.fD b)) none
    (s.toQ31 s.rm a b)

/-- FTOQ31Z D[c], D[a], D[b]: towards zero (R582). -/
def execFtoq31z (c a b : Reg) (s : State) : Host.Outcome State Fault Refusal :=
  s.execSp c (some (true, 0x18)) (some (s.fD a)) (some (s.fD b)) none
    (s.toQ31 3 a b)

/-- ITOF D[c], D[a] (R583). -/
def execItof (c a : Reg) (s : State) : Host.Outcome State Fault Refusal :=
  s.execSp c (some (true, 0x14)) (some (s.fD a)) none none
    (Precision.single.round s.rm (Exact.ofInt (s.getD a).toInt 0))

/-- UTOF D[c], D[a] (R584). -/
def execUtof (c a : Reg) (s : State) : Host.Outcome State Fault Refusal :=
  s.execSp c (some (true, 0x16)) (some (s.fD a)) none none
    (Precision.single.round s.rm (Exact.ofInt (s.getD a).toNat 0))

/-- Q31TOF D[c], D[a], D[b] (R585). -/
def execQ31tof (c a b : Reg) (s : State) : Host.Outcome State Fault Refusal :=
  s.execSp c (some (true, 0x15)) (some (s.fD a)) (some (s.fD b)) none
    (Precision.single.round s.rm (Exact.ofInt (s.getD a).toInt (s.q31Exp b - 31)))

/-- QSEED.F D[c], D[a] (R571). -/
def execQseedF (c a : Reg) (s : State) : Host.Outcome State Fault Refusal :=
  s.execSp c (some (true, 0x19)) (some (s.fD a)) none none
    (Precision.single.qseed (s.fD a) (Config.qseed (s.getD a)).toNat (Config.qseedInexact s.rm (s.getD a)))

/-- ABS.F D[c], D[a] (R572). -/
def execAbsF (c a : Reg) (s : State) : Host.Outcome State Fault Refusal :=
  s.execSp c none (some (s.fD a)) none none
    (Precision.single.abs (s.fD a))

/-- NEG.F D[c], D[a] (R573). -/
def execNegF (c a : Reg) (s : State) : Host.Outcome State Fault Refusal :=
  s.execSp c none (some (s.fD a)) none none
    (Precision.single.negate (s.fD a))

/-- MIN.F D[c], D[a], D[b] (R574). -/
def execMinF (c a b : Reg) (s : State) : Host.Outcome State Fault Refusal :=
  s.execSp c none (some (s.fD a)) (some (s.fD b)) none
    (Precision.single.min (s.fD a) (s.fD b))

/-- MAX.F D[c], D[a], D[b] (R575). -/
def execMaxF (c a b : Reg) (s : State) : Host.Outcome State Fault Refusal :=
  s.execSp c none (some (s.fD a)) (some (s.fD b)) none
    (Precision.single.max (s.fD a) (s.fD b))

/-- HPTOF D[c], D[a] (R587). -/
def execHptof (c a : Reg) (s : State) : Host.Outcome State Fault Refusal :=
  s.execSp c (some (true, 0x24)) (some (s.fD a)) none none
    (halfToSingle (s.fD a % 65536))

/-- FTOHP D[c], D[a] (R588). -/
def execFtohp (c a : Reg) (s : State) : Host.Outcome State Fault Refusal :=
  s.execSp c (some (true, 0x25)) (some (s.fD a)) none none
    (singleToHalf s.rm (s.fD a))

/-- UPDFL D[a] (R586): PSW[31:24] under the mask D[a][15:8] takes D[a][7:0]; a flag it sets to 1 counts as asserted
for the traps. -/
def execUpdfl (a : Reg) (s : State) : Host.Outcome State Fault Refusal :=
  let m : Byte := field (s.getD a) 8 8
  let v : Byte := field (s.getD a) 0 8
  let set := v &&& m
  let r : FpResult :=
    { value := 0, fi := set.getLsbD 6, fv := set.getLsbD 5, fz := set.getLsbD 4, fu := set.getLsbD 3,
      fx := set.getLsbD 2 }
  s.execFpu ⟨false, none, some (true, 0x0C), some (s.fD a), none, none⟩ .go r
    (fun p => setField p 24 ((field p 24 8 &&& ~~~m) ||| set)) id

/-! ## Double precision (the spec gives no encodings, notes/assumptions/23.md) -/

/-- ADD.DF E[c], E[d], E[a] (R601). -/
def execAddDf (c d a : Reg) (s : State) : Host.Outcome State Fault Refusal :=
  s.execDp c [d, a] (some (s.fE a)) none (some (s.fE d))
    (Precision.double.add s.rm (s.fE d) (s.fE a))

/-- SUB.DF E[c], E[d], E[a] (R602). -/
def execSubDf (c d a : Reg) (s : State) : Host.Outcome State Fault Refusal :=
  s.execDp c [d, a] (some (s.fE a)) none (some (s.fE d))
    (Precision.double.sub s.rm (s.fE d) (s.fE a))

/-- MUL.DF E[c], E[a], E[b] (R603). -/
def execMulDf (c a b : Reg) (s : State) : Host.Outcome State Fault Refusal :=
  s.execDp c [a, b] (some (s.fE a)) (some (s.fE b)) none
    (Precision.double.mul s.rm (s.fE a) (s.fE b))

/-- DIV.DF E[c], E[a], E[b] (R604). -/
def execDivDf (c a b : Reg) (s : State) : Host.Outcome State Fault Refusal :=
  s.execDp c [a, b] (some (s.fE a)) (some (s.fE b)) none
    (Precision.double.div s.rm (s.fE a) (s.fE b))

/-- MADD.DF E[c], E[d], E[a], E[b] (R605). -/
def execMaddDf (c d a b : Reg) (s : State) : Host.Outcome State Fault Refusal :=
  s.execDp c [d, a, b] (some (s.fE a)) (some (s.fE b)) (some (s.fE d))
    (Precision.double.madd s.rm (s.fE d) (s.fE a) (s.fE b))

/-- MSUB.DF E[c], E[d], E[a], E[b] (R606). -/
def execMsubDf (c d a b : Reg) (s : State) : Host.Outcome State Fault Refusal :=
  s.execDp c [d, a, b] (some (s.fE a)) (some (s.fE b)) (some (s.fE d))
    (Precision.double.msub s.rm (s.fE d) (s.fE a) (s.fE b))

/-- CMP.DF D[c], E[a], E[b] (R607). -/
def execCmpDf (c a b : Reg) (s : State) : Host.Outcome State Fault Refusal :=
  s.execDpWord c [a, b] (some (s.fE a)) (some (s.fE b)) (Precision.double.cmp (s.fE a) (s.fE b))

/-- QSEED.DF E[c], E[a] (R608). -/
def execQseedDf (c a : Reg) (s : State) : Host.Outcome State Fault Refusal :=
  s.execDp c [a] (some (s.fE a)) none none
    (Precision.double.qseed (s.fE a) (Config.qseedDf (s.getE a)).toNat (Config.qseedDfInexact s.rm (s.getE a)))

/-- DFTOI D[c], E[a] (R609). -/
def execDftoi (c a : Reg) (s : State) : Host.Outcome State Fault Refusal :=
  s.execDpWord c [a] (some (s.fE a)) none (Precision.double.toI32 s.rm (s.fE a))

/-- DFTOIN D[c], E[a] (R610). -/
def execDftoin (c a : Reg) (s : State) : Host.Outcome State Fault Refusal :=
  s.execDpWord c [a] (some (s.fE a)) none (Precision.double.toI32 0 (s.fE a))

/-- DFTOIZ D[c], E[a] (R611). -/
def execDftoiz (c a : Reg) (s : State) : Host.Outcome State Fault Refusal :=
  s.execDpWord c [a] (some (s.fE a)) none (Precision.double.toI32 3 (s.fE a))

/-- DFTOU D[c], E[a] (R612). -/
def execDftou (c a : Reg) (s : State) : Host.Outcome State Fault Refusal :=
  s.execDpWord c [a] (some (s.fE a)) none (Precision.double.toU32 s.rm (s.fE a))

/-- DFTOUZ D[c], E[a] (R613). -/
def execDftouz (c a : Reg) (s : State) : Host.Outcome State Fault Refusal :=
  s.execDpWord c [a] (some (s.fE a)) none (Precision.double.toU32 3 (s.fE a))

/-- DFTOL E[c], E[a] (R614). -/
def execDftol (c a : Reg) (s : State) : Host.Outcome State Fault Refusal :=
  s.execDp c [a] (some (s.fE a)) none none
    (Precision.double.toI64 s.rm (s.fE a))

/-- DFTOLZ E[c], E[a] (R615). -/
def execDftolz (c a : Reg) (s : State) : Host.Outcome State Fault Refusal :=
  s.execDp c [a] (some (s.fE a)) none none
    (Precision.double.toI64 3 (s.fE a))

/-- DFTOUL E[c], E[a] (R616). -/
def execDftoul (c a : Reg) (s : State) : Host.Outcome State Fault Refusal :=
  s.execDp c [a] (some (s.fE a)) none none
    (Precision.double.toU64 s.rm (s.fE a))

/-- DFTOULZ E[c], E[a] (R617). -/
def execDftoulz (c a : Reg) (s : State) : Host.Outcome State Fault Refusal :=
  s.execDp c [a] (some (s.fE a)) none none
    (Precision.double.toU64 3 (s.fE a))

/-- LTODF E[c], E[a] (R618). -/
def execLtodf (c a : Reg) (s : State) : Host.Outcome State Fault Refusal :=
  s.execDp c [a] (some (s.fE a)) none none
    (Precision.double.round s.rm (Exact.ofInt (s.getE a).toInt 0))

end Sys2Proof.Machine
end

