-- ==== Sys2Proof/Machine/Integer.lean ====
section
/-! DEFINITION. The integer instructions: ADD, ADDX, ADDC, EXTR.U (43_integer R495 to R498), the moves, SUB, the logic
and the compare instructions (47_supplementary R981 to R991, R998, R999). -/

namespace Sys2Proof.Machine

/-- A result with its flags: the low 32 bits to D[c], V, SV, AV, SAV to PSW, and C where the instruction writes it
(43 R491 to R493). -/
def State.execArith (s : State) (len : Nat) (c : Reg) (result : Int) (carry : Option Bool) :
    Host.Outcome State Fault Refusal :=
  .next (((s.modPsw fun p =>
    let p' := arithFlags p result
    match carry with
    | some k => setCarry p' k
    | none => p').setD c (BitVec.ofInt 32 result)).advance len)

/-- A value to D[c], no flag (47 R980). -/
def State.writeD (s : State) (len : Nat) (c : Reg) (v : Word) : Host.Outcome State Fault Refusal :=
  .next ((s.setD c v).advance len)

/-- A Boolean as a register holds it (43 R502). -/
def boolWord (b : Bool) : Word := if b then 1 else 0

/-- The bit field of EXTR.U; any value where the field leaves the word or is empty (43 R498, 93 U17). -/
def State.extract (s : State) (v : Word) (pos width : Nat) : Word :=
  if width = 0 ∨ 32 < pos + width then s.freeW 30
  else (v >>> pos) &&& ((1#32 <<< width) - 1)

/-- ADD D[c], D[a], D[b] (43 R495). -/
def execAdd (c a b : Reg) (s : State) : Host.Outcome State Fault Refusal :=
  s.execArith 4 c ((s.getD a).toInt + (s.getD b).toInt) none

/-- ADD D[c], D[a], const9 (R495). -/
def execAddC (c a : Reg) (const9 : BitVec 9) (s : State) : Host.Outcome State Fault Refusal :=
  s.execArith 4 c ((s.getD a).toInt + const9.toInt) none

/-- ADDX D[c], D[a], D[b] (R496). -/
def execAddx (c a b : Reg) (s : State) : Host.Outcome State Fault Refusal :=
  s.execArith 4 c ((s.getD a).toInt + (s.getD b).toInt) (some (carryOut (s.getD a) (s.getD b) false))

/-- ADDX D[c], D[a], const9 (R496). -/
def execAddxC (c a : Reg) (const9 : BitVec 9) (s : State) : Host.Outcome State Fault Refusal :=
  s.execArith 4 c ((s.getD a).toInt + const9.toInt) (some (carryOut (s.getD a) (sext const9) false))

/-- ADDC D[c], D[a], D[b] (R497). -/
def execAddc (c a b : Reg) (s : State) : Host.Outcome State Fault Refusal :=
  s.execArith 4 c ((s.getD a).toInt + (s.getD b).toInt + (pswC s.psw).toInt)
    (some (carryOut (s.getD a) (s.getD b) (pswC s.psw)))

/-- ADDC D[c], D[a], const9 (R497). -/
def execAddcC (c a : Reg) (const9 : BitVec 9) (s : State) : Host.Outcome State Fault Refusal :=
  s.execArith 4 c ((s.getD a).toInt + const9.toInt + (pswC s.psw).toInt)
    (some (carryOut (s.getD a) (sext const9) (pswC s.psw)))

/-- EXTR.U D[c], D[a], pos, width (R498). -/
def execExtrU (c a : Reg) (pos width : BitVec 5) (s : State) : Host.Outcome State Fault Refusal :=
  s.writeD 4 c (s.extract (s.getD a) pos.toNat width.toNat)

/-- EXTR.U D[c], D[a], E[d]: pos = E[d][4:0], width = E[d][36:32] (R498). -/
def execExtrUReg (c a d : Reg) (s : State) : Host.Outcome State Fault Refusal :=
  s.execD 4 (s.pairCheck d) c
    (s.extract (s.getD a) (field (s.getD d) 0 5).toNat (field (s.getD (d + 1)) 0 5).toNat)

/-- EXTR.U D[c], D[a], D[d], width: pos = D[d][4:0] (R498). -/
def execExtrUWidth (c a d : Reg) (width : BitVec 5) (s : State) : Host.Outcome State Fault Refusal :=
  s.writeD 4 c (s.extract (s.getD a) (field (s.getD d) 0 5).toNat width.toNat)

/-- MOV D[c], const16 (47 R981). -/
def execMovConst (c : Reg) (const16 : BitVec 16) (s : State) : Host.Outcome State Fault Refusal :=
  s.writeD 4 c (sext const16)

/-- MOVH D[c], const16 (R982). -/
def execMovh (c : Reg) (const16 : BitVec 16) (s : State) : Host.Outcome State Fault Refusal :=
  s.writeD 4 c (const16 ++ 0#16)

/-- MOVH.A A[c], const16 (R983). -/
def execMovhA (c : Reg) (const16 : BitVec 16) (s : State) : Host.Outcome State Fault Refusal :=
  s.execA 4 c (const16 ++ 0#16)

/-- ADDI D[c], D[a], const16 (R984). -/
def execAddi (c a : Reg) (const16 : BitVec 16) (s : State) : Host.Outcome State Fault Refusal :=
  s.execArith 4 c ((s.getD a).toInt + const16.toInt) none

/-- MOV D[c], D[b] (R985). -/
def execMov (c b : Reg) (s : State) : Host.Outcome State Fault Refusal := s.writeD 4 c (s.getD b)

/-- MOV.A A[c], D[b] (R986). -/
def execMovA (c b : Reg) (s : State) : Host.Outcome State Fault Refusal := s.execA 4 c (s.getD b)

/-- MOV.D D[c], A[b] (R987). -/
def execMovD (c b : Reg) (s : State) : Host.Outcome State Fault Refusal := s.writeD 4 c (s.getA b)

/-- MOV.AA A[c], A[b] (R988). -/
def execMovAa (c b : Reg) (s : State) : Host.Outcome State Fault Refusal := s.execA 4 c (s.getA b)

/-- SUB D[c], D[a], D[b] (R989). -/
def execSub (c a b : Reg) (s : State) : Host.Outcome State Fault Refusal :=
  s.execArith 4 c ((s.getD a).toInt - (s.getD b).toInt) none

/-- AND D[c], D[a], D[b] (R990). -/
def execAnd (c a b : Reg) (s : State) : Host.Outcome State Fault Refusal := s.writeD 4 c (s.getD a &&& s.getD b)

/-- AND D[c], D[a], const9, zero-extended (R990). -/
def execAndC (c a : Reg) (const9 : BitVec 9) (s : State) : Host.Outcome State Fault Refusal :=
  s.writeD 4 c (s.getD a &&& zext const9)

/-- OR D[c], D[a], D[b] (R990). -/
def execOr (c a b : Reg) (s : State) : Host.Outcome State Fault Refusal := s.writeD 4 c (s.getD a ||| s.getD b)

/-- OR D[c], D[a], const9, zero-extended (R990). -/
def execOrC (c a : Reg) (const9 : BitVec 9) (s : State) : Host.Outcome State Fault Refusal :=
  s.writeD 4 c (s.getD a ||| zext const9)

/-- XOR D[c], D[a], D[b] (R990). -/
def execXor (c a b : Reg) (s : State) : Host.Outcome State Fault Refusal := s.writeD 4 c (s.getD a ^^^ s.getD b)

/-- XOR D[c], D[a], const9, zero-extended (R990). -/
def execXorC (c a : Reg) (const9 : BitVec 9) (s : State) : Host.Outcome State Fault Refusal :=
  s.writeD 4 c (s.getD a ^^^ zext const9)

/-- EQ D[c], D[a], D[b] (R991). -/
def execEq (c a b : Reg) (s : State) : Host.Outcome State Fault Refusal :=
  s.writeD 4 c (boolWord (s.getD a == s.getD b))

/-- EQ D[c], D[a], const9, sign-extended (R991). -/
def execEqC (c a : Reg) (const9 : BitVec 9) (s : State) : Host.Outcome State Fault Refusal :=
  s.writeD 4 c (boolWord (s.getD a == sext const9))

/-- LT D[c], D[a], D[b], signed (R991). -/
def execLt (c a b : Reg) (s : State) : Host.Outcome State Fault Refusal :=
  s.writeD 4 c (boolWord (decide ((s.getD a).toInt < (s.getD b).toInt)))

/-- LT D[c], D[a], const9, sign-extended, signed (R991). -/
def execLtC (c a : Reg) (const9 : BitVec 9) (s : State) : Host.Outcome State Fault Refusal :=
  s.writeD 4 c (boolWord (decide ((s.getD a).toInt < const9.toInt)))

/-- MOV D[a], const4, 16-bit (R998). -/
def execMov16C (a : Reg) (const4 : BitVec 4) (s : State) : Host.Outcome State Fault Refusal :=
  s.writeD 2 a (sext const4)

/-- MOV D[a], D[b], 16-bit (R998). -/
def execMov16R (a b : Reg) (s : State) : Host.Outcome State Fault Refusal := s.writeD 2 a (s.getD b)

/-- ADD D[a], const4, 16-bit (R999). -/
def execAdd16C (a : Reg) (const4 : BitVec 4) (s : State) : Host.Outcome State Fault Refusal :=
  s.execArith 2 a ((s.getD a).toInt + const4.toInt) none

/-- ADD D[a], D[b], 16-bit (R999). -/
def execAdd16R (a b : Reg) (s : State) : Host.Outcome State Fault Refusal :=
  s.execArith 2 a ((s.getD a).toInt + (s.getD b).toInt) none

end Sys2Proof.Machine
end

