-- ==== Sys2Proof/Machine/LoadStore.lean ====
section
/-! DEFINITION. The loads, the stores and the atomic read-modify-writes (40_addressing R343 to R364, 47 R1000): one
operation for each mnemonic over a memory operand, and one meaning for each of its encodings. -/

namespace Sys2Proof.Machine

/-! ## One operation for each mnemonic -/

/-- LD.B (R343). -/
def State.ldB (s : State) (len : Nat) (a : Reg) (m : MemOp) : Host.Outcome State Fault Refusal :=
  s.execLoad len m 1 1 .go [] fun t v => t.setD a (sext (BitVec.ofNat 8 v))

/-- LD.BU (R344). -/
def State.ldBu (s : State) (len : Nat) (a : Reg) (m : MemOp) : Host.Outcome State Fault Refusal :=
  s.execLoad len m 1 1 .go [] fun t v => t.setD a (zext (BitVec.ofNat 8 v))

/-- LD.H (R345). -/
def State.ldH (s : State) (len : Nat) (a : Reg) (m : MemOp) : Host.Outcome State Fault Refusal :=
  s.execLoad len m 2 2 .go [] fun t v => t.setD a (sext (BitVec.ofNat 16 v))

/-- LD.HU (R346). -/
def State.ldHu (s : State) (len : Nat) (a : Reg) (m : MemOp) : Host.Outcome State Fault Refusal :=
  s.execLoad len m 2 2 .go [] fun t v => t.setD a (zext (BitVec.ofNat 16 v))

/-- LD.W (R347): half-word aligned in ordinary memory. -/
def State.ldW (s : State) (len : Nat) (a : Reg) (m : MemOp) : Host.Outcome State Fault Refusal :=
  s.execLoad len m 4 2 .go [] fun t v => t.setD a (BitVec.ofNat 32 v)

/-- LD.D (R348). -/
def State.ldD (s : State) (len : Nat) (a : Reg) (m : MemOp) : Host.Outcome State Fault Refusal :=
  s.execLoad len m 8 2 (s.pairCheck a) [] fun t v => t.setE a (BitVec.ofNat 64 v)

/-- LD.A (R349): word aligned. -/
def State.ldA (s : State) (len : Nat) (a : Reg) (m : MemOp) : Host.Outcome State Fault Refusal :=
  s.execLoad len m 4 4 .go [a] fun t v => t.setA a (BitVec.ofNat 32 v)

/-- LD.DA (R350). -/
def State.ldDa (s : State) (len : Nat) (a : Reg) (m : MemOp) : Host.Outcome State Fault Refusal :=
  s.execLoad len m 8 4 (s.pairCheck a) [a, a + 1] fun t v =>
    (t.setA a (BitVec.ofNat 32 v)).setA (a + 1) (BitVec.ofNat 32 (v / 2 ^ 32))

/-- ST.B (R352). -/
def State.stB (s : State) (len : Nat) (m : MemOp) (a : Reg) : Host.Outcome State Fault Refusal :=
  s.execStore len m 1 1 .go [] fun t => (t.getD a).toNat

/-- ST.H (R353). -/
def State.stH (s : State) (len : Nat) (m : MemOp) (a : Reg) : Host.Outcome State Fault Refusal :=
  s.execStore len m 2 2 .go [] fun t => (t.getD a).toNat

/-- ST.W (R354). -/
def State.stW (s : State) (len : Nat) (m : MemOp) (a : Reg) : Host.Outcome State Fault Refusal :=
  s.execStore len m 4 2 .go [] fun t => (t.getD a).toNat

/-- ST.D (R355). -/
def State.stD (s : State) (len : Nat) (m : MemOp) (a : Reg) : Host.Outcome State Fault Refusal :=
  s.execStore len m 8 2 (s.pairCheck a) [] fun t => (t.getE a).toNat

/-- ST.A (R356). -/
def State.stA (s : State) (len : Nat) (m : MemOp) (a : Reg) : Host.Outcome State Fault Refusal :=
  s.execStore len m 4 4 .go [a] fun t => (t.getA a).toNat

/-- ST.DA (R357). -/
def State.stDa (s : State) (len : Nat) (m : MemOp) (a : Reg) : Host.Outcome State Fault Refusal :=
  s.execStore len m 8 4 (s.pairCheck a) [a, a + 1] fun t => (t.getP a).toNat

/-- The memory word under the mask D[a+1] takes the bits of D[a] (R360, R364). -/
def State.underMask (s : State) (a : Reg) (old : Nat) : Nat :=
  let m : Word := BitVec.ofNat 32 old
  ((m &&& ~~~(s.getD (a + 1))) ||| (s.getD a &&& s.getD (a + 1))).toNat

/-- SWAP.W (R361). -/
def State.swapW (s : State) (len : Nat) (m : MemOp) (a : Reg) : Host.Outcome State Fault Refusal :=
  s.execRmw len m 4 4 .go (fun _ => (s.getD a).toNat) (some a)

/-- LDMST (R360). -/
def State.ldmst (s : State) (len : Nat) (m : MemOp) (a : Reg) : Host.Outcome State Fault Refusal :=
  s.execRmw len m 4 4 (s.pairCheck a) (s.underMask a) none

/-- SWAPMSK.W (R364). -/
def State.swapmskW (s : State) (len : Nat) (m : MemOp) (a : Reg) : Host.Outcome State Fault Refusal :=
  s.execRmw len m 4 4 (s.pairCheck a) (s.underMask a) (some a)

/-- CMPSWAP.W (R363). -/
def State.cmpswapW (s : State) (len : Nat) (m : MemOp) (a : Reg) : Host.Outcome State Fault Refusal :=
  s.execRmw len m 4 4 (s.pairCheck a) (fun old => if old = (s.getD (a + 1)).toNat then (s.getD a).toNat else old) (some a)

/-! ## One meaning for each encoding -/

/-- SWAP.W [A[b]]off10, D[a] (R361). -/
def execSwapWOff (b : Reg) (off10 : BitVec 10) (a : Reg) (s : State) : Host.Outcome State Fault Refusal :=
  s.swapW 4 (.off b off10) a

/-- SWAP.W [A[b]+]off10, D[a] (R361). -/
def execSwapWPost (b : Reg) (off10 : BitVec 10) (a : Reg) (s : State) : Host.Outcome State Fault Refusal :=
  s.swapW 4 (.post b off10) a

/-- SWAP.W [+A[b]]off10, D[a] (R361). -/
def execSwapWPre (b : Reg) (off10 : BitVec 10) (a : Reg) (s : State) : Host.Outcome State Fault Refusal :=
  s.swapW 4 (.pre b off10) a

/-- SWAP.W [P[b]+r], D[a] (R361). -/
def execSwapWRev (b : Reg) (a : Reg) (s : State) : Host.Outcome State Fault Refusal :=
  s.swapW 4 (.rev b) a

/-- SWAP.W [P[b]+c]off10, D[a] (R361). -/
def execSwapWCirc (b : Reg) (off10 : BitVec 10) (a : Reg) (s : State) : Host.Outcome State Fault Refusal :=
  s.swapW 4 (.circ b off10) a

/-- LDMST [A[b]]off10, E[a] (R360). -/
def execLdmstOff (b : Reg) (off10 : BitVec 10) (a : Reg) (s : State) : Host.Outcome State Fault Refusal :=
  s.ldmst 4 (.off b off10) a

/-- LDMST [A[b]+]off10, E[a] (R360). -/
def execLdmstPost (b : Reg) (off10 : BitVec 10) (a : Reg) (s : State) : Host.Outcome State Fault Refusal :=
  s.ldmst 4 (.post b off10) a

/-- LDMST [+A[b]]off10, E[a] (R360). -/
def execLdmstPre (b : Reg) (off10 : BitVec 10) (a : Reg) (s : State) : Host.Outcome State Fault Refusal :=
  s.ldmst 4 (.pre b off10) a

/-- LDMST [P[b]+r], E[a] (R360). -/
def execLdmstRev (b : Reg) (a : Reg) (s : State) : Host.Outcome State Fault Refusal :=
  s.ldmst 4 (.rev b) a

/-- LDMST [P[b]+c]off10, E[a] (R360). -/
def execLdmstCirc (b : Reg) (off10 : BitVec 10) (a : Reg) (s : State) : Host.Outcome State Fault Refusal :=
  s.ldmst 4 (.circ b off10) a

/-- SWAPMSK.W [A[b]]off10, E[a] (R364). -/
def execSwapmskWOff (b : Reg) (off10 : BitVec 10) (a : Reg) (s : State) : Host.Outcome State Fault Refusal :=
  s.swapmskW 4 (.off b off10) a

/-- SWAPMSK.W [A[b]+]off10, E[a] (R364). -/
def execSwapmskWPost (b : Reg) (off10 : BitVec 10) (a : Reg) (s : State) : Host.Outcome State Fault Refusal :=
  s.swapmskW 4 (.post b off10) a

/-- SWAPMSK.W [+A[b]]off10, E[a] (R364). -/
def execSwapmskWPre (b : Reg) (off10 : BitVec 10) (a : Reg) (s : State) : Host.Outcome State Fault Refusal :=
  s.swapmskW 4 (.pre b off10) a

/-- SWAPMSK.W [P[b]+r], E[a] (R364). -/
def execSwapmskWRev (b : Reg) (a : Reg) (s : State) : Host.Outcome State Fault Refusal :=
  s.swapmskW 4 (.rev b) a

/-- SWAPMSK.W [P[b]+c]off10, E[a] (R364). -/
def execSwapmskWCirc (b : Reg) (off10 : BitVec 10) (a : Reg) (s : State) : Host.Outcome State Fault Refusal :=
  s.swapmskW 4 (.circ b off10) a

/-- CMPSWAP.W [A[b]]off10, E[a] (R363). -/
def execCmpswapWOff (b : Reg) (off10 : BitVec 10) (a : Reg) (s : State) : Host.Outcome State Fault Refusal :=
  s.cmpswapW 4 (.off b off10) a

/-- CMPSWAP.W [A[b]+]off10, E[a] (R363). -/
def execCmpswapWPost (b : Reg) (off10 : BitVec 10) (a : Reg) (s : State) : Host.Outcome State Fault Refusal :=
  s.cmpswapW 4 (.post b off10) a

/-- CMPSWAP.W [+A[b]]off10, E[a] (R363). -/
def execCmpswapWPre (b : Reg) (off10 : BitVec 10) (a : Reg) (s : State) : Host.Outcome State Fault Refusal :=
  s.cmpswapW 4 (.pre b off10) a

/-- CMPSWAP.W [P[b]+r], E[a] (R363). -/
def execCmpswapWRev (b : Reg) (a : Reg) (s : State) : Host.Outcome State Fault Refusal :=
  s.cmpswapW 4 (.rev b) a

/-- CMPSWAP.W [P[b]+c]off10, E[a] (R363). -/
def execCmpswapWCirc (b : Reg) (off10 : BitVec 10) (a : Reg) (s : State) : Host.Outcome State Fault Refusal :=
  s.cmpswapW 4 (.circ b off10) a

/-- SWAP.W off18, D[a] (R361). -/
def execSwapWAbs (off18 : BitVec 18) (a : Reg) (s : State) : Host.Outcome State Fault Refusal :=
  s.swapW 4 (.abs off18) a

/-- LDMST off18, E[a] (R360). -/
def execLdmstAbs (off18 : BitVec 18) (a : Reg) (s : State) : Host.Outcome State Fault Refusal :=
  s.ldmst 4 (.abs off18) a

/-- ST.T off18, bpos3, b (R362). -/
def execStT (off18 : BitVec 18) (bpos3 : BitVec 3) (b : BitVec 1) (s : State) : Host.Outcome State Fault Refusal :=
  s.execRmw 4 (.abs off18) 1 1 .go
    (fun old => ((BitVec.ofNat 8 old &&& ~~~(1#8 <<< bpos3.toNat)) ||| (b.setWidth 8 <<< bpos3.toNat)).toNat) none

/-- LD.B D[a], off18 (R343). -/
def execLdBAbs (a : Reg) (off18 : BitVec 18) (s : State) : Host.Outcome State Fault Refusal :=
  s.ldB 4 a (.abs off18)

/-- LD.B D[a], [A[b]]off10 (R343). -/
def execLdBOff (a : Reg) (b : Reg) (off10 : BitVec 10) (s : State) : Host.Outcome State Fault Refusal :=
  s.ldB 4 a (.off b off10)

/-- LD.B D[a], [A[b]+]off10 (R343). -/
def execLdBPost (a : Reg) (b : Reg) (off10 : BitVec 10) (s : State) : Host.Outcome State Fault Refusal :=
  s.ldB 4 a (.post b off10)

/-- LD.B D[a], [+A[b]]off10 (R343). -/
def execLdBPre (a : Reg) (b : Reg) (off10 : BitVec 10) (s : State) : Host.Outcome State Fault Refusal :=
  s.ldB 4 a (.pre b off10)

/-- LD.B D[a], [P[b]+r] (R343). -/
def execLdBRev (a : Reg) (b : Reg) (s : State) : Host.Outcome State Fault Refusal :=
  s.ldB 4 a (.rev b)

/-- LD.B D[a], [P[b]+c]off10 (R343). -/
def execLdBCirc (a : Reg) (b : Reg) (off10 : BitVec 10) (s : State) : Host.Outcome State Fault Refusal :=
  s.ldB 4 a (.circ b off10)

/-- LD.BU D[a], off18 (R344). -/
def execLdBuAbs (a : Reg) (off18 : BitVec 18) (s : State) : Host.Outcome State Fault Refusal :=
  s.ldBu 4 a (.abs off18)

/-- LD.BU D[a], [A[b]]off10 (R344). -/
def execLdBuOff (a : Reg) (b : Reg) (off10 : BitVec 10) (s : State) : Host.Outcome State Fault Refusal :=
  s.ldBu 4 a (.off b off10)

/-- LD.BU D[a], [A[b]+]off10 (R344). -/
def execLdBuPost (a : Reg) (b : Reg) (off10 : BitVec 10) (s : State) : Host.Outcome State Fault Refusal :=
  s.ldBu 4 a (.post b off10)

/-- LD.BU D[a], [+A[b]]off10 (R344). -/
def execLdBuPre (a : Reg) (b : Reg) (off10 : BitVec 10) (s : State) : Host.Outcome State Fault Refusal :=
  s.ldBu 4 a (.pre b off10)

/-- LD.BU D[a], [P[b]+r] (R344). -/
def execLdBuRev (a : Reg) (b : Reg) (s : State) : Host.Outcome State Fault Refusal :=
  s.ldBu 4 a (.rev b)

/-- LD.BU D[a], [P[b]+c]off10 (R344). -/
def execLdBuCirc (a : Reg) (b : Reg) (off10 : BitVec 10) (s : State) : Host.Outcome State Fault Refusal :=
  s.ldBu 4 a (.circ b off10)

/-- LD.H D[a], off18 (R345). -/
def execLdHAbs (a : Reg) (off18 : BitVec 18) (s : State) : Host.Outcome State Fault Refusal :=
  s.ldH 4 a (.abs off18)

/-- LD.H D[a], [A[b]]off10 (R345). -/
def execLdHOff (a : Reg) (b : Reg) (off10 : BitVec 10) (s : State) : Host.Outcome State Fault Refusal :=
  s.ldH 4 a (.off b off10)

/-- LD.H D[a], [A[b]+]off10 (R345). -/
def execLdHPost (a : Reg) (b : Reg) (off10 : BitVec 10) (s : State) : Host.Outcome State Fault Refusal :=
  s.ldH 4 a (.post b off10)

/-- LD.H D[a], [+A[b]]off10 (R345). -/
def execLdHPre (a : Reg) (b : Reg) (off10 : BitVec 10) (s : State) : Host.Outcome State Fault Refusal :=
  s.ldH 4 a (.pre b off10)

/-- LD.H D[a], [P[b]+r] (R345). -/
def execLdHRev (a : Reg) (b : Reg) (s : State) : Host.Outcome State Fault Refusal :=
  s.ldH 4 a (.rev b)

/-- LD.H D[a], [P[b]+c]off10 (R345). -/
def execLdHCirc (a : Reg) (b : Reg) (off10 : BitVec 10) (s : State) : Host.Outcome State Fault Refusal :=
  s.ldH 4 a (.circ b off10)

/-- LD.HU D[a], off18 (R346). -/
def execLdHuAbs (a : Reg) (off18 : BitVec 18) (s : State) : Host.Outcome State Fault Refusal :=
  s.ldHu 4 a (.abs off18)

/-- LD.HU D[a], [A[b]]off10 (R346). -/
def execLdHuOff (a : Reg) (b : Reg) (off10 : BitVec 10) (s : State) : Host.Outcome State Fault Refusal :=
  s.ldHu 4 a (.off b off10)

/-- LD.HU D[a], [A[b]+]off10 (R346). -/
def execLdHuPost (a : Reg) (b : Reg) (off10 : BitVec 10) (s : State) : Host.Outcome State Fault Refusal :=
  s.ldHu 4 a (.post b off10)

/-- LD.HU D[a], [+A[b]]off10 (R346). -/
def execLdHuPre (a : Reg) (b : Reg) (off10 : BitVec 10) (s : State) : Host.Outcome State Fault Refusal :=
  s.ldHu 4 a (.pre b off10)

/-- LD.HU D[a], [P[b]+r] (R346). -/
def execLdHuRev (a : Reg) (b : Reg) (s : State) : Host.Outcome State Fault Refusal :=
  s.ldHu 4 a (.rev b)

/-- LD.HU D[a], [P[b]+c]off10 (R346). -/
def execLdHuCirc (a : Reg) (b : Reg) (off10 : BitVec 10) (s : State) : Host.Outcome State Fault Refusal :=
  s.ldHu 4 a (.circ b off10)

/-- LD.W D[a], off18 (R347). -/
def execLdWAbs (a : Reg) (off18 : BitVec 18) (s : State) : Host.Outcome State Fault Refusal :=
  s.ldW 4 a (.abs off18)

/-- LD.W D[a], [A[b]]off10 (R347). -/
def execLdWOff (a : Reg) (b : Reg) (off10 : BitVec 10) (s : State) : Host.Outcome State Fault Refusal :=
  s.ldW 4 a (.off b off10)

/-- LD.W D[a], [A[b]+]off10 (R347). -/
def execLdWPost (a : Reg) (b : Reg) (off10 : BitVec 10) (s : State) : Host.Outcome State Fault Refusal :=
  s.ldW 4 a (.post b off10)

/-- LD.W D[a], [+A[b]]off10 (R347). -/
def execLdWPre (a : Reg) (b : Reg) (off10 : BitVec 10) (s : State) : Host.Outcome State Fault Refusal :=
  s.ldW 4 a (.pre b off10)

/-- LD.W D[a], [P[b]+r] (R347). -/
def execLdWRev (a : Reg) (b : Reg) (s : State) : Host.Outcome State Fault Refusal :=
  s.ldW 4 a (.rev b)

/-- LD.W D[a], [P[b]+c]off10 (R347). -/
def execLdWCirc (a : Reg) (b : Reg) (off10 : BitVec 10) (s : State) : Host.Outcome State Fault Refusal :=
  s.ldW 4 a (.circ b off10)

/-- LD.D E[a], off18 (R348). -/
def execLdDAbs (a : Reg) (off18 : BitVec 18) (s : State) : Host.Outcome State Fault Refusal :=
  s.ldD 4 a (.abs off18)

/-- LD.D E[a], [A[b]]off10 (R348). -/
def execLdDOff (a : Reg) (b : Reg) (off10 : BitVec 10) (s : State) : Host.Outcome State Fault Refusal :=
  s.ldD 4 a (.off b off10)

/-- LD.D E[a], [A[b]+]off10 (R348). -/
def execLdDPost (a : Reg) (b : Reg) (off10 : BitVec 10) (s : State) : Host.Outcome State Fault Refusal :=
  s.ldD 4 a (.post b off10)

/-- LD.D E[a], [+A[b]]off10 (R348). -/
def execLdDPre (a : Reg) (b : Reg) (off10 : BitVec 10) (s : State) : Host.Outcome State Fault Refusal :=
  s.ldD 4 a (.pre b off10)

/-- LD.D E[a], [P[b]+r] (R348). -/
def execLdDRev (a : Reg) (b : Reg) (s : State) : Host.Outcome State Fault Refusal :=
  s.ldD 4 a (.rev b)

/-- LD.D E[a], [P[b]+c]off10 (R348). -/
def execLdDCirc (a : Reg) (b : Reg) (off10 : BitVec 10) (s : State) : Host.Outcome State Fault Refusal :=
  s.ldD 4 a (.circ b off10)

/-- LD.A A[a], off18 (R349). -/
def execLdAAbs (a : Reg) (off18 : BitVec 18) (s : State) : Host.Outcome State Fault Refusal :=
  s.ldA 4 a (.abs off18)

/-- LD.A A[a], [A[b]]off10 (R349). -/
def execLdAOff (a : Reg) (b : Reg) (off10 : BitVec 10) (s : State) : Host.Outcome State Fault Refusal :=
  s.ldA 4 a (.off b off10)

/-- LD.A A[a], [A[b]+]off10 (R349). -/
def execLdAPost (a : Reg) (b : Reg) (off10 : BitVec 10) (s : State) : Host.Outcome State Fault Refusal :=
  s.ldA 4 a (.post b off10)

/-- LD.A A[a], [+A[b]]off10 (R349). -/
def execLdAPre (a : Reg) (b : Reg) (off10 : BitVec 10) (s : State) : Host.Outcome State Fault Refusal :=
  s.ldA 4 a (.pre b off10)

/-- LD.A A[a], [P[b]+r] (R349). -/
def execLdARev (a : Reg) (b : Reg) (s : State) : Host.Outcome State Fault Refusal :=
  s.ldA 4 a (.rev b)

/-- LD.A A[a], [P[b]+c]off10 (R349). -/
def execLdACirc (a : Reg) (b : Reg) (off10 : BitVec 10) (s : State) : Host.Outcome State Fault Refusal :=
  s.ldA 4 a (.circ b off10)

/-- LD.DA P[a], off18 (R350). -/
def execLdDaAbs (a : Reg) (off18 : BitVec 18) (s : State) : Host.Outcome State Fault Refusal :=
  s.ldDa 4 a (.abs off18)

/-- LD.DA P[a], [A[b]]off10 (R350). -/
def execLdDaOff (a : Reg) (b : Reg) (off10 : BitVec 10) (s : State) : Host.Outcome State Fault Refusal :=
  s.ldDa 4 a (.off b off10)

/-- LD.DA P[a], [A[b]+]off10 (R350). -/
def execLdDaPost (a : Reg) (b : Reg) (off10 : BitVec 10) (s : State) : Host.Outcome State Fault Refusal :=
  s.ldDa 4 a (.post b off10)

/-- LD.DA P[a], [+A[b]]off10 (R350). -/
def execLdDaPre (a : Reg) (b : Reg) (off10 : BitVec 10) (s : State) : Host.Outcome State Fault Refusal :=
  s.ldDa 4 a (.pre b off10)

/-- LD.DA P[a], [P[b]+r] (R350). -/
def execLdDaRev (a : Reg) (b : Reg) (s : State) : Host.Outcome State Fault Refusal :=
  s.ldDa 4 a (.rev b)

/-- LD.DA P[a], [P[b]+c]off10 (R350). -/
def execLdDaCirc (a : Reg) (b : Reg) (off10 : BitVec 10) (s : State) : Host.Outcome State Fault Refusal :=
  s.ldDa 4 a (.circ b off10)

/-- LD.W D[a], [A[b]]off16 (R347). -/
def execLdWLong (a : Reg) (b : Reg) (off16 : BitVec 16) (s : State) : Host.Outcome State Fault Refusal :=
  s.ldW 4 a (.long b off16)

/-- LD.A A[a], [A[b]]off16 (R349). -/
def execLdALong (a : Reg) (b : Reg) (off16 : BitVec 16) (s : State) : Host.Outcome State Fault Refusal :=
  s.ldA 4 a (.long b off16)

/-- LD.B D[a], [A[b]]off16 (R343). -/
def execLdBLong (a : Reg) (b : Reg) (off16 : BitVec 16) (s : State) : Host.Outcome State Fault Refusal :=
  s.ldB 4 a (.long b off16)

/-- LD.BU D[a], [A[b]]off16 (R344). -/
def execLdBuLong (a : Reg) (b : Reg) (off16 : BitVec 16) (s : State) : Host.Outcome State Fault Refusal :=
  s.ldBu 4 a (.long b off16)

/-- LD.H D[a], [A[b]]off16 (R345). -/
def execLdHLong (a : Reg) (b : Reg) (off16 : BitVec 16) (s : State) : Host.Outcome State Fault Refusal :=
  s.ldH 4 a (.long b off16)

/-- LD.HU D[a], [A[b]]off16 (R346). -/
def execLdHuLong (a : Reg) (b : Reg) (off16 : BitVec 16) (s : State) : Host.Outcome State Fault Refusal :=
  s.ldHu 4 a (.long b off16)

/-- ST.B off18, D[a] (R352). -/
def execStBAbs (off18 : BitVec 18) (a : Reg) (s : State) : Host.Outcome State Fault Refusal :=
  s.stB 4 (.abs off18) a

/-- ST.B [A[b]]off10, D[a] (R352). -/
def execStBOff (b : Reg) (off10 : BitVec 10) (a : Reg) (s : State) : Host.Outcome State Fault Refusal :=
  s.stB 4 (.off b off10) a

/-- ST.B [A[b]+]off10, D[a] (R352). -/
def execStBPost (b : Reg) (off10 : BitVec 10) (a : Reg) (s : State) : Host.Outcome State Fault Refusal :=
  s.stB 4 (.post b off10) a

/-- ST.B [+A[b]]off10, D[a] (R352). -/
def execStBPre (b : Reg) (off10 : BitVec 10) (a : Reg) (s : State) : Host.Outcome State Fault Refusal :=
  s.stB 4 (.pre b off10) a

/-- ST.B [P[b]+r], D[a] (R352). -/
def execStBRev (b : Reg) (a : Reg) (s : State) : Host.Outcome State Fault Refusal :=
  s.stB 4 (.rev b) a

/-- ST.B [P[b]+c]off10, D[a] (R352). -/
def execStBCirc (b : Reg) (off10 : BitVec 10) (a : Reg) (s : State) : Host.Outcome State Fault Refusal :=
  s.stB 4 (.circ b off10) a

/-- ST.H off18, D[a] (R353). -/
def execStHAbs (off18 : BitVec 18) (a : Reg) (s : State) : Host.Outcome State Fault Refusal :=
  s.stH 4 (.abs off18) a

/-- ST.H [A[b]]off10, D[a] (R353). -/
def execStHOff (b : Reg) (off10 : BitVec 10) (a : Reg) (s : State) : Host.Outcome State Fault Refusal :=
  s.stH 4 (.off b off10) a

/-- ST.H [A[b]+]off10, D[a] (R353). -/
def execStHPost (b : Reg) (off10 : BitVec 10) (a : Reg) (s : State) : Host.Outcome State Fault Refusal :=
  s.stH 4 (.post b off10) a

/-- ST.H [+A[b]]off10, D[a] (R353). -/
def execStHPre (b : Reg) (off10 : BitVec 10) (a : Reg) (s : State) : Host.Outcome State Fault Refusal :=
  s.stH 4 (.pre b off10) a

/-- ST.H [P[b]+r], D[a] (R353). -/
def execStHRev (b : Reg) (a : Reg) (s : State) : Host.Outcome State Fault Refusal :=
  s.stH 4 (.rev b) a

/-- ST.H [P[b]+c]off10, D[a] (R353). -/
def execStHCirc (b : Reg) (off10 : BitVec 10) (a : Reg) (s : State) : Host.Outcome State Fault Refusal :=
  s.stH 4 (.circ b off10) a

/-- ST.W off18, D[a] (R354). -/
def execStWAbs (off18 : BitVec 18) (a : Reg) (s : State) : Host.Outcome State Fault Refusal :=
  s.stW 4 (.abs off18) a

/-- ST.W [A[b]]off10, D[a] (R354). -/
def execStWOff (b : Reg) (off10 : BitVec 10) (a : Reg) (s : State) : Host.Outcome State Fault Refusal :=
  s.stW 4 (.off b off10) a

/-- ST.W [A[b]+]off10, D[a] (R354). -/
def execStWPost (b : Reg) (off10 : BitVec 10) (a : Reg) (s : State) : Host.Outcome State Fault Refusal :=
  s.stW 4 (.post b off10) a

/-- ST.W [+A[b]]off10, D[a] (R354). -/
def execStWPre (b : Reg) (off10 : BitVec 10) (a : Reg) (s : State) : Host.Outcome State Fault Refusal :=
  s.stW 4 (.pre b off10) a

/-- ST.W [P[b]+r], D[a] (R354). -/
def execStWRev (b : Reg) (a : Reg) (s : State) : Host.Outcome State Fault Refusal :=
  s.stW 4 (.rev b) a

/-- ST.W [P[b]+c]off10, D[a] (R354). -/
def execStWCirc (b : Reg) (off10 : BitVec 10) (a : Reg) (s : State) : Host.Outcome State Fault Refusal :=
  s.stW 4 (.circ b off10) a

/-- ST.D off18, E[a] (R355). -/
def execStDAbs (off18 : BitVec 18) (a : Reg) (s : State) : Host.Outcome State Fault Refusal :=
  s.stD 4 (.abs off18) a

/-- ST.D [A[b]]off10, E[a] (R355). -/
def execStDOff (b : Reg) (off10 : BitVec 10) (a : Reg) (s : State) : Host.Outcome State Fault Refusal :=
  s.stD 4 (.off b off10) a

/-- ST.D [A[b]+]off10, E[a] (R355). -/
def execStDPost (b : Reg) (off10 : BitVec 10) (a : Reg) (s : State) : Host.Outcome State Fault Refusal :=
  s.stD 4 (.post b off10) a

/-- ST.D [+A[b]]off10, E[a] (R355). -/
def execStDPre (b : Reg) (off10 : BitVec 10) (a : Reg) (s : State) : Host.Outcome State Fault Refusal :=
  s.stD 4 (.pre b off10) a

/-- ST.D [P[b]+r], E[a] (R355). -/
def execStDRev (b : Reg) (a : Reg) (s : State) : Host.Outcome State Fault Refusal :=
  s.stD 4 (.rev b) a

/-- ST.D [P[b]+c]off10, E[a] (R355). -/
def execStDCirc (b : Reg) (off10 : BitVec 10) (a : Reg) (s : State) : Host.Outcome State Fault Refusal :=
  s.stD 4 (.circ b off10) a

/-- ST.A off18, A[a] (R356). -/
def execStAAbs (off18 : BitVec 18) (a : Reg) (s : State) : Host.Outcome State Fault Refusal :=
  s.stA 4 (.abs off18) a

/-- ST.A [A[b]]off10, A[a] (R356). -/
def execStAOff (b : Reg) (off10 : BitVec 10) (a : Reg) (s : State) : Host.Outcome State Fault Refusal :=
  s.stA 4 (.off b off10) a

/-- ST.A [A[b]+]off10, A[a] (R356). -/
def execStAPost (b : Reg) (off10 : BitVec 10) (a : Reg) (s : State) : Host.Outcome State Fault Refusal :=
  s.stA 4 (.post b off10) a

/-- ST.A [+A[b]]off10, A[a] (R356). -/
def execStAPre (b : Reg) (off10 : BitVec 10) (a : Reg) (s : State) : Host.Outcome State Fault Refusal :=
  s.stA 4 (.pre b off10) a

/-- ST.A [P[b]+r], A[a] (R356). -/
def execStARev (b : Reg) (a : Reg) (s : State) : Host.Outcome State Fault Refusal :=
  s.stA 4 (.rev b) a

/-- ST.A [P[b]+c]off10, A[a] (R356). -/
def execStACirc (b : Reg) (off10 : BitVec 10) (a : Reg) (s : State) : Host.Outcome State Fault Refusal :=
  s.stA 4 (.circ b off10) a

/-- ST.DA off18, P[a] (R357). -/
def execStDaAbs (off18 : BitVec 18) (a : Reg) (s : State) : Host.Outcome State Fault Refusal :=
  s.stDa 4 (.abs off18) a

/-- ST.DA [A[b]]off10, P[a] (R357). -/
def execStDaOff (b : Reg) (off10 : BitVec 10) (a : Reg) (s : State) : Host.Outcome State Fault Refusal :=
  s.stDa 4 (.off b off10) a

/-- ST.DA [A[b]+]off10, P[a] (R357). -/
def execStDaPost (b : Reg) (off10 : BitVec 10) (a : Reg) (s : State) : Host.Outcome State Fault Refusal :=
  s.stDa 4 (.post b off10) a

/-- ST.DA [+A[b]]off10, P[a] (R357). -/
def execStDaPre (b : Reg) (off10 : BitVec 10) (a : Reg) (s : State) : Host.Outcome State Fault Refusal :=
  s.stDa 4 (.pre b off10) a

/-- ST.DA [P[b]+r], P[a] (R357). -/
def execStDaRev (b : Reg) (a : Reg) (s : State) : Host.Outcome State Fault Refusal :=
  s.stDa 4 (.rev b) a

/-- ST.DA [P[b]+c]off10, P[a] (R357). -/
def execStDaCirc (b : Reg) (off10 : BitVec 10) (a : Reg) (s : State) : Host.Outcome State Fault Refusal :=
  s.stDa 4 (.circ b off10) a

/-- ST.W [A[b]]off16, D[a] (R354). -/
def execStWLong (b : Reg) (off16 : BitVec 16) (a : Reg) (s : State) : Host.Outcome State Fault Refusal :=
  s.stW 4 (.long b off16) a

/-- ST.A [A[b]]off16, A[a] (R356). -/
def execStALong (b : Reg) (off16 : BitVec 16) (a : Reg) (s : State) : Host.Outcome State Fault Refusal :=
  s.stA 4 (.long b off16) a

/-- ST.B [A[b]]off16, D[a] (R352). -/
def execStBLong (b : Reg) (off16 : BitVec 16) (a : Reg) (s : State) : Host.Outcome State Fault Refusal :=
  s.stB 4 (.long b off16) a

/-- ST.H [A[b]]off16, D[a] (R353). -/
def execStHLong (b : Reg) (off16 : BitVec 16) (a : Reg) (s : State) : Host.Outcome State Fault Refusal :=
  s.stH 4 (.long b off16) a

/-- LD.W D[c], [A[b]] (R1000). -/
def execLdW16 (c : Reg) (b : Reg) (s : State) : Host.Outcome State Fault Refusal :=
  s.ldW 2 c (.off b 0)

/-- ST.W [A[b]], D[a] (R1000). -/
def execStW16 (b : Reg) (a : Reg) (s : State) : Host.Outcome State Fault Refusal :=
  s.stW 2 (.off b 0) a

/-- LD.DD Q[a], memory operand (R351; the spec gives no encoding and an unstated subset of the modes: every mode
is modelled, notes/assumptions/24.md). -/
def execLdDd (a : Reg) (mem : MemOp) (s : State) : Host.Outcome State Fault Refusal :=
  s.execLoad 4 mem 16 4 (s.quadCheck a) [] fun t v => t.setQ a (BitVec.ofNat 128 v)

/-- ST.DD memory operand, Q[a] (R358, notes/assumptions/24.md). -/
def execStDd (mem : MemOp) (a : Reg) (s : State) : Host.Outcome State Fault Refusal :=
  s.execStore 4 mem 16 4 (s.quadCheck a) [] fun t => (t.getQ a).toNat

end Sys2Proof.Machine
end

