-- ==== Sys2Proof/Machine/Csfr.lean ====
section
/-! DEFINITION. The core special function registers as a map: offsets (10_state R105), field types (R47 to R102,
44_fpu R590 to R600, 45_debug R660 to R679, 46_virtualization R761 to R766), the values read, the effects of a write
(42_system R450 to R457), the checks of a move (R451, R455, R456) and the host's view (46 R703, R708). -/

namespace Sys2Proof.Machine

/-! ## The map -/

/-- The registers with an offset of their own (10_state R105). -/
def csfrTable : List (Nat × Csfr) :=
  [(0x8100, .rep .pma0), (0x8104, .rep .pma1), (0x8108, .rep .pma2),
    (0x9000, .rep .dcon2), (0x9008, .rep .dcon1), (0x900C, .rep .smacon), (0x9010, .rep .dstr), (0x9018, .rep .datr),
    (0x901C, .rep .deadd), (0x9020, .rep .diear), (0x9024, .rep .dietr), (0x9040, .rep .dcon0),
    (0x9200, .rep .pstr), (0x9204, .rep .pcon1), (0x9208, .rep .pcon2), (0x920C, .rep .pcon0),
    (0x9210, .rep .piear), (0x9214, .rep .pietr), (0x9400, .rep .compat)] ++
  [(0xE400, .rep .tpsCon), (0xE404, .rep (.tpsTimer 0)), (0xE408, .rep (.tpsTimer 1)), (0xE40C, .rep (.tpsTimer 2)),
    (0xFC00, .rep .cctrl), (0xFC04, .rep .ccnt), (0xFC08, .rep .icnt), (0xFC0C, .rep (.mcnt 0)),
    (0xFC10, .rep (.mcnt 1)), (0xFC14, .rep (.mcnt 2))] ++
  [(0xFD00, .sys .dbgsr), (0xFD08, .sys .exevt), (0xFD0C, .sys .crevt), (0xFD10, .sys .swevt), (0xFD14, .sys .dbgact),
    (0xFD30, .sys .trigAcc), (0xFD40, .sys .dms), (0xFD44, .sys .dcx), (0xFD48, .sys .dbgtcr), (0xFD4C, .sys .dbgcfg),
    (0xFD50, .sys .trccfg), (0xFD54, .sys .trcflt), (0xFD58, .sys .trclim)] ++
  [(0xFE00, .pcxi), (0xFE04, .psw), (0xFE08, .pc), (0xFE14, .rep .corecon), (0xFE18, .cpuId), (0xFE1C, .coreId),
    (0xFE20, .rep .biv), (0xFE24, .rep .btv), (0xFE28, .rep .isp), (0xFE2C, .icr), (0xFE34, .pprs),
    (0xFE38, .rep .fcx), (0xFE3C, .rep .lcx), (0xFE60, .sys .bootcon), (0xFE68, .sys .ccon), (0xFE6C, .tccon)]

/-- The FPU's trap registers (10_state R105); the upper halves exist with the double-precision unit only. -/
def fpuTable (dp : Bool) : List (Nat × Csfr) :=
  [(0xA000, .rep .fpuTrapCon), (0xA004, .rep .fpuTrapPc), (0xA008, .rep .fpuTrapOpc), (0xA010, .rep .fpuSrc1L),
    (0xA018, .rep .fpuSrc2L), (0xA020, .rep .fpuSrc3L), (0xA030, .rep .fpuSyncCon), (0xA034, .rep .fpuSyncOpc)] ++
  if dp then [(0xA014, .rep .fpuSrc1U), (0xA01C, .rep .fpuSrc2U), (0xA024, .rep .fpuSrc3U)] else []

/-- The hypervisor's registers with an offset of their own (10_state R105). -/
def hyperTable : List (Nat × Csfr) :=
  [(0xB000, .sys .vcon0), (0xB004, .sys .vcon1), (0xB008, .sys .vcon2), (0xB010, .sys .bhv)]

/-- A table's register at an offset. -/
def lookup (t : List (Nat × Csfr)) (off : Nat) : Option Csfr := (t.find? fun e => e.1 == off).map Prod.snd

/-- One of eight registers. -/
def eighth (n : Nat) : Fin 8 := ⟨n % 8, Nat.mod_lt _ (by decide)⟩

/-- One of 32 registers. -/
def range32 (n : Nat) : Fin 32 := ⟨n % 32, Nat.mod_lt _ (by decide)⟩

/-- The protection range registers at C000H and D000H, 8 bytes a range, as far as they exist (10_state R87 to R90). -/
def rangeReg (count : Nat) (base off : Nat) (l u : Fin 32 → RepReg) : Option Csfr :=
  let n := (off - base) / 8
  if off % 4 = 0 ∧ n < count ∧ n < 32 then
    some (.rep (if off % 8 = 0 then l (range32 n) else u (range32 n)))
  else none

/-- The enable registers at E000H to E06CH, as far as their sets exist (10_state R91 to R93). -/
def enableReg (nPrs : Nat) (off : Nat) : Option Csfr :=
  let bank := (off - 0xE000) / 0x10
  let x := (off % 0x10) / 4 + (if 4 ≤ bank then 4 else 0)
  if off % 4 = 0 ∧ x < nPrs then
    match bank with
    | 0 => some (.rep (.cpxe (eighth x)))
    | 1 => some (.rep (.dpre (eighth x)))
    | 2 => some (.rep (.dpwe (eighth x)))
    | 4 => some (.rep (.cpxe (eighth x)))
    | 5 => some (.rep (.dpre (eighth x)))
    | 6 => some (.rep (.dpwe (eighth x)))
    | _ => none
  else none

/-- The trigger registers at F000H, 8 bytes a trigger (45 R668, R669). -/
def trigReg (count : Nat) (off : Nat) : Option Csfr :=
  let n := (off - 0xF000) / 8
  if off % 4 = 0 ∧ n < count ∧ n < 8 then
    some (.sys (if off % 8 = 0 then .trEvt (eighth n) else .trAdr (eighth n)))
  else none

/-- The offsets that only the hypervisor may access (10_state R105, 46 R704). -/
def hyperOffset (off : Nat) : Bool := decide (0xB000 ≤ off) && decide (off ≤ 0xB2FF)

/-- The register at an offset in a configuration, the general registers apart (10_state R105, 42 R455). -/
def csfrAt (c : Config) (off : Nat) : Option Csfr :=
  if off < 0xA000 then lookup csfrTable off
  else if off < 0xB000 then if c.hasSpFpu then lookup (fpuTable c.hasDpFpu) off else none
  else if off < 0xC000 then
    if !c.hasVirt then none
    else if 0xB100 ≤ off ∧ off < 0xB120 ∧ off % 4 = 0 then some (.sys (.vmIcr (eighth ((off - 0xB100) / 4))))
    else if 0xB200 ≤ off ∧ off < 0xB220 ∧ off % 4 = 0 then some (.sys (.vmPeThresh (eighth ((off - 0xB200) / 4))))
    else lookup hyperTable off
  else if off < 0xD000 then rangeReg c.nDpr 0xC000 off .dprL .dprU
  else if off < 0xE000 then rangeReg c.nCpr 0xD000 off .cprL .cprU
  else if off < 0xE400 then enableReg c.nPrs off
  else if off < 0xF000 then lookup csfrTable off
  else if off < 0xFC00 then trigReg c.nTrig off
  else lookup csfrTable off

/-- The global address register at an offset (46 R706). -/
def globalAt (off : Nat) : Option (Fin 4) :=
  if off = 0xFF80 then some 0 else if off = 0xFF84 then some 1 else if off = 0xFFA0 then some 2
  else if off = 0xFFA4 then some 3 else none

/-! ## The fields -/

/-- The types of a register's bits (00_scope R12): software-writable (`rw`, `rwh`), hardware's (`rh`), write-only
(`w`), constant (`r`: a write is ignored); every other bit is reserved (`-`). -/
structure Layout where
  rw : Word
  rh : Word
  w : Word
  r : Word
deriving DecidableEq, Repr

/-- The reserved bits of a layout. -/
def Layout.reserved (l : Layout) : Word := ~~~(l.rw ||| l.rh ||| l.w ||| l.r)

/-- A layout with software-writable and reserved bits only. -/
def Layout.plain (rw : Word) : Layout := ⟨rw, 0, 0, 0⟩

/-- A layout whose other bits are constant. -/
def Layout.fixed (rw : Word) : Layout := ⟨rw, 0, 0, ~~~rw⟩

/-- A layout of bits that only hardware writes. -/
def Layout.status (rh : Word) : Layout := ⟨0, rh, 0, 0⟩

/-- Every bit is software-writable. -/
def Layout.all : Layout := .plain 0xFFFFFFFF#32

/-- The enable bits of the ranges that exist (10_state R91 to R93). -/
def lowBits (n : Nat) : Word := BitVec.ofNat 32 (2 ^ n - 1)

/-- ICR and VMn_ICR (10_state R67, 46 R765). -/
def Layout.icr : Layout := ⟨0x000080FF#32, 0x00FF0000#32, 0, 0⟩

/-- The event registers EXEVT, CREVT and SWEVT (45 R662 to R664). -/
def Layout.event : Layout := .fixed 0x000000C9#32

/-- The layout of a replicated register. DESIGN CHOICE (unsafe, notes/assumptions/57.md): PSTR, DSTR, DATR, DEADD,
PIETR, PIEAR, DIETR and DIEAR are written by hardware alone and a program's write is ignored: 10_state R70 to R77 print
type '-' and "Implementation specific" and say of no write what it does. BIV bit 0 is VSS and writable: DEDUCED
(unsafe, notes/assumptions/46.md): 10_state R68 gives it as rw and 60 R806 uses it; 42 R457 (d) lists BIV bit 0 as not
writable. PSD[15] is constant (R80). -/
def RepReg.layout (c : Config) : RepReg → Layout
  | .fcx => .plain 0x000FFFFF#32
  | .lcx => .plain 0x000FFFFF#32
  | .isp => .all
  | .biv => .all
  | .btv => .fixed 0xFFFFFFFE#32
  | .corecon => .plain 0x0003001F#32
  | .compat => .all
  | .smacon => .all
  | .pstr => .status 0xFFFFFFFF#32
  | .dstr => .status 0xFFFFFFFF#32
  | .datr => .status 0xFFFFFFFF#32
  | .deadd => .status 0xFFFFFFFF#32
  | .pietr => .status 0xFFFFFFFF#32
  | .piear => .status 0xFFFFFFFF#32
  | .dietr => .status 0xFFFFFFFF#32
  | .diear => .status 0xFFFFFFFF#32
  | .pma0 => .fixed (zext c.pma0Mask)
  | .pma1 => .fixed (zext c.pma1Mask)
  | .pma2 => .fixed (zext (c.pma2Mask &&& 0x7FFF#16))
  | .pcon0 => .all
  | .pcon1 => .all
  | .pcon2 => .all
  | .dcon0 => .all
  | .dcon1 => .all
  | .dcon2 => .all
  | .tpsCon => .status 0x00030007#32
  | .cctrl => .fixed 0x000007FF#32
  | .ccnt => .all
  | .icnt => .all
  | .fpuTrapCon => ⟨0x002C0000#32, 0x2C000301#32, 2#32, 0⟩
  | .fpuTrapPc => .status 0xFFFFFFFE#32
  | .fpuTrapOpc => .status 0x000F03FF#32
  | .fpuSrc1L => .status 0xFFFFFFFF#32
  | .fpuSrc1U => .status 0xFFFFFFFF#32
  | .fpuSrc2L => .status 0xFFFFFFFF#32
  | .fpuSrc2U => .status 0xFFFFFFFF#32
  | .fpuSrc3L => .status 0xFFFFFFFF#32
  | .fpuSrc3U => .status 0xFFFFFFFF#32
  | .fpuSyncCon => ⟨0x00500000#32, 0x50000301#32, 2#32, 0⟩
  | .fpuSyncOpc => .status 0x000F03FF#32
  | .tpsTimer _ => .all
  | .mcnt _ => .all
  | .dpre _ => .fixed (lowBits c.nDpr)
  | .dpwe _ => .fixed (lowBits c.nDpr)
  | .cpxe _ => .fixed (lowBits c.nCpr)
  | .dprL _ => .fixed 0xFFFFFFF8#32
  | .dprU _ => .fixed 0xFFFFFFF8#32
  | .cprL _ => .fixed 0xFFFFFFE0#32
  | .cprU _ => .fixed 0xFFFFFFE0#32

/-- The layout of a single-copy register; `virtOn` decides the per-machine bits of DBGCFG and TRCCFG (45 R632). -/
def SysReg.layout (virtOn : Bool) : SysReg → Layout
  | .vcon0 => .plain 3#32
  | .vcon1 => .status 7#32
  | .vcon2 => .plain 0x00000707#32
  | .bhv => .fixed 0xFFFFFFFE#32
  | .bootcon => .plain 1#32
  | .ccon => ⟨0, 0, 0, 0⟩
  | .dbgsr => ⟨0x00000096#32, 0x00071F09#32, 0, 0xFFF8E060#32⟩
  | .exevt => .event
  | .crevt => .event
  | .swevt => .event
  | .dbgact => .fixed 0x0000001F#32
  | .trigAcc => ⟨0, 0x000000FF#32, 0, 0xFFFFFF00#32⟩
  | .dms => .fixed 0xFFFFFFFE#32
  | .dcx => .fixed 0xFFFFFFC0#32
  | .dbgtcr => .fixed 1#32
  | .dbgcfg => .fixed (if virtOn then 0x00FF8003#32 else 0x00008003#32)
  | .trccfg => .fixed (if virtOn then 0x00FF8003#32 else 0x00008003#32)
  | .trcflt => .fixed 0xFFFF01B3#32
  | .trclim => .fixed 0x000007F3#32
  | .vmIcr _ => .icr
  | .vmPeThresh _ => .plain 0x000000FF#32
  | .trEvt n => .fixed (if n.val % 2 = 0 then 0x180030C9#32 else 0x180010C9#32)
  | .trAdr _ => .all

/-- The layout of a register. PSW[23:16] are left to `State.pswRead` (10_state R49). DEDUCED (unsafe,
notes/assumptions/56.md): PSW[26:24] are storage that software writes and reads in every configuration, as R47 gives
USB 31:24; R48's table gives them as reserved, beside their meaning with an FPU. -/
def State.layout (s : State) : Csfr → Layout
  | .rep x => x.layout s.cfg
  | .sys x => x.layout s.virtOn
  | .pcxi => .plain 0x3FFFFFFF#32
  | .psw =>
    ⟨if 4 < s.cfg.nPrs then 0xFF00FFFF#32 else 0xFF007FFF#32, 0, 0,
      if 4 < s.cfg.nPrs then 0x00FF0000#32 else 0x00FF8000#32⟩
  | .pc => .plain 0xFFFFFFFE#32
  | .pprs => .plain 7#32
  | .icr => .icr
  | .cpuId => .fixed 0
  | .coreId => ⟨0, 0, 0, 0x00000707#32⟩
  | .tccon => ⟨0, 0, 0, 0x0000000F#32⟩
  | .ga _ => .all

/-! ## Reading -/

/-- The trap control of the FPU whose TST makes a capture register's content valid (44_fpu R590 to R600). -/
def captureControl : RepReg → Option RepReg
  | .fpuTrapCon => some .fpuTrapCon
  | .fpuTrapPc => some .fpuTrapCon
  | .fpuTrapOpc => some .fpuTrapCon
  | .fpuSrc1L => some .fpuTrapCon
  | .fpuSrc1U => some .fpuTrapCon
  | .fpuSrc2L => some .fpuTrapCon
  | .fpuSrc2U => some .fpuTrapCon
  | .fpuSrc3L => some .fpuTrapCon
  | .fpuSrc3U => some .fpuTrapCon
  | .fpuSyncCon => some .fpuSyncCon
  | .fpuSyncOpc => some .fpuSyncCon
  | _ => none

/-- The fields of register `x` that hold what control `con` has captured: those that hardware writes, but TST. -/
def captureFields (c : Config) (x con : RepReg) : Word :=
  if x = con then setBit (x.layout c).rh 0 false else (x.layout c).rh

/-- The bits of register `x` that tell what control `con` has captured and that hold it no longer, while TST is 0: "only
valid when TST is asserted" (44 R590 to R600). The pc, the opcode and the operands hold any value before the first
capture too (93 U21). The fields of a control are 0 from reset on (R590, R599): DEDUCED (safe,
notes/assumptions/30.md): they hold any value once a capture has been cleared, which its flags tell, one of which is 1
in every capture. -/
def State.captureLost (s : State) (r : Resource) (x con : RepReg) : Word :=
  let fields := captureFields s.cfg x con
  if bit (s.getRep r con) 0 || (x == con && s.getRep r x &&& fields == 0) then 0 else fields

/-- The bits of a register that read as any value: the reserved ones (93 U1, notes/assumptions/14.md), and what the FPU
has captured no longer. -/
def State.openBits (s : State) (r : Resource) (c : Csfr) : Word :=
  let captured := match c with
    | .rep x => match captureControl x with
      | some con => s.captureLost r x con
      | none => 0
    | _ => 0
  (s.layout c).reserved ||| captured

/-- The value a register reads as (42 R450): any value in its open bits, CCON any value at all (93 U6). -/
def State.csfrRead (s : State) (r : Resource) (c : Csfr) : Word :=
  let v := match c with
    | .psw => s.pswRead
    | _ => s.raw r c
  merge (s.openBits r c) (s.freeW (9000 + c.tag)) v

/-- The effect of reading: TRIG_ACC is cleared by any read (45 R670). -/
def State.csfrReadEffect (s : State) (c : Csfr) : State :=
  if c = .sys .trigAcc then s.hw .hv c fun _ => 0 else s

/-! ## Writing -/

/-- The performance counters of a resource count (60 R921). -/
def State.counting (s : State) (r : Resource) : Bool :=
  let cc := s.eff r (.rep .cctrl) .count
  bit cc 1 && (!bit cc 0 || s.taskGate)

/-- A write under the tool-control protocol (45 R679): TCP lets the written TC take effect at once, and while TC is 1
only a write with TCP reaches the other fields. -/
def toolWrite (rw old v : Word) : Word :=
  let tc := if bit v 1 then setBit old 0 (bit v 0) else old
  if !bit tc 0 || bit v 1 then merge (rw &&& ~~~3#32) v tc else tc

/-- DBGSR after a write (45 R660, R643, R644): SUSOUT and PEVT take the written bits, HALT is coded; setting it counts
as an external event. -/
def dbgsrWrite (old v : Word) : Word :=
  let w := setBit (setBit old 4 (bit v 4)) 7 (bit v 7)
  if !bit v 2 then w
  else if !bit v 1 then setBit w 1 false
  else if bit old 0 then setField (setField (setBit w 1 true) 8 0#5) 16 0#3
  else w

/-- TPS_CON after a write of any value (60 R914). -/
def tpsConWrite (old : Word) : Word :=
  let w := setBit old 16 false
  if bit w 0 || bit w 1 || bit w 2 then setBit w 17 true else w

/-- The value a register holds after a write of `v` (42 R452, R457): the bits of type rw take the written ones, and
under the hypervisor's override those of type rh too (46 R707). -/
def State.csfrWritten (s : State) (r : Resource) (c : Csfr) (v : Word) (override : Bool) : Word :=
  let old := s.raw r c
  let l := s.layout c
  let usual := merge (if override then l.rw ||| l.rh else l.rw) v old
  match c with
  | .rep .tpsCon => if override then usual else tpsConWrite old
  | .rep .fpuTrapCon => if bit v 1 then setBit usual 0 false else usual
  | .rep .fpuSyncCon => if bit v 1 then setBit usual 0 false else usual
  | .rep .ccnt => if s.counting r && !override then old else usual
  | .rep .icnt => if s.counting r && !override then old else usual
  | .rep (.mcnt _) => if s.counting r && !override then old else usual
  | .sys .vcon0 => if s.vcon0Written then old else usual
  | .sys .bootcon => if bit v 0 then old else usual
  | .sys .dbgsr => dbgsrWrite old v
  | .sys .dbgcfg => toolWrite l.rw old v
  | .sys .trccfg => toolWrite l.rw old v
  | .sys .trcflt => toolWrite l.rw old v
  | .sys .trclim => toolWrite l.rw old v
  | .pc => old
  | _ => usual

/-- What a write does besides: a timer write clears its TEXP (60 R911); VCON0 is locked (46 R761); a write of BHALT
from 1 to 0 starts the core, and releasing a boot-halted core clears BHALT (70 R932); PSW[23:16] become undefined
(10_state R49). -/
def State.csfrWriteEffect (s : State) (r : Resource) (c : Csfr) (v : Word) : State :=
  match c with
  | .rep (.tpsTimer n) => s.hw r (.rep .tpsCon) fun w => setBit w n.val false
  | .sys .vcon0 => { s with vcon0Written := true }
  | .sys .bootcon =>
    if bit (s.getSys .bootcon) 0 && !bit v 0 then s.hw .hv (.sys .dbgsr) fun w => setBit w 1 false else s
  | .sys .dbgsr =>
    if bit v 2 && !bit v 1 then s.hw .hv (.sys .bootcon) fun w => setBit w 0 false else s
  | .psw => { s with pswUndef := true }
  | _ => s

/-- A write to a register, with its effects. -/
def State.csfrWrite (s : State) (r : Resource) (c : Csfr) (v : Word) (override : Bool) : State :=
  (s.csfrWriteEffect r c v).setRaw r c (s.csfrWritten r c v override)

/-- ENDINIT protected (10_state R56, 90 C9). -/
def endinitProtected : Csfr → Bool
  | .rep .btv => true
  | .rep .biv => true
  | .rep .isp => true
  | .rep .pma0 => true
  | .rep .pma1 => true
  | .rep .pma2 => true
  | .rep .pcon0 => true
  | .rep .dcon0 => true
  | .rep .compat => true
  | .rep .smacon => true
  | .sys .bhv => true
  | _ => false

/-- SAFETY_ENDINIT protected (10_state R57). -/
def safetyProtected : Csfr → Bool
  | .rep .smacon => true
  | .rep .corecon => true
  | .rep .compat => true
  | _ => false

/-- The register may not be written now (42 R456). -/
def State.closed (s : State) (c : Csfr) : Bool :=
  (endinitProtected c && !s.endinitOpen) || (safetyProtected c && !s.safetyOpen)

/-! ## A move by the running program -/

/-- A write by MTCR or MTDCR: it opens the register's update window (70 R950, notes/assumptions/7.md) and does nothing
to a register that is closed (42 R456). From HRHV with a selector it reaches the hardware's fields too (46 R707): those
of the replicated registers and of the HRA_ICR and HRB_ICR of 46 R712. -/
def State.moveWrite (s : State) (r : Resource) (c : Csfr) (v : Word) : State :=
  if s.closed c then s
  else
    let own := match c with
      | .rep _ => true
      | .icr => true
      | _ => false
    let override := s.virtOn && s.res == .hv && r != .hv && own
    let k := s.canon r c
    let t := s.csfrWrite r c v override
    { t with window := { res := k.home r, reg := k, old := s.raw r c } :: t.window }

/-- The offset of a move without its selector bits (46 R705). -/
def moveOffset (const16 : BitVec 16) : Nat := (const16 &&& 0xFFFC#16).toNat

/-- The resource a move addresses (46 R705): the selector counts in HRHV only. -/
def State.moveRes (s : State) (const16 : BitVec 16) : Resource :=
  if s.virtOn && s.res == .hv then
    match (const16.extractLsb' 0 2).toNat with
    | 1 => .a
    | 2 => .b
    | _ => .hv
  else s.res

/-- The register a move addresses: the map, and from HRHV with a selector the global address registers of another
resource (46 R706). -/
def State.moveReg (s : State) (const16 : BitVec 16) (off : Nat) : Option Csfr :=
  match globalAt off with
  | some n => if s.virtOn && s.res == .hv && s.moveRes const16 != .hv then some (.ga n) else none
  | none => csfrAt s.cfg off

/-- The registers of HV_CSFR_LIST and the hypervisor's own, closed to a guest (46 R726). -/
def State.hvOwned (s : State) (off : Nat) (write : Bool) : Bool :=
  hyperOffset off || (write && decide (0xF000 ≤ off) && decide (off ≤ 0xFDFF)) ||
    s.cfg.hvCsfrs.any fun e => e.offset.toNat == off && (if write then e.onWrite else e.onRead)

/-- OPD of a CSFR check (42 R455). -/
def opdCsfr : Verdict := .trap 2 3

/-- HVCSFR (46 R726). -/
def hvCsfr (const16 : BitVec 16) (write : Bool) : Verdict := .hv 4 (BitVec.ofBool write ++ 0#15 ++ const16)

/-- The alignment and the selector of a move (42 R455, 1. and 2.). -/
def State.offsetAligned (s : State) (const16 : BitVec 16) (pair : Bool) : Bool :=
  (if s.virtOn && s.res == .hv then const16.extractLsb' 0 2 != 0b11#2 else const16.extractLsb' 0 2 == 0#2) &&
    !(pair && const16.getLsbD 2)

/-- The registers of a move: one, or the two of a pair. -/
def State.moveRegs (s : State) (const16 : BitVec 16) (pair : Bool) : List (Option Csfr) :=
  let off := moveOffset const16
  if pair then [s.moveReg const16 off, s.moveReg const16 (off + 4)] else [s.moveReg const16 off]

/-- The offset checks of a move (42 R455): in a guest the HVCSFR outcomes come first. -/
def State.offsetCheck (s : State) (const16 : BitVec 16) (pair write : Bool) : Verdict :=
  let off := moveOffset const16
  let regs := s.moveRegs const16 pair
  let owned := s.hvOwned off write || (pair && s.hvOwned (off + 4) write)
  let half := pair && s.cfg.halfPairOpd && regs.any Option.isNone
  Verdict.first
    [.need (!(s.guest && (regs.all Option.isNone || owned))) (hvCsfr const16 write),
      .need (s.offsetAligned const16 pair) opdCsfr,
      .need (!regs.all Option.isNone && !half) opdCsfr,
      .need (!(s.cvmn != 0 && hyperOffset off)) opdCsfr]

/-- The value a move writes touches a reserved field (93 U2, notes/assumptions/15.md). TPS_CON takes any value
(60 R914); a write of CCON has no described effect (93 U6), nor has one of PC (10_state R46). -/
def State.reservedHit (s : State) (c : Csfr) (v : Word) : Bool :=
  match c with
  | .rep .tpsCon => false
  | .sys .ccon => false
  | .pc => false
  | _ => (s.layout c).reserved &&& v != 0

/-- The checks on what a move writes (42 R456, R457). -/
def State.writeCheck (s : State) (const16 : BitVec 16) (writes : List (Option Csfr × Word)) : Verdict :=
  Verdict.first
    [.need (!(s.cfg.protWriteOpd && writes.any fun w => w.1.any s.closed)) opdCsfr,
      .need (!(writes.any fun w => w.1.any fun c => !s.closed c && s.reservedHit c w.2))
        (.refuse (.reservedField const16))]

/-- The value a move reads from a register of a pair; the missing half of a pair is any value (93 U16). -/
def State.moveRead (s : State) (r : Resource) : Option Csfr → Word
  | some c => s.csfrRead r c
  | none => s.freeW 40

/-- The effect of a move's read. -/
def State.moveReadEffect (s : State) : Option Csfr → State
  | some c => s.csfrReadEffect c
  | none => s

/-- A move's write to a register of a pair; the missing half takes nothing. -/
def State.movePut (s : State) (r : Resource) (c : Option Csfr) (v : Word) : State :=
  match c with
  | some x => s.moveWrite r x v
  | none => s

/-! ## The host's view (20_memory R226, 46 R703, R708) -/

/-- Virtualization is disabled or not present: the images of HRHV and HRB answer with an error (46 R703). -/
def State.hostClosed (s : State) (r : Resource) : Bool :=
  r != .a && (!s.cfg.hasVirt || (s.cvmn != 0 && !s.virtEnabled))

/-- A general register the host reaches (10_state R41, R42). -/
inductive HostReg where
  | data (n : Reg)
  | addr (n : Reg)
  | csfr (c : Csfr)
deriving DecidableEq, Repr

/-- What the host reaches at an offset of a resource's image; `none` is a bus error (notes/assumptions/37.md). -/
def State.hostReg (s : State) (r : Resource) (offset : BitVec 16) : Option HostReg :=
  let off := offset.toNat
  if s.hostClosed r || off % 4 != 0 then none
  else if 0xFF00 ≤ off ∧ off < 0xFF40 then some (.data (BitVec.ofNat 4 ((off - 0xFF00) / 4)))
  else if 0xFF80 ≤ off ∧ off < 0xFFC0 then some (.addr (BitVec.ofNat 4 ((off - 0xFF80) / 4)))
  else if hyperOffset off && r != .hv then none
  else (csfrAt s.cfg off).map .csfr

/-- A read by another master. -/
def State.hostRead (s : State) (r : Resource) (offset : BitVec 16) : State :=
  match s.hostReg r offset with
  | none => s.emit (.csfrValue r offset none)
  | some (.data n) => s.emit (.csfrValue r offset (some (s.getD n)))
  | some (.addr n) =>
    let v := match aHome n with
      | .ga i => (s.hr r).ga.get i
      | .ctx i => s.ca.get i
    s.emit (.csfrValue r offset (some v))
  | some (.csfr c) => (s.csfrReadEffect c).emit (.csfrValue r offset (some (s.csfrRead r c)))

/-- A write by another master: the pc only while the core is halted (10_state R46); a closed register keeps its value
(10_state R56); a closed or absent image, or an offset without a register, is a bus error (46 R703). The value written
governs at once, whatever update of the register was open: the window is MTCR's (70 R950). DESIGN CHOICE (unsafe,
notes/assumptions/55.md): a non-zero value in a reserved field is dropped and the rest is written; 93 U2 and 00_scope
R12 speak of a program's write only. -/
def State.hostWrite (s : State) (r : Resource) (offset : BitVec 16) (v : Word) : State :=
  match s.hostReg r offset with
  | none => s.emit (.csfrError r offset)
  | some (.data n) => s.setD n v
  | some (.addr n) =>
    match aHome n with
    | .ga i => s.setHr r { s.hr r with ga := (s.hr r).ga.set i v }
    | .ctx i => { s with ca := s.ca.set i v }
  | some (.csfr .pc) => if s.halted then { s with pc := even v } else s
  | some (.csfr c) => if s.closed c then s else (s.csfrWrite r c v false).settle r c

end Sys2Proof.Machine
end

