-- ==== Sys2Proof/Machine/System.lean ====
section
/-! DEFINITION. The system instructions: the core-register moves, synchronisation, interrupt enable, software traps and
the cache instructions (42_system R450 to R468, R476), DEBUG and RFM (45_debug R624, R652). -/

namespace Sys2Proof.Machine

/-! ## Core-register moves -/

/-- The common course of a move (42 R450 to R458): OPD on the pair of data registers, the debug event before
(45 R626), privilege, the offset checks, the checks on the values written, the effect, the debug event after. -/
def State.execMove (s : State) (const16 : BitVec 16) (pair write : Bool) (opd : Verdict)
    (writes : State → List (Option Csfr × Word)) (effect : State → State) : Host.Outcome State Fault Refusal :=
  let armed := s.crEvent (const16 &&& 0xFFFC#16)
  match opd with
  | .go =>
    match s.before armed 1 .crevt with
    | (t, true) => .next { t with entered := true }
    | (t, false) =>
      t.conclude
        (Verdict.first
          [.need (!write || t.supervisor) (.trap 1 1), t.offsetCheck const16 pair write,
            t.writeCheck const16 (writes t)])
        (((effect t).advance 4).after armed 1 (s.dbg .crevt) s.pc)
  | v => s.conclude v s

/-- MFCR D[c], const16 (R450). -/
def execMfcr (c : Reg) (const16 : BitVec 16) (s : State) : Host.Outcome State Fault Refusal :=
  s.execMove const16 false false .go (fun _ => []) fun t =>
    let x := t.moveReg const16 (moveOffset const16)
    (t.moveReadEffect x).setD c (t.moveRead (t.moveRes const16) x)

/-- MTCR const16, D[a] (R452). -/
def execMtcr (const16 : BitVec 16) (a : Reg) (s : State) : Host.Outcome State Fault Refusal :=
  s.execMove const16 false true .go
    (fun t => [(t.moveReg const16 (moveOffset const16), t.getD a)])
    fun t => t.movePut (t.moveRes const16) (t.moveReg const16 (moveOffset const16)) (t.getD a)

/-- MFDCR E[c], const16: the lower offset goes to D[c] (R453). -/
def execMfdcr (c : Reg) (const16 : BitVec 16) (s : State) : Host.Outcome State Fault Refusal :=
  s.execMove const16 true false (s.pairCheck c) (fun _ => []) fun t =>
    let r := t.moveRes const16
    let x := t.moveReg const16 (moveOffset const16)
    let y := t.moveReg const16 (moveOffset const16 + 4)
    (((t.moveReadEffect x).moveReadEffect y).setD c (t.moveRead r x)).setD (c + 1) (t.moveRead r y)

/-- MTDCR const16, E[a] (R454). DESIGN CHOICE (unsafe, notes/assumptions/47.md): the write of the lower offset takes
effect before that of the upper one; R454 does not say that the two are one instant. -/
def execMtdcr (const16 : BitVec 16) (a : Reg) (s : State) : Host.Outcome State Fault Refusal :=
  s.execMove const16 true true (s.pairCheck a)
    (fun t => [(t.moveReg const16 (moveOffset const16), t.getD a),
      (t.moveReg const16 (moveOffset const16 + 4), t.getD (a + 1))])
    fun t =>
      let r := t.moveRes const16
      (t.movePut r (t.moveReg const16 (moveOffset const16)) (t.getD a)).movePut r
        (t.moveReg const16 (moveOffset const16 + 4)) (t.getD (a + 1))

/-! ## Synchronisation -/

/-- ISYNC: the end of the CSFR update window (R459, 70 R950). -/
def execIsync (s : State) : Host.Outcome State Fault Refusal := .next (s.sync.advance 4)

/-- DSYNC: every earlier store and context save is in memory already (R460, notes/assumptions/20.md). -/
def execDsync (s : State) : Host.Outcome State Fault Refusal := .next (s.advance 4)

/-! ## Interrupt enable -/

/-- ICR.IE of the running machine replaced (R461 to R463, 46 R712). -/
def State.setIe (s : State) (b : Bool) : State := s.hwCur .icr fun i => setBit i 15 b

/-- ENABLE (R461). -/
def execEnable (s : State) : Host.Outcome State Fault Refusal := s.conclude s.ieCheck ((s.setIe true).advance 4)

/-- DISABLE (R462). -/
def execDisable (s : State) : Host.Outcome State Fault Refusal := s.conclude s.ieCheck ((s.setIe false).advance 4)

/-- DISABLE D[a]: the old ICR.IE goes to D[a] (R462). -/
def execDisableD (a : Reg) (s : State) : Host.Outcome State Fault Refusal :=
  s.conclude s.ieCheck (((s.setIe false).setD a (if icrIe (s.raw s.res .icr) then 1 else 0)).advance 4)

/-- RESTORE D[a] (R463). -/
def execRestore (a : Reg) (s : State) : Host.Outcome State Fault Refusal :=
  s.conclude s.ieCheck ((s.setIe (bit (s.getD a) 0)).advance 4)

/-! ## Software traps and NOP -/

/-- SYSCALL const9: the low 8 bits are the TIN; the return address is the next instruction (R464). -/
def execSyscall (const9 : BitVec 9) (s : State) : Host.Outcome State Fault Refusal :=
  .next (s.takeTrap 6 (const9.setWidth 8) (s.pc + 4))

/-- TRAPV (R465). -/
def execTrapv (s : State) : Host.Outcome State Fault Refusal :=
  s.conclude (.need (!pswV s.psw) (.trap 5 1)) (s.advance 4)

/-- TRAPSV (R466). -/
def execTrapsv (s : State) : Host.Outcome State Fault Refusal :=
  s.conclude (.need (!pswSv s.psw) (.trap 5 2)) (s.advance 4)

/-- TRAPINV: always IOPC (R476). -/
def execTrapinv (s : State) : Host.Outcome State Fault Refusal := s.conclude (.trap 2 1) s

/-- NOP, 32-bit (R467). -/
def execNop (s : State) : Host.Outcome State Fault Refusal := .next (s.advance 4)

/-- NOP, 16-bit (R467). -/
def execNop16 (s : State) : Host.Outcome State Fault Refusal := .next (s.advance 2)

/-! ## Cache instructions (R468, 92 D16: no cache is modelled) -/

/-- A cache instruction: privilege, the protection checks on the effective address, the mode's update. DESIGN CHOICE
(unsafe, notes/assumptions/21.md): an effective address in another segment than the base's takes no MEM. R468 names MPR
and MPW only, while 40 R332, which it cites for the address, is followed by the segment test of R333 (20_memory
R222). -/
def State.execCache (s : State) (priv : Verdict) (m : MemOp) : Host.Outcome State Fault Refusal :=
  let r := s.resolve m
  s.conclude
    (Verdict.first [priv, s.updateCheck r, .need (s.l1Read r.ea) (.trap 1 2), .need (s.l1Write r.ea) (.trap 1 3)])
    ((s.applyUpdate r).advance 4)

/-- CACHEA.W [A[b]]off10. -/
def execCacheaWOff (b : Reg) (off10 : BitVec 10) (s : State) : Host.Outcome State Fault Refusal :=
  s.execCache .go (.off b off10)

/-- CACHEA.W [A[b]+]off10. -/
def execCacheaWPost (b : Reg) (off10 : BitVec 10) (s : State) : Host.Outcome State Fault Refusal :=
  s.execCache .go (.post b off10)

/-- CACHEA.W [+A[b]]off10. -/
def execCacheaWPre (b : Reg) (off10 : BitVec 10) (s : State) : Host.Outcome State Fault Refusal :=
  s.execCache .go (.pre b off10)

/-- CACHEA.WI [A[b]]off10. -/
def execCacheaWiOff (b : Reg) (off10 : BitVec 10) (s : State) : Host.Outcome State Fault Refusal :=
  s.execCache .go (.off b off10)

/-- CACHEA.WI [A[b]+]off10. -/
def execCacheaWiPost (b : Reg) (off10 : BitVec 10) (s : State) : Host.Outcome State Fault Refusal :=
  s.execCache .go (.post b off10)

/-- CACHEA.WI [+A[b]]off10. -/
def execCacheaWiPre (b : Reg) (off10 : BitVec 10) (s : State) : Host.Outcome State Fault Refusal :=
  s.execCache .go (.pre b off10)

/-- CACHEA.I [A[b]]off10. -/
def execCacheaIOff (b : Reg) (off10 : BitVec 10) (s : State) : Host.Outcome State Fault Refusal :=
  s.execCache .go (.off b off10)

/-- CACHEA.I [A[b]+]off10. -/
def execCacheaIPost (b : Reg) (off10 : BitVec 10) (s : State) : Host.Outcome State Fault Refusal :=
  s.execCache .go (.post b off10)

/-- CACHEA.I [+A[b]]off10. -/
def execCacheaIPre (b : Reg) (off10 : BitVec 10) (s : State) : Host.Outcome State Fault Refusal :=
  s.execCache .go (.pre b off10)

/-- CACHEI.W [A[b]]off10: Supervisor only (60 R903). -/
def execCacheiWOff (b : Reg) (off10 : BitVec 10) (s : State) : Host.Outcome State Fault Refusal :=
  s.execCache s.supervisorCheck (.off b off10)

/-- CACHEI.W [A[b]+]off10. -/
def execCacheiWPost (b : Reg) (off10 : BitVec 10) (s : State) : Host.Outcome State Fault Refusal :=
  s.execCache s.supervisorCheck (.post b off10)

/-- CACHEI.W [+A[b]]off10. -/
def execCacheiWPre (b : Reg) (off10 : BitVec 10) (s : State) : Host.Outcome State Fault Refusal :=
  s.execCache s.supervisorCheck (.pre b off10)

/-- CACHEI.I [A[b]]off10. -/
def execCacheiIOff (b : Reg) (off10 : BitVec 10) (s : State) : Host.Outcome State Fault Refusal :=
  s.execCache s.supervisorCheck (.off b off10)

/-- CACHEI.I [A[b]+]off10. -/
def execCacheiIPost (b : Reg) (off10 : BitVec 10) (s : State) : Host.Outcome State Fault Refusal :=
  s.execCache s.supervisorCheck (.post b off10)

/-- CACHEI.I [+A[b]]off10. -/
def execCacheiIPre (b : Reg) (off10 : BitVec 10) (s : State) : Host.Outcome State Fault Refusal :=
  s.execCache s.supervisorCheck (.pre b off10)

/-- CACHEI.WI [A[b]]off10. -/
def execCacheiWiOff (b : Reg) (off10 : BitVec 10) (s : State) : Host.Outcome State Fault Refusal :=
  s.execCache s.supervisorCheck (.off b off10)

/-- CACHEI.WI [A[b]+]off10. -/
def execCacheiWiPost (b : Reg) (off10 : BitVec 10) (s : State) : Host.Outcome State Fault Refusal :=
  s.execCache s.supervisorCheck (.post b off10)

/-- CACHEI.WI [+A[b]]off10. -/
def execCacheiWiPre (b : Reg) (off10 : BitVec 10) (s : State) : Host.Outcome State Fault Refusal :=
  s.execCache s.supervisorCheck (.pre b off10)

/-! ## Debug -/

/-- DEBUG (45 R624): the software debug event, or a NOP. -/
def State.execDebugBody (s : State) (len : Nat) : Host.Outcome State Fault Refusal :=
  let armed := s.debugOn && bit (s.dbg .swevt) 0
  match s.before armed 2 .swevt with
  | (t, true) => .next { t with entered := true }
  | (t, false) => .next ((t.advance len).after armed 2 (s.dbg .swevt) s.pc)

/-- DEBUG, 32-bit (R469). -/
def execDebug (s : State) : Host.Outcome State Fault Refusal := s.execDebugBody 4

/-- DEBUG, 16-bit (R469). -/
def execDebug16 (s : State) : Host.Outcome State Fault Refusal := s.execDebugBody 2

/-- A word of the debug context; any value where no memory is (45 R652, 92 D25), each of the four where any byte of
them is no ordinary memory (DESIGN CHOICE, unsafe, notes/assumptions/53.md). -/
def State.debugWord (s : State) (k : Nat) : Word :=
  let dcx := s.dbg .dcx &&& 0xFFFFFFC0#32
  if s.kindOf (span dcx.toNat 16) == some .ram then s.wordAt (dcx + BitVec.ofNat 32 (4 * k)) else s.freeW (50 + k)

/-- The return sequence of the debug monitor (45 R652). -/
def State.leaveMonitor (s : State) : State :=
  let target := even (s.getA 11)
  let s1 := (s.restoreIcr).hw .hv .pcxi fun _ => s.debugWord 0
  let s2 := (s1.modPsw fun _ => s.debugWord 1).hw .hv (.sys .dbgtcr) fun w => setBit w 0 false
  { ((s2.setA 10 (s.debugWord 2)).setA 11 (s.debugWord 3)).sync with pc := target }

/-- RFM (45 R652): a NOP outside debug mode. -/
def execRfm (s : State) : Host.Outcome State Fault Refusal :=
  s.conclude s.supervisorCheck (if s.debugMode then s.leaveMonitor else s.advance 4)

end Sys2Proof.Machine
end

