-- ==== Sys2Proof/Machine/Virt.lean ====
section
/-! DEFINITION. HVCALL and RFH (46_virtualization R716, R722). -/

namespace Sys2Proof.Machine

/-- HVCALL const8 (46 R722, 92 D33; the spec gives no encoding, notes/assumptions/23.md). -/
def execHvcall (const8 : BitVec 8) (s : State) : Host.Outcome State Fault Refusal :=
  if !s.cfg.hasVirt then s.conclude (.trap 2 1) s
  else if !s.virtOn then .next (s.advance 4)
  else .next (s.takeHvTrap 0 (zext const8) (s.pc + 4))

/-- RFH (46 R716, 92 D33): RFE, then the switch to VCON2.VMN, or to VM1 where VCON0.EN is 0 (R754). Before the first
write of VCON0 its results are undefined (93 U18, notes/assumptions/19.md). -/
def execRfh (s : State) : Host.Outcome State Fault Refusal :=
  let target := if s.virtOn then field (s.eff .hv (.sys .vcon2) .virt) 0 3 else 1#3
  s.conclude
    (Verdict.first
      [.need s.cfg.hasVirt (.trap 2 1), .need (s.cvmn == 0) (.trap 1 1), .need s.vcon0Written (.fault .rfhBeforeVcon0),
        s.returnCheck s.nestCheck true .upper])
    (s.leave.setCvmn target)

end Sys2Proof.Machine
end

