-- ==== Sys2Proof/Machine/Dispatch.lean ====
section
/-! DEFINITION. One arm per constructor of Instr, each a direct call of the instruction's own meaning. -/

namespace Sys2Proof.Machine

def exec (i : Instr) (s : State) : Host.Outcome State Fault Refusal :=
  match i with
  | .restore a => Sys2Proof.Machine.execRestore a s
  | .disableD a => Sys2Proof.Machine.execDisableD a s
  | .bisr const9 => Sys2Proof.Machine.execBisr const9 s
  | .bisr16 const8 => Sys2Proof.Machine.execBisr16 const8 s
  | .syscall const9 => Sys2Proof.Machine.execSyscall const9 s
  | .mfcr c const16 => Sys2Proof.Machine.execMfcr c const16 s
  | .mtcr const16 a => Sys2Proof.Machine.execMtcr const16 a s
  | .call disp24 => Sys2Proof.Machine.execCall disp24 s
  | .call16 disp8 => Sys2Proof.Machine.execCall16 disp8 s
  | .calla disp24 => Sys2Proof.Machine.execCalla disp24 s
  | .calli a => Sys2Proof.Machine.execCalli a s
  | .fcall disp24 => Sys2Proof.Machine.execFcall disp24 s
  | .fcalla disp24 => Sys2Proof.Machine.execFcalla disp24 s
  | .fcalli a => Sys2Proof.Machine.execFcalli a s
  | .jl disp24 => Sys2Proof.Machine.execJl disp24 s
  | .jzT a n disp15 => Sys2Proof.Machine.execJzT a n disp15 s
  | .jzT16 n disp4 => Sys2Proof.Machine.execJzT16 n disp4 s
  | .stlcxAbs off18 => Sys2Proof.Machine.execStlcxAbs off18 s
  | .stucxAbs off18 => Sys2Proof.Machine.execStucxAbs off18 s
  | .ldlcxAbs off18 => Sys2Proof.Machine.execLdlcxAbs off18 s
  | .lducxAbs off18 => Sys2Proof.Machine.execLducxAbs off18 s
  | .ldlcxOff b off10 => Sys2Proof.Machine.execLdlcxOff b off10 s
  | .lducxOff b off10 => Sys2Proof.Machine.execLducxOff b off10 s
  | .stlcxOff b off10 => Sys2Proof.Machine.execStlcxOff b off10 s
  | .stucxOff b off10 => Sys2Proof.Machine.execStucxOff b off10 s
  | .leaOff a b off10 => Sys2Proof.Machine.execLeaOff a b off10 s
  | .leaAbs a off18 => Sys2Proof.Machine.execLeaAbs a off18 s
  | .leaLong a b off16 => Sys2Proof.Machine.execLeaLong a b off16 s
  | .swapWOff b off10 a => Sys2Proof.Machine.execSwapWOff b off10 a s
  | .swapWPost b off10 a => Sys2Proof.Machine.execSwapWPost b off10 a s
  | .swapWPre b off10 a => Sys2Proof.Machine.execSwapWPre b off10 a s
  | .swapWRev b a => Sys2Proof.Machine.execSwapWRev b a s
  | .swapWCirc b off10 a => Sys2Proof.Machine.execSwapWCirc b off10 a s
  | .ldmstOff b off10 a => Sys2Proof.Machine.execLdmstOff b off10 a s
  | .ldmstPost b off10 a => Sys2Proof.Machine.execLdmstPost b off10 a s
  | .ldmstPre b off10 a => Sys2Proof.Machine.execLdmstPre b off10 a s
  | .ldmstRev b a => Sys2Proof.Machine.execLdmstRev b a s
  | .ldmstCirc b off10 a => Sys2Proof.Machine.execLdmstCirc b off10 a s
  | .swapmskWOff b off10 a => Sys2Proof.Machine.execSwapmskWOff b off10 a s
  | .swapmskWPost b off10 a => Sys2Proof.Machine.execSwapmskWPost b off10 a s
  | .swapmskWPre b off10 a => Sys2Proof.Machine.execSwapmskWPre b off10 a s
  | .swapmskWRev b a => Sys2Proof.Machine.execSwapmskWRev b a s
  | .swapmskWCirc b off10 a => Sys2Proof.Machine.execSwapmskWCirc b off10 a s
  | .cmpswapWOff b off10 a => Sys2Proof.Machine.execCmpswapWOff b off10 a s
  | .cmpswapWPost b off10 a => Sys2Proof.Machine.execCmpswapWPost b off10 a s
  | .cmpswapWPre b off10 a => Sys2Proof.Machine.execCmpswapWPre b off10 a s
  | .cmpswapWRev b a => Sys2Proof.Machine.execCmpswapWRev b a s
  | .cmpswapWCirc b off10 a => Sys2Proof.Machine.execCmpswapWCirc b off10 a s
  | .swapWAbs off18 a => Sys2Proof.Machine.execSwapWAbs off18 a s
  | .ldmstAbs off18 a => Sys2Proof.Machine.execLdmstAbs off18 a s
  | .stT off18 bpos3 b => Sys2Proof.Machine.execStT off18 bpos3 b s
  | .ldBAbs a off18 => Sys2Proof.Machine.execLdBAbs a off18 s
  | .ldBOff a b off10 => Sys2Proof.Machine.execLdBOff a b off10 s
  | .ldBPost a b off10 => Sys2Proof.Machine.execLdBPost a b off10 s
  | .ldBPre a b off10 => Sys2Proof.Machine.execLdBPre a b off10 s
  | .ldBRev a b => Sys2Proof.Machine.execLdBRev a b s
  | .ldBCirc a b off10 => Sys2Proof.Machine.execLdBCirc a b off10 s
  | .ldBuAbs a off18 => Sys2Proof.Machine.execLdBuAbs a off18 s
  | .ldBuOff a b off10 => Sys2Proof.Machine.execLdBuOff a b off10 s
  | .ldBuPost a b off10 => Sys2Proof.Machine.execLdBuPost a b off10 s
  | .ldBuPre a b off10 => Sys2Proof.Machine.execLdBuPre a b off10 s
  | .ldBuRev a b => Sys2Proof.Machine.execLdBuRev a b s
  | .ldBuCirc a b off10 => Sys2Proof.Machine.execLdBuCirc a b off10 s
  | .ldHAbs a off18 => Sys2Proof.Machine.execLdHAbs a off18 s
  | .ldHOff a b off10 => Sys2Proof.Machine.execLdHOff a b off10 s
  | .ldHPost a b off10 => Sys2Proof.Machine.execLdHPost a b off10 s
  | .ldHPre a b off10 => Sys2Proof.Machine.execLdHPre a b off10 s
  | .ldHRev a b => Sys2Proof.Machine.execLdHRev a b s
  | .ldHCirc a b off10 => Sys2Proof.Machine.execLdHCirc a b off10 s
  | .ldHuAbs a off18 => Sys2Proof.Machine.execLdHuAbs a off18 s
  | .ldHuOff a b off10 => Sys2Proof.Machine.execLdHuOff a b off10 s
  | .ldHuPost a b off10 => Sys2Proof.Machine.execLdHuPost a b off10 s
  | .ldHuPre a b off10 => Sys2Proof.Machine.execLdHuPre a b off10 s
  | .ldHuRev a b => Sys2Proof.Machine.execLdHuRev a b s
  | .ldHuCirc a b off10 => Sys2Proof.Machine.execLdHuCirc a b off10 s
  | .ldWAbs a off18 => Sys2Proof.Machine.execLdWAbs a off18 s
  | .ldWOff a b off10 => Sys2Proof.Machine.execLdWOff a b off10 s
  | .ldWPost a b off10 => Sys2Proof.Machine.execLdWPost a b off10 s
  | .ldWPre a b off10 => Sys2Proof.Machine.execLdWPre a b off10 s
  | .ldWRev a b => Sys2Proof.Machine.execLdWRev a b s
  | .ldWCirc a b off10 => Sys2Proof.Machine.execLdWCirc a b off10 s
  | .ldDAbs a off18 => Sys2Proof.Machine.execLdDAbs a off18 s
  | .ldDOff a b off10 => Sys2Proof.Machine.execLdDOff a b off10 s
  | .ldDPost a b off10 => Sys2Proof.Machine.execLdDPost a b off10 s
  | .ldDPre a b off10 => Sys2Proof.Machine.execLdDPre a b off10 s
  | .ldDRev a b => Sys2Proof.Machine.execLdDRev a b s
  | .ldDCirc a b off10 => Sys2Proof.Machine.execLdDCirc a b off10 s
  | .ldAAbs a off18 => Sys2Proof.Machine.execLdAAbs a off18 s
  | .ldAOff a b off10 => Sys2Proof.Machine.execLdAOff a b off10 s
  | .ldAPost a b off10 => Sys2Proof.Machine.execLdAPost a b off10 s
  | .ldAPre a b off10 => Sys2Proof.Machine.execLdAPre a b off10 s
  | .ldARev a b => Sys2Proof.Machine.execLdARev a b s
  | .ldACirc a b off10 => Sys2Proof.Machine.execLdACirc a b off10 s
  | .ldDaAbs a off18 => Sys2Proof.Machine.execLdDaAbs a off18 s
  | .ldDaOff a b off10 => Sys2Proof.Machine.execLdDaOff a b off10 s
  | .ldDaPost a b off10 => Sys2Proof.Machine.execLdDaPost a b off10 s
  | .ldDaPre a b off10 => Sys2Proof.Machine.execLdDaPre a b off10 s
  | .ldDaRev a b => Sys2Proof.Machine.execLdDaRev a b s
  | .ldDaCirc a b off10 => Sys2Proof.Machine.execLdDaCirc a b off10 s
  | .ldWLong a b off16 => Sys2Proof.Machine.execLdWLong a b off16 s
  | .ldALong a b off16 => Sys2Proof.Machine.execLdALong a b off16 s
  | .ldBLong a b off16 => Sys2Proof.Machine.execLdBLong a b off16 s
  | .ldBuLong a b off16 => Sys2Proof.Machine.execLdBuLong a b off16 s
  | .ldHLong a b off16 => Sys2Proof.Machine.execLdHLong a b off16 s
  | .ldHuLong a b off16 => Sys2Proof.Machine.execLdHuLong a b off16 s
  | .stBAbs off18 a => Sys2Proof.Machine.execStBAbs off18 a s
  | .stBOff b off10 a => Sys2Proof.Machine.execStBOff b off10 a s
  | .stBPost b off10 a => Sys2Proof.Machine.execStBPost b off10 a s
  | .stBPre b off10 a => Sys2Proof.Machine.execStBPre b off10 a s
  | .stBRev b a => Sys2Proof.Machine.execStBRev b a s
  | .stBCirc b off10 a => Sys2Proof.Machine.execStBCirc b off10 a s
  | .stHAbs off18 a => Sys2Proof.Machine.execStHAbs off18 a s
  | .stHOff b off10 a => Sys2Proof.Machine.execStHOff b off10 a s
  | .stHPost b off10 a => Sys2Proof.Machine.execStHPost b off10 a s
  | .stHPre b off10 a => Sys2Proof.Machine.execStHPre b off10 a s
  | .stHRev b a => Sys2Proof.Machine.execStHRev b a s
  | .stHCirc b off10 a => Sys2Proof.Machine.execStHCirc b off10 a s
  | .stWAbs off18 a => Sys2Proof.Machine.execStWAbs off18 a s
  | .stWOff b off10 a => Sys2Proof.Machine.execStWOff b off10 a s
  | .stWPost b off10 a => Sys2Proof.Machine.execStWPost b off10 a s
  | .stWPre b off10 a => Sys2Proof.Machine.execStWPre b off10 a s
  | .stWRev b a => Sys2Proof.Machine.execStWRev b a s
  | .stWCirc b off10 a => Sys2Proof.Machine.execStWCirc b off10 a s
  | .stDAbs off18 a => Sys2Proof.Machine.execStDAbs off18 a s
  | .stDOff b off10 a => Sys2Proof.Machine.execStDOff b off10 a s
  | .stDPost b off10 a => Sys2Proof.Machine.execStDPost b off10 a s
  | .stDPre b off10 a => Sys2Proof.Machine.execStDPre b off10 a s
  | .stDRev b a => Sys2Proof.Machine.execStDRev b a s
  | .stDCirc b off10 a => Sys2Proof.Machine.execStDCirc b off10 a s
  | .stAAbs off18 a => Sys2Proof.Machine.execStAAbs off18 a s
  | .stAOff b off10 a => Sys2Proof.Machine.execStAOff b off10 a s
  | .stAPost b off10 a => Sys2Proof.Machine.execStAPost b off10 a s
  | .stAPre b off10 a => Sys2Proof.Machine.execStAPre b off10 a s
  | .stARev b a => Sys2Proof.Machine.execStARev b a s
  | .stACirc b off10 a => Sys2Proof.Machine.execStACirc b off10 a s
  | .stDaAbs off18 a => Sys2Proof.Machine.execStDaAbs off18 a s
  | .stDaOff b off10 a => Sys2Proof.Machine.execStDaOff b off10 a s
  | .stDaPost b off10 a => Sys2Proof.Machine.execStDaPost b off10 a s
  | .stDaPre b off10 a => Sys2Proof.Machine.execStDaPre b off10 a s
  | .stDaRev b a => Sys2Proof.Machine.execStDaRev b a s
  | .stDaCirc b off10 a => Sys2Proof.Machine.execStDaCirc b off10 a s
  | .stWLong b off16 a => Sys2Proof.Machine.execStWLong b off16 a s
  | .stALong b off16 a => Sys2Proof.Machine.execStALong b off16 a s
  | .stBLong b off16 a => Sys2Proof.Machine.execStBLong b off16 a s
  | .stHLong b off16 a => Sys2Proof.Machine.execStHLong b off16 a s
  | .cacheaWOff b off10 => Sys2Proof.Machine.execCacheaWOff b off10 s
  | .cacheaWPost b off10 => Sys2Proof.Machine.execCacheaWPost b off10 s
  | .cacheaWPre b off10 => Sys2Proof.Machine.execCacheaWPre b off10 s
  | .cacheaWiOff b off10 => Sys2Proof.Machine.execCacheaWiOff b off10 s
  | .cacheaWiPost b off10 => Sys2Proof.Machine.execCacheaWiPost b off10 s
  | .cacheaWiPre b off10 => Sys2Proof.Machine.execCacheaWiPre b off10 s
  | .cacheaIOff b off10 => Sys2Proof.Machine.execCacheaIOff b off10 s
  | .cacheaIPost b off10 => Sys2Proof.Machine.execCacheaIPost b off10 s
  | .cacheaIPre b off10 => Sys2Proof.Machine.execCacheaIPre b off10 s
  | .cacheiWOff b off10 => Sys2Proof.Machine.execCacheiWOff b off10 s
  | .cacheiWPost b off10 => Sys2Proof.Machine.execCacheiWPost b off10 s
  | .cacheiWPre b off10 => Sys2Proof.Machine.execCacheiWPre b off10 s
  | .cacheiIOff b off10 => Sys2Proof.Machine.execCacheiIOff b off10 s
  | .cacheiIPost b off10 => Sys2Proof.Machine.execCacheiIPost b off10 s
  | .cacheiIPre b off10 => Sys2Proof.Machine.execCacheiIPre b off10 s
  | .cacheiWiOff b off10 => Sys2Proof.Machine.execCacheiWiOff b off10 s
  | .cacheiWiPost b off10 => Sys2Proof.Machine.execCacheiWiPost b off10 s
  | .cacheiWiPre b off10 => Sys2Proof.Machine.execCacheiWiPre b off10 s
  | .add c a b => Sys2Proof.Machine.execAdd c a b s
  | .addC c a const9 => Sys2Proof.Machine.execAddC c a const9 s
  | .addx c a b => Sys2Proof.Machine.execAddx c a b s
  | .addxC c a const9 => Sys2Proof.Machine.execAddxC c a const9 s
  | .addc c a b => Sys2Proof.Machine.execAddc c a b s
  | .addcC c a const9 => Sys2Proof.Machine.execAddcC c a const9 s
  | .addscA c b a n => Sys2Proof.Machine.execAddscA c b a n s
  | .addscAt c b a => Sys2Proof.Machine.execAddscAt c b a s
  | .extrU c a pos width => Sys2Proof.Machine.execExtrU c a pos width s
  | .extrUReg c a d => Sys2Proof.Machine.execExtrUReg c a d s
  | .extrUWidth c a d width => Sys2Proof.Machine.execExtrUWidth c a d width s
  | .addF c d a => Sys2Proof.Machine.execAddF c d a s
  | .subF c d a => Sys2Proof.Machine.execSubF c d a s
  | .maddF c d a b => Sys2Proof.Machine.execMaddF c d a b s
  | .msubF c d a b => Sys2Proof.Machine.execMsubF c d a b s
  | .cmpF c a b => Sys2Proof.Machine.execCmpF c a b s
  | .mulF c a b => Sys2Proof.Machine.execMulF c a b s
  | .divF c a b => Sys2Proof.Machine.execDivF c a b s
  | .updfl a => Sys2Proof.Machine.execUpdfl a s
  | .ftoi c a => Sys2Proof.Machine.execFtoi c a s
  | .ftoq31 c a b => Sys2Proof.Machine.execFtoq31 c a b s
  | .ftou c a => Sys2Proof.Machine.execFtou c a s
  | .ftoiz c a => Sys2Proof.Machine.execFtoiz c a s
  | .itof c a => Sys2Proof.Machine.execItof c a s
  | .q31tof c a b => Sys2Proof.Machine.execQ31tof c a b s
  | .utof c a => Sys2Proof.Machine.execUtof c a s
  | .ftouz c a => Sys2Proof.Machine.execFtouz c a s
  | .ftoq31z c a b => Sys2Proof.Machine.execFtoq31z c a b s
  | .qseedF c a => Sys2Proof.Machine.execQseedF c a s
  | .hptof c a => Sys2Proof.Machine.execHptof c a s
  | .ftohp c a => Sys2Proof.Machine.execFtohp c a s
  | .movConst c const16 => Sys2Proof.Machine.execMovConst c const16 s
  | .movh c const16 => Sys2Proof.Machine.execMovh c const16 s
  | .movhA c const16 => Sys2Proof.Machine.execMovhA c const16 s
  | .addi c a const16 => Sys2Proof.Machine.execAddi c a const16 s
  | .mov c b => Sys2Proof.Machine.execMov c b s
  | .movA c b => Sys2Proof.Machine.execMovA c b s
  | .movD c b => Sys2Proof.Machine.execMovD c b s
  | .movAa c b => Sys2Proof.Machine.execMovAa c b s
  | .sub c a b => Sys2Proof.Machine.execSub c a b s
  | .and c a b => Sys2Proof.Machine.execAnd c a b s
  | .andC c a const9 => Sys2Proof.Machine.execAndC c a const9 s
  | .or c a b => Sys2Proof.Machine.execOr c a b s
  | .orC c a const9 => Sys2Proof.Machine.execOrC c a const9 s
  | .xor c a b => Sys2Proof.Machine.execXor c a b s
  | .xorC c a const9 => Sys2Proof.Machine.execXorC c a const9 s
  | .eq c a b => Sys2Proof.Machine.execEq c a b s
  | .eqC c a const9 => Sys2Proof.Machine.execEqC c a const9 s
  | .lt c a b => Sys2Proof.Machine.execLt c a b s
  | .ltC c a const9 => Sys2Proof.Machine.execLtC c a const9 s
  | .j disp24 => Sys2Proof.Machine.execJ disp24 s
  | .ja disp24 => Sys2Proof.Machine.execJa disp24 s
  | .jla disp24 => Sys2Proof.Machine.execJla disp24 s
  | .ji a => Sys2Proof.Machine.execJi a s
  | .jli a => Sys2Proof.Machine.execJli a s
  | .jeq a b disp15 => Sys2Proof.Machine.execJeq a b disp15 s
  | .jeqC a const4 disp15 => Sys2Proof.Machine.execJeqC a const4 disp15 s
  | .jne a b disp15 => Sys2Proof.Machine.execJne a b disp15 s
  | .jneC a const4 disp15 => Sys2Proof.Machine.execJneC a const4 disp15 s
  | .jnzT a n disp15 => Sys2Proof.Machine.execJnzT a n disp15 s
  | .loop b disp15 => Sys2Proof.Machine.execLoop b disp15 s
  | .mov16C a const4 => Sys2Proof.Machine.execMov16C a const4 s
  | .mov16R a b => Sys2Proof.Machine.execMov16R a b s
  | .add16C a const4 => Sys2Proof.Machine.execAdd16C a const4 s
  | .add16R a b => Sys2Proof.Machine.execAdd16R a b s
  | .ldW16 c b => Sys2Proof.Machine.execLdW16 c b s
  | .stW16 b a => Sys2Proof.Machine.execStW16 b a s
  | .nop => Sys2Proof.Machine.execNop s
  | .fret => Sys2Proof.Machine.execFret s
  | .debug => Sys2Proof.Machine.execDebug s
  | .rfm => Sys2Proof.Machine.execRfm s
  | .ret => Sys2Proof.Machine.execRet s
  | .rfe => Sys2Proof.Machine.execRfe s
  | .svlcx => Sys2Proof.Machine.execSvlcx s
  | .rslcx => Sys2Proof.Machine.execRslcx s
  | .enable => Sys2Proof.Machine.execEnable s
  | .disable => Sys2Proof.Machine.execDisable s
  | .dsync => Sys2Proof.Machine.execDsync s
  | .isync => Sys2Proof.Machine.execIsync s
  | .trapv => Sys2Proof.Machine.execTrapv s
  | .trapsv => Sys2Proof.Machine.execTrapsv s
  | .nop16 => Sys2Proof.Machine.execNop16 s
  | .fret16 => Sys2Proof.Machine.execFret16 s
  | .rfe16 => Sys2Proof.Machine.execRfe16 s
  | .ret16 => Sys2Proof.Machine.execRet16 s
  | .debug16 => Sys2Proof.Machine.execDebug16 s
  | .mfdcr c const16 => Sys2Proof.Machine.execMfdcr c const16 s
  | .mtdcr const16 a => Sys2Proof.Machine.execMtdcr const16 a s
  | .hvcall const8 => Sys2Proof.Machine.execHvcall const8 s
  | .rfh => Sys2Proof.Machine.execRfh s
  | .jri a => Sys2Proof.Machine.execJri a s
  | .trapinv => Sys2Proof.Machine.execTrapinv s
  | .ldDd a mem => Sys2Proof.Machine.execLdDd a mem s
  | .stDd mem a => Sys2Proof.Machine.execStDd mem a s
  | .absF c a => Sys2Proof.Machine.execAbsF c a s
  | .negF c a => Sys2Proof.Machine.execNegF c a s
  | .minF c a b => Sys2Proof.Machine.execMinF c a b s
  | .maxF c a b => Sys2Proof.Machine.execMaxF c a b s
  | .ftoin c a => Sys2Proof.Machine.execFtoin c a s
  | .addDf c d a => Sys2Proof.Machine.execAddDf c d a s
  | .subDf c d a => Sys2Proof.Machine.execSubDf c d a s
  | .mulDf c a b => Sys2Proof.Machine.execMulDf c a b s
  | .divDf c a b => Sys2Proof.Machine.execDivDf c a b s
  | .maddDf c d a b => Sys2Proof.Machine.execMaddDf c d a b s
  | .msubDf c d a b => Sys2Proof.Machine.execMsubDf c d a b s
  | .cmpDf c a b => Sys2Proof.Machine.execCmpDf c a b s
  | .qseedDf c a => Sys2Proof.Machine.execQseedDf c a s
  | .dftoi c a => Sys2Proof.Machine.execDftoi c a s
  | .dftoin c a => Sys2Proof.Machine.execDftoin c a s
  | .dftoiz c a => Sys2Proof.Machine.execDftoiz c a s
  | .dftou c a => Sys2Proof.Machine.execDftou c a s
  | .dftouz c a => Sys2Proof.Machine.execDftouz c a s
  | .dftol c a => Sys2Proof.Machine.execDftol c a s
  | .dftolz c a => Sys2Proof.Machine.execDftolz c a s
  | .dftoul c a => Sys2Proof.Machine.execDftoul c a s
  | .dftoulz c a => Sys2Proof.Machine.execDftoulz c a s
  | .ltodf c a => Sys2Proof.Machine.execLtodf c a s

end Sys2Proof.Machine
end

