-- ==== Sys2Proof/Machine/Boundary.lean ====
section
/-! DEFINITION. What happens between two instructions and around one: the requests pending at a boundary
(60_exceptions R801, R850, R854, 46_virtualization R713, R715, 45_debug R625), the fetch and its checks (20_memory
R261), the triggers and the counters of an instruction that has completed (45 R628 to R633, 60 R910 to R923), and the
host's events. `Step.lean` calls these. -/

namespace Sys2Proof.Machine

/-! ## Requests at a boundary -/

/-- The free context list is almost empty: FCD, before anything else at the new pc (60 R832). DEDUCED (unsafe,
notes/assumptions/52.md): the request counts as taken and CORECON.FCDSF is set also where level 2 denies a guest the CSA
of this entry and the hypervisor trap replaces it: FCD is then lost; 41 R407 and 46 R743 do not say. -/
def State.takeFcd (s : State) : State :=
  ({ s with fcdPending := false }.hwCur (.rep .corecon) fun w => setBit w 0 true).takeTrap 3 1 s.pc

/-- NMI: to the hypervisor where VCON0.NMI says so (60 R851, 46 R738). -/
def State.takeNmi (s : State) : State :=
  let t := { s with pendNmi := false }
  if bit (s.eff .hv (.sys .vcon0) .irq) 1 then t.takeTrapInHv 7 0 s.pc else t.takeTrap 7 0 s.pc

/-- TAE: TTRAP is set, which clears TPEND (60 R913). -/
def State.takeTae (s : State) : State :=
  (s.hwCur (.rep .tpsCon) fun w => setBit (setBit w 16 true) 17 false).takeTrap 4 7 s.pc

/-- The asynchronous trap taken at this boundary: NMI, DAE, CAE, TAE, DIE in this order (60 R850, R853, 46 R737), its
request cleared. DEDUCED (unsafe, notes/assumptions/52.md): the request counts as taken, and for TAE sets TTRAP, also
where a level-2 trap on the guest's CSA replaces the entry; 46 R743 and decision D38 settle only the return address. -/
def State.asyncTrap (s : State) : Option State :=
  if s.pendNmi then some s.takeNmi
  else if s.pendDae then some ({ s with pendDae := false }.takeTrapInHv 4 3 s.pc)
  else if s.pendCae then some ({ s with pendCae := false }.takeTrap 4 4 s.pc)
  else if bit (s.getRep s.res .tpsCon) 17 then some s.takeTae
  else s.pendDie.map { s with pendDie := none }.takeDie

/-- take(n) (60 R801, 46 R713). A machine other than the running one is considered only while a guest runs. -/
def State.takeable (s : State) (n : BitVec 3) : Bool :=
  let icr := s.eff .hv (.sys (icrOf n)) .irq
  let threshold := field (s.eff .hv (.sys (.vmPeThresh n.toFin)) .irq) 0 8
  icrIe icr && decide ((icrCcpn icr).toNat < (icrPipn icr).toNat) &&
    (n == s.vm || (s.guest && decide (threshold.toNat < (icrPipn icr).toNat)))

/-- The machines whose interrupt may be taken now. -/
def State.candidates (s : State) : List (BitVec 3) := ((List.range 8).map (BitVec.ofNat 3)).filter s.takeable

/-- The interrupt of machine `n` is taken (46 R715): by itself, by the hypervisor, or as HVINT. -/
def State.takeIrqOf (s : State) (n : BitVec 3) : State :=
  let pipn := icrPipn (s.eff .hv (.sys (icrOf n)) .irq)
  if n = s.vm then s.takeInterrupt pipn
  else if n = 0 then s.takeHvInterrupt pipn
  else s.takeHvInt n

/-- One of several machines, by a free value (92 D32, notes/assumptions/32.md). -/
def State.oneOf (s : State) : List (BitVec 3) → Option (BitVec 3)
  | [] => none
  | [n] => some n
  | n :: rest => some ((n :: rest).getD ((s.freeW 60).toNat % (rest.length + 1)) n)

/-- The interrupt taken at this boundary (46 R713): HVINT, for a guest that does not run, goes before an interrupt of
the running machine or of the hypervisor (46 R730); within these two ranks any machine's (92 D32). -/
def State.interrupt (s : State) : Option State :=
  let hvInts := s.candidates.filter fun n => n != s.vm && n != 0
  ((s.oneOf hvInts).or (s.oneOf s.candidates)).map s.takeIrqOf

/-- The external debug event (45 R625). -/
def State.externalEvent (s : State) : Option State :=
  if s.breakIn then some ({ s with breakIn := false }.debugEvent 0 (s.dbg .exevt) s.pc).1 else none

/-- What is taken at a boundary in place of an instruction (60 R854). DESIGN CHOICE (unsafe, notes/assumptions/48.md): a
break-in that is recognised at the boundary goes before the traps and interrupts pending there; no table ranks it, and
45 R625 leaves its boundary open. -/
def State.request (s : State) : Option State :=
  match s.externalEvent with
  | some t => some t
  | none =>
    match s.asyncTrap with
    | some t => some t
    | none => s.interrupt

/-! ## Counters and timers -/

/-- A performance counter moved on by `n`: 31 bits that wrap, bit 31 set when they do and then sticky (60 R922). -/
def countUp (w : Word) (n : Nat) : Word :=
  let sum := (field w 0 31).toNat + n
  setBit (BitVec.ofNat 32 (sum % 2 ^ 31)) 31 (bit w 31 || decide (2 ^ 31 ≤ sum))

/-- A counter of the current resource moved on while it counts (60 R921, R923). -/
def State.count (s : State) (x : RepReg) (n : Nat) : State :=
  if s.counting s.res then s.hwCur (.rep x) fun w => countUp w n else s

/-- One clock cycle of timer `x` (60 R912, R913, 92 D35, D37). -/
def State.tickTimer (s : State) (x : Fin 3) : State :=
  let v := s.getRep s.res (.tpsTimer x)
  if !bit (s.ctl (.rep .corecon) .count) 2 || v == 0 then s
  else
    let t := s.hwCur (.rep (.tpsTimer x)) fun w => w - 1
    if v == 1 then
      t.hwCur (.rep .tpsCon) fun w =>
        let w' := setBit w x.val true
        if bit w 16 then w' else setBit w' 17 true
    else t

/-- One clock cycle (60 R912, R923). -/
def State.tick (s : State) : State :=
  (((s.tickTimer 0).tickTimer 1).tickTimer 2).count .ccnt 1

/-- The events of M1CNT to M3CNT in one instruction (60 R923, notes/assumptions/33.md). -/
def State.countEvents (s : State) : State :=
  let sel := fun k => field (s.ctl (.rep .cctrl) .count) (2 + 3 * k) 3
  ((s.count (.mcnt 0) (Config.perfEvents 1 (sel 0) s.draws)).count (.mcnt 1)
    (Config.perfEvents 2 (sel 1) s.draws)).count (.mcnt 2) (Config.perfEvents 3 (sel 2) s.draws)

/-- The clock of an attempted instruction: one cycle (notes/assumptions/10.md) and the counted events. -/
def State.clock (s : State) : State := s.countEvents.tick

/-! ## The fetch (20_memory R261) -/

/-- The address of byte `k` of the instruction at the pc. -/
def State.fetchAddr (s : State) (k : Nat) : Word := s.pc + BitVec.ofNat 32 k

/-- The first `n` bytes at the pc. -/
def State.codeBytes (s : State) (n : Nat) : List Byte :=
  (List.range n).map fun k => s.byteAt (s.fetchAddr k).toNat

/-- Memory is behind the first `n` bytes at the pc. -/
def State.codeRam (s : State) (n : Nat) : Bool :=
  s.kindOf ((List.range n).map fun k => (s.fetchAddr k).toNat) == some .ram

/-- The length of the instruction at the pc: bit 0 of its first byte (30_encoding R300); 2 where nothing can be read. -/
def State.fetchLen (s : State) : Nat :=
  if s.codeRam 2 && (s.byteAt s.pc.toNat).getLsbD 0 then 4 else 2

/-- The addresses of the instruction's bytes, each of which is checked (20 R248). -/
def State.fetchAddrs (s : State) : List Word := (List.range s.fetchLen).map s.fetchAddr

/-- The fetch finds code: no byte in a peripheral segment (20 R232), and memory behind every byte (R225; a device holds
no code, notes/assumptions/36.md). -/
def State.codeThere (s : State) : Bool :=
  (s.fetchAddrs.all fun a => !s.peripheral (segment a) .fetch) && s.codeRam s.fetchLen

/-- The checks of a fetch in the order of 60 R852 and 46 R736: MPX, L2MPX, PSE, PIE. -/
def State.fetchCheck (s : State) : Verdict :=
  Verdict.first
    [.need (s.fetchAddrs.all s.l1Fetch) (.trap 1 4),
      .need (s.fetchAddrs.all s.l2Fetch) (.hv 3 0),
      .need s.codeThere (.trap 4 1),
      .need s.fetchError.isNone (.trap 4 5)]

/-- The fetched word: the bytes of the instruction at the pc, least significant first, zero-extended (30_encoding
R312). -/
def State.fetchWord (s : State) : Word := BitVec.ofNat 32 (s.readAt (s.fetchAddrs.map BitVec.toNat))

/-- A row of the configuration's decoder keeps to the length rule (30_encoding R312): the length it gives is its
instruction's, and 4 bytes where bit 0 of the word is 1, else 2. A row that does not is no row of a decoder
(notes/assumptions/23.md). -/
def rowFits (row : CodeRow) : Bool :=
  match row.instr with
  | some (i, len) => len == i.ilen && len == if bit row.word 0 then 4 else 2
  | none => true

/-- The configuration's decoder row for the fetched word: the first that keeps to the length rule. -/
def State.codeRow (s : State) : Option CodeRow := s.cfg.codes.find? fun row => row.word == s.fetchWord && rowFits row

/-- The instruction at the pc, or nothing: IOPC (60 R827, 92 D39): what the configuration's decoder rows say of the
word, else what opcode_table.json does (30_encoding R312, R316; notes/assumptions/23.md). -/
def State.fetched (s : State) : Option Instr :=
  match s.codeRow with
  | some row => row.instr.map Prod.fst
  | none =>
    match decode (s.codeBytes 4) with
    | .ok (i, _) => some i
    | .error _ => none

/-! ## Around an instruction -/

/-- The data access of an instruction as the address triggers see it: it loads, it stores, the effective address. The
accesses to a context activate no trigger (45 R628, 92 D25). -/
def State.touched (s : State) (i : Instr) : Option (Bool × Bool × Word) :=
  let atMem := fun (loads stores : Bool) (m : MemOp) => some (loads, stores, (s.resolve m).ea)
  match i with
  | .restore _ => none
  | .disableD _ => none
  | .bisr _ => none
  | .bisr16 _ => none
  | .syscall _ => none
  | .mfcr _ _ => none
  | .mtcr _ _ => none
  | .call _ => none
  | .call16 _ => none
  | .calla _ => none
  | .calli _ => none
  | .fcall _ => some (false, true, s.getA 10 - 4)
  | .fcalla _ => some (false, true, s.getA 10 - 4)
  | .fcalli _ => some (false, true, s.getA 10 - 4)
  | .jl _ => none
  | .jzT _ _ _ => none
  | .jzT16 _ _ => none
  | .stlcxAbs _ => none
  | .stucxAbs _ => none
  | .ldlcxAbs _ => none
  | .lducxAbs _ => none
  | .ldlcxOff _ _ => none
  | .lducxOff _ _ => none
  | .stlcxOff _ _ => none
  | .stucxOff _ _ => none
  | .leaOff _ _ _ => none
  | .leaAbs _ _ => none
  | .leaLong _ _ _ => none
  | .swapWOff b off10 _ => atMem true true (.off b off10)
  | .swapWPost b off10 _ => atMem true true (.post b off10)
  | .swapWPre b off10 _ => atMem true true (.pre b off10)
  | .swapWRev b _ => atMem true true (.rev b)
  | .swapWCirc b off10 _ => atMem true true (.circ b off10)
  | .ldmstOff b off10 _ => atMem true true (.off b off10)
  | .ldmstPost b off10 _ => atMem true true (.post b off10)
  | .ldmstPre b off10 _ => atMem true true (.pre b off10)
  | .ldmstRev b _ => atMem true true (.rev b)
  | .ldmstCirc b off10 _ => atMem true true (.circ b off10)
  | .swapmskWOff b off10 _ => atMem true true (.off b off10)
  | .swapmskWPost b off10 _ => atMem true true (.post b off10)
  | .swapmskWPre b off10 _ => atMem true true (.pre b off10)
  | .swapmskWRev b _ => atMem true true (.rev b)
  | .swapmskWCirc b off10 _ => atMem true true (.circ b off10)
  | .cmpswapWOff b off10 _ => atMem true true (.off b off10)
  | .cmpswapWPost b off10 _ => atMem true true (.post b off10)
  | .cmpswapWPre b off10 _ => atMem true true (.pre b off10)
  | .cmpswapWRev b _ => atMem true true (.rev b)
  | .cmpswapWCirc b off10 _ => atMem true true (.circ b off10)
  | .swapWAbs off18 _ => atMem true true (.abs off18)
  | .ldmstAbs off18 _ => atMem true true (.abs off18)
  | .stT off18 _ _ => atMem true true (.abs off18)
  | .ldBAbs _ off18 => atMem true false (.abs off18)
  | .ldBOff _ b off10 => atMem true false (.off b off10)
  | .ldBPost _ b off10 => atMem true false (.post b off10)
  | .ldBPre _ b off10 => atMem true false (.pre b off10)
  | .ldBRev _ b => atMem true false (.rev b)
  | .ldBCirc _ b off10 => atMem true false (.circ b off10)
  | .ldBuAbs _ off18 => atMem true false (.abs off18)
  | .ldBuOff _ b off10 => atMem true false (.off b off10)
  | .ldBuPost _ b off10 => atMem true false (.post b off10)
  | .ldBuPre _ b off10 => atMem true false (.pre b off10)
  | .ldBuRev _ b => atMem true false (.rev b)
  | .ldBuCirc _ b off10 => atMem true false (.circ b off10)
  | .ldHAbs _ off18 => atMem true false (.abs off18)
  | .ldHOff _ b off10 => atMem true false (.off b off10)
  | .ldHPost _ b off10 => atMem true false (.post b off10)
  | .ldHPre _ b off10 => atMem true false (.pre b off10)
  | .ldHRev _ b => atMem true false (.rev b)
  | .ldHCirc _ b off10 => atMem true false (.circ b off10)
  | .ldHuAbs _ off18 => atMem true false (.abs off18)
  | .ldHuOff _ b off10 => atMem true false (.off b off10)
  | .ldHuPost _ b off10 => atMem true false (.post b off10)
  | .ldHuPre _ b off10 => atMem true false (.pre b off10)
  | .ldHuRev _ b => atMem true false (.rev b)
  | .ldHuCirc _ b off10 => atMem true false (.circ b off10)
  | .ldWAbs _ off18 => atMem true false (.abs off18)
  | .ldWOff _ b off10 => atMem true false (.off b off10)
  | .ldWPost _ b off10 => atMem true false (.post b off10)
  | .ldWPre _ b off10 => atMem true false (.pre b off10)
  | .ldWRev _ b => atMem true false (.rev b)
  | .ldWCirc _ b off10 => atMem true false (.circ b off10)
  | .ldDAbs _ off18 => atMem true false (.abs off18)
  | .ldDOff _ b off10 => atMem true false (.off b off10)
  | .ldDPost _ b off10 => atMem true false (.post b off10)
  | .ldDPre _ b off10 => atMem true false (.pre b off10)
  | .ldDRev _ b => atMem true false (.rev b)
  | .ldDCirc _ b off10 => atMem true false (.circ b off10)
  | .ldAAbs _ off18 => atMem true false (.abs off18)
  | .ldAOff _ b off10 => atMem true false (.off b off10)
  | .ldAPost _ b off10 => atMem true false (.post b off10)
  | .ldAPre _ b off10 => atMem true false (.pre b off10)
  | .ldARev _ b => atMem true false (.rev b)
  | .ldACirc _ b off10 => atMem true false (.circ b off10)
  | .ldDaAbs _ off18 => atMem true false (.abs off18)
  | .ldDaOff _ b off10 => atMem true false (.off b off10)
  | .ldDaPost _ b off10 => atMem true false (.post b off10)
  | .ldDaPre _ b off10 => atMem true false (.pre b off10)
  | .ldDaRev _ b => atMem true false (.rev b)
  | .ldDaCirc _ b off10 => atMem true false (.circ b off10)
  | .ldWLong _ b off16 => atMem true false (.long b off16)
  | .ldALong _ b off16 => atMem true false (.long b off16)
  | .ldBLong _ b off16 => atMem true false (.long b off16)
  | .ldBuLong _ b off16 => atMem true false (.long b off16)
  | .ldHLong _ b off16 => atMem true false (.long b off16)
  | .ldHuLong _ b off16 => atMem true false (.long b off16)
  | .stBAbs off18 _ => atMem false true (.abs off18)
  | .stBOff b off10 _ => atMem false true (.off b off10)
  | .stBPost b off10 _ => atMem false true (.post b off10)
  | .stBPre b off10 _ => atMem false true (.pre b off10)
  | .stBRev b _ => atMem false true (.rev b)
  | .stBCirc b off10 _ => atMem false true (.circ b off10)
  | .stHAbs off18 _ => atMem false true (.abs off18)
  | .stHOff b off10 _ => atMem false true (.off b off10)
  | .stHPost b off10 _ => atMem false true (.post b off10)
  | .stHPre b off10 _ => atMem false true (.pre b off10)
  | .stHRev b _ => atMem false true (.rev b)
  | .stHCirc b off10 _ => atMem false true (.circ b off10)
  | .stWAbs off18 _ => atMem false true (.abs off18)
  | .stWOff b off10 _ => atMem false true (.off b off10)
  | .stWPost b off10 _ => atMem false true (.post b off10)
  | .stWPre b off10 _ => atMem false true (.pre b off10)
  | .stWRev b _ => atMem false true (.rev b)
  | .stWCirc b off10 _ => atMem false true (.circ b off10)
  | .stDAbs off18 _ => atMem false true (.abs off18)
  | .stDOff b off10 _ => atMem false true (.off b off10)
  | .stDPost b off10 _ => atMem false true (.post b off10)
  | .stDPre b off10 _ => atMem false true (.pre b off10)
  | .stDRev b _ => atMem false true (.rev b)
  | .stDCirc b off10 _ => atMem false true (.circ b off10)
  | .stAAbs off18 _ => atMem false true (.abs off18)
  | .stAOff b off10 _ => atMem false true (.off b off10)
  | .stAPost b off10 _ => atMem false true (.post b off10)
  | .stAPre b off10 _ => atMem false true (.pre b off10)
  | .stARev b _ => atMem false true (.rev b)
  | .stACirc b off10 _ => atMem false true (.circ b off10)
  | .stDaAbs off18 _ => atMem false true (.abs off18)
  | .stDaOff b off10 _ => atMem false true (.off b off10)
  | .stDaPost b off10 _ => atMem false true (.post b off10)
  | .stDaPre b off10 _ => atMem false true (.pre b off10)
  | .stDaRev b _ => atMem false true (.rev b)
  | .stDaCirc b off10 _ => atMem false true (.circ b off10)
  | .stWLong b off16 _ => atMem false true (.long b off16)
  | .stALong b off16 _ => atMem false true (.long b off16)
  | .stBLong b off16 _ => atMem false true (.long b off16)
  | .stHLong b off16 _ => atMem false true (.long b off16)
  | .cacheaWOff _ _ => none
  | .cacheaWPost _ _ => none
  | .cacheaWPre _ _ => none
  | .cacheaWiOff _ _ => none
  | .cacheaWiPost _ _ => none
  | .cacheaWiPre _ _ => none
  | .cacheaIOff _ _ => none
  | .cacheaIPost _ _ => none
  | .cacheaIPre _ _ => none
  | .cacheiWOff _ _ => none
  | .cacheiWPost _ _ => none
  | .cacheiWPre _ _ => none
  | .cacheiIOff _ _ => none
  | .cacheiIPost _ _ => none
  | .cacheiIPre _ _ => none
  | .cacheiWiOff _ _ => none
  | .cacheiWiPost _ _ => none
  | .cacheiWiPre _ _ => none
  | .add _ _ _ => none
  | .addC _ _ _ => none
  | .addx _ _ _ => none
  | .addxC _ _ _ => none
  | .addc _ _ _ => none
  | .addcC _ _ _ => none
  | .addscA _ _ _ _ => none
  | .addscAt _ _ _ => none
  | .extrU _ _ _ _ => none
  | .extrUReg _ _ _ => none
  | .extrUWidth _ _ _ _ => none
  | .addF _ _ _ => none
  | .subF _ _ _ => none
  | .maddF _ _ _ _ => none
  | .msubF _ _ _ _ => none
  | .cmpF _ _ _ => none
  | .mulF _ _ _ => none
  | .divF _ _ _ => none
  | .updfl _ => none
  | .ftoi _ _ => none
  | .ftoq31 _ _ _ => none
  | .ftou _ _ => none
  | .ftoiz _ _ => none
  | .itof _ _ => none
  | .q31tof _ _ _ => none
  | .utof _ _ => none
  | .ftouz _ _ => none
  | .ftoq31z _ _ _ => none
  | .qseedF _ _ => none
  | .hptof _ _ => none
  | .ftohp _ _ => none
  | .movConst _ _ => none
  | .movh _ _ => none
  | .movhA _ _ => none
  | .addi _ _ _ => none
  | .mov _ _ => none
  | .movA _ _ => none
  | .movD _ _ => none
  | .movAa _ _ => none
  | .sub _ _ _ => none
  | .and _ _ _ => none
  | .andC _ _ _ => none
  | .or _ _ _ => none
  | .orC _ _ _ => none
  | .xor _ _ _ => none
  | .xorC _ _ _ => none
  | .eq _ _ _ => none
  | .eqC _ _ _ => none
  | .lt _ _ _ => none
  | .ltC _ _ _ => none
  | .j _ => none
  | .ja _ => none
  | .jla _ => none
  | .ji _ => none
  | .jli _ => none
  | .jeq _ _ _ => none
  | .jeqC _ _ _ => none
  | .jne _ _ _ => none
  | .jneC _ _ _ => none
  | .jnzT _ _ _ => none
  | .loop _ _ => none
  | .mov16C _ _ => none
  | .mov16R _ _ => none
  | .add16C _ _ => none
  | .add16R _ _ => none
  | .ldW16 _ b => atMem true false (.off b 0)
  | .stW16 b _ => atMem false true (.off b 0)
  | .nop => none
  | .fret => some (true, false, s.getA 10)
  | .debug => none
  | .rfm => none
  | .ret => none
  | .rfe => none
  | .svlcx => none
  | .rslcx => none
  | .enable => none
  | .disable => none
  | .dsync => none
  | .isync => none
  | .trapv => none
  | .trapsv => none
  | .nop16 => none
  | .fret16 => some (true, false, s.getA 10)
  | .rfe16 => none
  | .ret16 => none
  | .debug16 => none
  | .mfdcr _ _ => none
  | .mtdcr _ _ => none
  | .hvcall _ => none
  | .rfh => none
  | .jri _ => none
  | .trapinv => none
  | .ldDd _ mem => atMem true false mem
  | .stDd mem _ => atMem false true mem
  | .absF _ _ => none
  | .negF _ _ => none
  | .minF _ _ _ => none
  | .maxF _ _ _ => none
  | .ftoin _ _ => none
  | .addDf _ _ _ => none
  | .subDf _ _ _ => none
  | .mulDf _ _ _ => none
  | .divDf _ _ _ => none
  | .maddDf _ _ _ _ => none
  | .msubDf _ _ _ _ => none
  | .cmpDf _ _ _ => none
  | .qseedDf _ _ => none
  | .dftoi _ _ => none
  | .dftoin _ _ => none
  | .dftoiz _ _ => none
  | .dftou _ _ => none
  | .dftouz _ _ => none
  | .dftol _ _ => none
  | .dftolz _ _ => none
  | .dftoul _ _ => none
  | .dftoulz _ _ => none
  | .ltodf _ _ => none

/-- Address trigger `n` is active for what an instruction accessed. -/
def State.touchActive (s : State) (i : Instr) (n : Fin 8) : Bool :=
  match s.touched i with
  | some (loads, stores, ea) => s.dataActive loads stores ea n
  | none => false

/-- The trigger whose break-after-make event an instruction raises: those on the pc first, then those on its address
(45 R633); none where an event of the instruction has acted, a break-before-make one too (DEDUCED, unsafe,
notes/assumptions/35.md). -/
def State.eventAfter (s : State) (i : Instr) (acted : Bool) : Option (Fin 8) :=
  if acted then none
  else
    match s.pcBam s.pc with
    | some n => some n
    | none => (List.finRange 8).find? fun n => s.touchActive i n && s.trigEnabled n

/-- After instruction `i`, started in state `s`, has ended in `t`. An instruction that ended in an entry has not
completed; any other is counted, records its address triggers, and raises its break-after-make event, unless it has
raised FCD (60 R852, R923, 41 R407, 45 R628 to R633). DESIGN CHOICE (unsafe, notes/assumptions/33.md): a DEBUG or a
core-register move whose own break-after-make event takes the breakpoint trap has ended in an entry and is not counted
by ICNT, though one that a trigger's event stops is: R923 leaves open what counts (91 N-60-2). -/
def State.finish (s : State) (i : Instr) (t : State) : State :=
  if t.entered then t.clock
  else
    let t1 := (t.count .icnt 1).record (s.touchActive i)
    let t2 := match s.eventAfter i (t.evt || t.fcdPending) with
      | some n => (t1.debugEvent (16 + BitVec.ofNat 5 n.val) (s.dbg (.trEvt n)) t1.pc).1
      | none => t1
    t2.clock

/-- The execution of a decoded instruction with what stands around it. -/
def State.around (s : State) (i : Instr) : Host.Outcome State Fault Refusal :=
  match exec i s with
  | .next t => .next (s.finish i t)
  | .fault f => .fault f
  | .refused r => .refused r

/-- The trap that a check of a fetch comes to. PIE is the one whose error the host has announced: it counts as met, and
PIEAR takes its address. DEDUCED (unsafe, notes/assumptions/52.md): so also where level 2 denies a guest the CSA of this
entry and the hypervisor trap replaces it: the retried fetch meets no error (46 R743 does not say). -/
def State.takeFetchTrap (s : State) (cls : BitVec 3) (tin : Byte) : State :=
  match s.fetchError with
  | some a => if cls = 4 ∧ tin = 5 then { s with fetchError := none }.takePie a else s.takeTrap cls tin s.pc
  | none => s.takeTrap cls tin s.pc

/-- The fetch of the instruction at the pc and its execution (20 R261, 60 R852). -/
def State.fetchAndRun (s : State) : Host.Outcome State Fault Refusal :=
  match s.fetchCheck with
  | .go =>
    match s.fetched with
    | some i => s.around i
    | none => .next (s.takeTrap 2 1 s.pc).clock
  | .hv cls tin => .next (s.takeHvTrap cls tin s.pc).clock
  | .trap cls tin => .next (s.takeFetchTrap cls tin).clock
  | .fcu lost => .next (s.fcuEntry lost).clock
  | .refuse r => .refused r
  | .fault f => .fault f

/-- The state in which the instruction at the pc starts: the model's two marks are clear and the pc triggers are
recorded (45 R630). -/
def State.begin (s : State) : State :=
  let t := { s with entered := false, evt := false }
  t.record (t.pcActive t.pc)

/-- The next instruction: a break-before-make event on its address comes first (45 R631, R633). -/
def State.runInstr (s : State) : Host.Outcome State Fault Refusal :=
  let t := s.begin
  match t.pcBbm t.pc with
  | none => t.fetchAndRun
  | some n =>
    match t.trigEvent n t.pc with
    | (u, true) => .next u
    | (u, false) => u.fetchAndRun

/-- The core's next step; with `hold` every request waits (notes/assumptions/9.md). A halted core does nothing (45
R642). -/
def State.coreStep (s : State) (hold : Bool) : Host.Outcome State Fault Refusal :=
  if s.halted then .next s
  else if s.fcdPending then .next s.takeFcd
  else
    match if hold then none else s.request with
    | some t => .next t
    | none => s.runInstr

/-! ## The host (93 Part 2) -/

/-- Reset (70_reset R930, R931): the core is in its reset state; memory, what the host has been told, the schedule and
the count of draws are not the core's and stay (notes/assumptions/8.md). -/
def State.doReset (s : State) : State :=
  { State.resetWith s.cfg with mem := s.mem, out := s.out, schedule := s.schedule, draws := s.draws }

/-- The external event is armed (45 R625). -/
def State.breakInArmed (s : State) : Bool := s.debugMode && bit (s.dbg .dbgcfg) 15 && bit (s.dbg .exevt) 0

/-- The addresses of an access by another master. -/
def hostAddrs (addr : Word) (size : Nat) : List Nat := (List.range size).map fun k => (addr + BitVec.ofNat 32 k).toNat

/-- A read of memory by another master (45 R620, R621): the bytes, a bus error where nothing is; a device answers by
itself, and the core has no part in it. -/
def State.hostReadMem (s : State) (addr : Word) (size : Nat) : State :=
  let addrs := hostAddrs addr size
  match s.kindOf addrs with
  | some .ram => s.emit (.memValue addr size (some (s.readAt addrs)))
  | some .device => s
  | none => s.emit (.memValue addr size none)

/-- A write of memory by another master, all its bytes in one step (20_memory R272). -/
def State.hostWriteMem (s : State) (addr : Word) (size value : Nat) : State :=
  let addrs := hostAddrs addr size
  match s.kindOf addrs with
  | some .ram => s.writeAt addrs value
  | some .device => s
  | none => s.emit (.memError addr size)

/-- An event of the world outside the core. -/
def State.hostStep (s : State) : HostEvent → State
  | .setPipn vm pipn => s.hw .hv (.sys (.vmIcr vm)) fun w => setField w 16 pipn
  | .nmi => { s with pendNmi := true }
  | .dae => { s with pendDae := true }
  | .die addr => { s with pendDie := some addr }
  | .fetchError addr => { s with fetchError := some addr }
  | .breakIn => { s with breakIn := s.breakIn || s.breakInArmed }
  | .suspendIn level => s.hw .hv (.sys .dbgsr) fun w => setBit w 3 level
  | .debugEnable level => s.hw .hv (.sys .dbgsr) fun w => setBit w 0 level
  | .endinit isOpen => { s with endinitOpen := isOpen }
  | .safetyEndinit isOpen => { s with safetyOpen := isOpen }
  | .readMem addr size => s.hostReadMem addr size
  | .writeMem addr size value => s.hostWriteMem addr size value
  | .readCsfr res offset => s.hostRead res offset
  | .writeCsfr res offset value => s.hostWrite res offset value
  | .tick => if s.halted then s else s.tick
  | .reset => s.doReset

/-- One entry of the schedule, or the core alone where there is none (notes/assumptions/8.md). -/
def State.scheduled (s : State) : Host.Outcome State Fault Refusal :=
  match s.schedule with
  | [] => s.coreStep false
  | .core :: rest => { s with schedule := rest }.coreStep false
  | .hold :: rest => { s with schedule := rest }.coreStep true
  | .host e :: rest => .next ({ s with schedule := rest }.hostStep e)

/-- The next step takes other free values than this one (notes/assumptions/6.md). -/
def State.nextDraw (s : State) (n : Nat) : State := { s with draws := n + 1 }

/-- An instruction with the bits `w`, stored at the pc. -/
def State.place (s : State) (nbits w : Nat) : State :=
  s.writeAt ((List.range 4).map fun k => (s.fetchAddr k).toNat) (w % 2 ^ nbits % 2 ^ 32)

end Sys2Proof.Machine
end

