-- ==== Sys2Proof/Machine/Step.lean ====
section
/-! DEFINITION. One step of the machine, and where it fetches its next instruction. -/

namespace Sys2Proof.Machine

/-- One step: the next entry of the schedule, or the core alone where there is none (notes/assumptions/8.md). -/
def step (s : State) : Host.Outcome State Fault Refusal :=
  match s.scheduled with
  | .next t => .next (t.nextDraw s.draws)
  | .fault f => .fault f
  | .refused r => .refused r

/-- The state with the instruction `w` where the next step fetches (notes/assumptions/8.md). -/
def State.withFetchWord (s : State) (nbits w : Nat) : State := s.place nbits w

end Sys2Proof.Machine
end

