-- ==== Sys2Proof/Safety.lean ====
section
/-! DEFINITION. The terms in which claims are made: what an instruction leaves alone (`Kept`), what every step keeps
(`State.Inv`), when a step runs an instruction and nothing else (`State.ready`), and the plain conditions under which
an access to memory meets no trap (`State.plainAccess`). -/

namespace Sys2Proof.Machine

/-! ## Frames -/

/-- `t` keeps every byte of memory of `s`. -/
def KeepsMemory (s t : State) : Prop := ∀ a, t.byteAt a = s.byteAt a

/-- `t` keeps every byte of memory of `s` outside the listed addresses: at every address whose cell (20_memory R224: an
address in an image has the cell of what it is a view of) is none of theirs. -/
def KeepsMemoryBut (s t : State) (addrs : List Nat) : Prop :=
  ∀ a, s.cell a ∉ addrs.map s.cell → t.byteAt a = s.byteAt a

/-- What `t` keeps of the registers of `s`: all data registers but `ds`, all address registers but `as`, all core
special function registers of every resource but `cs` (the global address registers of the running resource are among
the address registers), and the state that no register holds. -/
structure Kept (s t : State) (ds as : List Reg) (cs : List Csfr) : Prop where
  /-- The data registers. -/
  data : ∀ r, r ∉ ds → t.getD r = s.getD r
  /-- The address registers. -/
  addr : ∀ r, r ∉ as → t.getA r = s.getA r
  /-- The special registers of every resource. -/
  csfr : ∀ r c, c ∉ cs → (∀ n, c = .ga n → r ≠ s.res) → t.raw r c = s.raw r c
  /-- Their open updates (70_reset R950). -/
  openUpdates : ∀ r c, c ∉ cs → t.stale r c = s.stale r c
  /-- PSW[23:16] stay as defined as they were, unless PSW is among `cs`. -/
  undef : .psw ∉ cs → t.pswUndef = s.pswUndef
  /-- The pending requests, the gates, the host's switches, what the host has been told. -/
  hidden : (t.pendNmi, t.pendDae, t.pendCae, t.pendDie, t.breakIn, t.taskGate, t.vcon0Written, t.endinitOpen,
      t.safetyOpen, t.fcdPending, t.fetchError, t.out) =
    (s.pendNmi, s.pendDae, s.pendCae, s.pendDie, s.breakIn, s.taskGate, s.vcon0Written, s.endinitOpen,
      s.safetyOpen, s.fcdPending, s.fetchError, s.out)
  /-- The configuration and the count of draws. -/
  fixed : (t.cfg, t.draws) = (s.cfg, s.draws)

/-- The words `ws` stand in memory at `ea`, the first at the lowest address. -/
def HoldsWords (t : State) (ea : Word) (ws : List Word) : Prop :=
  ∀ k w, ws[k]? = some w → t.wordAt (ea + BitVec.ofNat 32 (4 * k)) = w

/-- `t` has saved a context of `s` in the CSA at FCX: the words, the links, FCD where LCX names the CSA, and no other
byte of memory (41_context R392, R407). -/
structure SavesContext (s t : State) (upper : Bool) (block : List Word) : Prop where
  /-- The CSA holds the old PCXI and the block. -/
  words : HoldsWords t (csaEa s.fcx) (s.pcxi :: block)
  /-- Every other byte of memory is kept. -/
  memory : KeepsMemoryBut s t (span (csaEa s.fcx).toNat 64)
  /-- PCXI points to the CSA and holds the type, ICR.IE and ICR.CCPN. -/
  pcxi : t.pcxi = pcxiSetInfo (pcxiSetLink s.pcxi upper s.fcx) (icrIe (s.raw s.res .icr)) (icrCcpn (s.raw s.res .icr))
  /-- FCX takes the link word of the CSA. -/
  fcx : t.raw s.res (.rep .fcx) = setField (s.raw s.res (.rep .fcx)) 0 (field (s.wordAt (csaEa s.fcx)) 0 20)
  /-- The FCX of another resource is kept. -/
  otherFcx : ∀ r, r ≠ s.res → t.raw r (.rep .fcx) = s.raw r (.rep .fcx)
  /-- FCD is due where LCX names the CSA. -/
  fcd : t.fcdPending = (s.fcdPending || s.fcx == s.lcx)

/-- `t` has taken the CSA at PCXI back to the free list: PCXI, FCX and the CSA's link word (41 R393). -/
structure RestoresList (s t : State) : Prop where
  /-- PCXI takes the CSA's link word. -/
  pcxi : t.pcxi = s.linkWord 0
  /-- FCX points to the CSA. -/
  fcx : t.raw s.res (.rep .fcx) = setField (s.raw s.res (.rep .fcx)) 0 (pcx s.pcxi)
  /-- The CSA's link word is the old FCX. -/
  word : t.wordAt (csaEa (pcx s.pcxi)) = s.raw s.res (.rep .fcx)
  /-- Every other byte of memory is kept. -/
  memory : KeepsMemoryBut s t (span (csaEa (pcx s.pcxi)).toNat 4)

/-- The upper context of `t` is the one in the CSA at the PCXI of `s` (41 R396). -/
def UpperFromCsa (s t : State) : Prop :=
  [t.getA 10, t.getA 11, t.getD 8, t.getD 9, t.getD 10, t.getD 11, t.getA 12, t.getA 13, t.getA 14, t.getA 15,
    t.getD 12, t.getD 13, t.getD 14, t.getD 15] = (List.range 14).map fun k => s.linkWord (k + 2)

/-- The lower context of `t` is the one in the CSA at the PCXI of `s` (41 R399). -/
def LowerFromCsa (s t : State) : Prop := t.lowerBlock = (List.range 15).map fun k => s.linkWord (k + 1)

/-- The upper data registers and the upper address registers. -/
def upperData : List Reg := [8, 9, 10, 11, 12, 13, 14, 15]

/-- The address registers of the upper context. -/
def upperAddr : List Reg := [10, 11, 12, 13, 14, 15]

/-- The lower data registers. -/
def lowerData : List Reg := [0, 1, 2, 3, 4, 5, 6, 7]

/-- The address registers of the lower context, A[11] among them. -/
def lowerAddr : List Reg := [2, 3, 4, 5, 6, 7, 11]

/-- The state with the FCD request of another: what a context save may change is stated by `SavesContext`. -/
def State.withFcd (t s : State) : State := { t with fcdPending := s.fcdPending }

/-- A handler's PSW after the entry of a trap or an interrupt whose S bit is `safe` (60_exceptions R805, R840). -/
structure HandlerPsw (p q : Word) (safe : Bool) : Prop where
  /-- Supervisor mode. -/
  io : pswIo q = 0b10#2
  /-- The interrupt stack. -/
  is : pswIs q = true
  /-- Protection set 0. -/
  prs : pswPrs q = 0
  /-- The call depth counter is on, at 64 calls. -/
  cdc : pswCde q = true ∧ pswCdc q = 0
  /-- The global address registers may not be written. -/
  gw : pswGw q = false
  /-- The safe task bit. -/
  s : bit q 14 = safe
  /-- The user status bits are kept. -/
  user : field q 24 8 = field p 24 8

/-! ## The invariant -/

/-- Memory is in canonical form and the pc is a half-word address (10_state R46: bit 0 reads 0), given a reset pc that
is one. -/
structure State.Inv (s : State) : Prop where
  /-- Memory is in its canonical form. -/
  memory : Memory.wf s.mem = true
  /-- PC[0] is 0. -/
  pc : s.pc.getLsbD 0 = false
  /-- RESET_PC[0] is 0. -/
  resetPc : s.cfg.resetPc.getLsbD 0 = false

/-! ## When a step is one instruction -/

/-- Nothing stands between the machine and its next instruction: the host has nothing scheduled, the core runs, no
request waits at this boundary, and no trigger breaks before the instruction. -/
def State.ready (s : State) : Bool :=
  s.schedule.isEmpty && !s.halted && !s.fcdPending && s.request.isNone && (s.begin.pcBbm s.pc).isNone

/-! ## Plain accesses -/

/-- An access that meets no trap whatever protection says: protection is off, no guest runs, it lies in ordinary
memory of one segment that is not peripheral space and has no CSFR image, at an aligned address that is not 0, and not
in a circular buffer. -/
def State.plainAccess (s : State) (x : Access) : Bool :=
  !s.protEn .data && !s.guest && !s.peripheral (segment x.ea) .data && x.ea != 0 && x.ea.toNat % x.align == 0 &&
    x.circ.isNone && (match x.base with
      | some b => segment x.ea == segment b
      | none => true) &&
    ((List.range x.size).all fun k => segment (x.addr k) == segment x.ea) && !(x.addrs.any s.inCsfrImage) &&
    s.kindOf x.addrs == some .ram

end Sys2Proof.Machine
end

