-- ==== Sys2Proof/WellFormed.lean ====
section
/-! DEFINITION. Well-formed instructions: a register pair is named by an even specifier, a quad by a multiple of four
(10_state R43, 30_encoding R302). An ill-formed instruction still decodes and still runs: it raises OPD
(60_exceptions R829), or, without that trap, is refused (93 U13). -/

namespace Sys2Proof

/-- A register pair starts at an even register (30_encoding R302). -/
def pairEven (r : Reg) : Bool := r.toNat % 2 == 0

/-- A register quad starts at register 0, 4, 8 or 12 (30_encoding R302). -/
def quadAligned (r : Reg) : Bool := r.toNat % 4 == 0

/-- The pair P[b] of a memory operand whose mode uses one (40 R337, R340). -/
def MemOp.pairs : MemOp → List Reg
  | .circ b _ => [b]
  | .rev b => [b]
  | .abs _ => []
  | .off _ _ => []
  | .long _ _ => []
  | .post _ _ => []
  | .pre _ _ => []

/-- The pair specifiers of an instruction. -/
def Instr.pairs : Instr → List Reg
  | .nop => []
  | .fret => []
  | .debug => []
  | .rfm => []
  | .ret => []
  | .rfe => []
  | .svlcx => []
  | .rslcx => []
  | .enable => []
  | .disable => []
  | .dsync => []
  | .isync => []
  | .trapv => []
  | .trapsv => []
  | .restore _ => []
  | .disableD _ => []
  | .nop16 => []
  | .fret16 => []
  | .rfe16 => []
  | .ret16 => []
  | .debug16 => []
  | .bisr _ => []
  | .bisr16 _ => []
  | .syscall _ => []
  | .mfcr _ _ => []
  | .mtcr _ _ => []
  | .call _ => []
  | .call16 _ => []
  | .calla _ => []
  | .calli _ => []
  | .fcall _ => []
  | .fcalla _ => []
  | .fcalli _ => []
  | .jl _ => []
  | .jzT _ _ _ => []
  | .jzT16 _ _ => []
  | .stlcxAbs _ => []
  | .stucxAbs _ => []
  | .ldlcxAbs _ => []
  | .lducxAbs _ => []
  | .ldlcxOff _ _ => []
  | .lducxOff _ _ => []
  | .stlcxOff _ _ => []
  | .stucxOff _ _ => []
  | .leaOff _ _ _ => []
  | .leaAbs _ _ => []
  | .leaLong _ _ _ => []
  | .swapWOff _ _ _ => []
  | .swapWPost _ _ _ => []
  | .swapWPre _ _ _ => []
  | .swapWRev b _ => [b]
  | .swapWCirc b _ _ => [b]
  | .ldmstOff _ _ a => [a]
  | .ldmstPost _ _ a => [a]
  | .ldmstPre _ _ a => [a]
  | .ldmstRev b a => [b, a]
  | .ldmstCirc b _ a => [b, a]
  | .swapmskWOff _ _ a => [a]
  | .swapmskWPost _ _ a => [a]
  | .swapmskWPre _ _ a => [a]
  | .swapmskWRev b a => [b, a]
  | .swapmskWCirc b _ a => [b, a]
  | .cmpswapWOff _ _ a => [a]
  | .cmpswapWPost _ _ a => [a]
  | .cmpswapWPre _ _ a => [a]
  | .cmpswapWRev b a => [b, a]
  | .cmpswapWCirc b _ a => [b, a]
  | .swapWAbs _ _ => []
  | .ldmstAbs _ a => [a]
  | .stT _ _ _ => []
  | .ldBAbs _ _ => []
  | .ldBOff _ _ _ => []
  | .ldBPost _ _ _ => []
  | .ldBPre _ _ _ => []
  | .ldBRev _ b => [b]
  | .ldBCirc _ b _ => [b]
  | .ldBuAbs _ _ => []
  | .ldBuOff _ _ _ => []
  | .ldBuPost _ _ _ => []
  | .ldBuPre _ _ _ => []
  | .ldBuRev _ b => [b]
  | .ldBuCirc _ b _ => [b]
  | .ldHAbs _ _ => []
  | .ldHOff _ _ _ => []
  | .ldHPost _ _ _ => []
  | .ldHPre _ _ _ => []
  | .ldHRev _ b => [b]
  | .ldHCirc _ b _ => [b]
  | .ldHuAbs _ _ => []
  | .ldHuOff _ _ _ => []
  | .ldHuPost _ _ _ => []
  | .ldHuPre _ _ _ => []
  | .ldHuRev _ b => [b]
  | .ldHuCirc _ b _ => [b]
  | .ldWAbs _ _ => []
  | .ldWOff _ _ _ => []
  | .ldWPost _ _ _ => []
  | .ldWPre _ _ _ => []
  | .ldWRev _ b => [b]
  | .ldWCirc _ b _ => [b]
  | .ldDAbs a _ => [a]
  | .ldDOff a _ _ => [a]
  | .ldDPost a _ _ => [a]
  | .ldDPre a _ _ => [a]
  | .ldDRev a b => [a, b]
  | .ldDCirc a b _ => [a, b]
  | .ldAAbs _ _ => []
  | .ldAOff _ _ _ => []
  | .ldAPost _ _ _ => []
  | .ldAPre _ _ _ => []
  | .ldARev _ b => [b]
  | .ldACirc _ b _ => [b]
  | .ldDaAbs a _ => [a]
  | .ldDaOff a _ _ => [a]
  | .ldDaPost a _ _ => [a]
  | .ldDaPre a _ _ => [a]
  | .ldDaRev a b => [a, b]
  | .ldDaCirc a b _ => [a, b]
  | .ldWLong _ _ _ => []
  | .ldALong _ _ _ => []
  | .ldBLong _ _ _ => []
  | .ldBuLong _ _ _ => []
  | .ldHLong _ _ _ => []
  | .ldHuLong _ _ _ => []
  | .stBAbs _ _ => []
  | .stBOff _ _ _ => []
  | .stBPost _ _ _ => []
  | .stBPre _ _ _ => []
  | .stBRev b _ => [b]
  | .stBCirc b _ _ => [b]
  | .stHAbs _ _ => []
  | .stHOff _ _ _ => []
  | .stHPost _ _ _ => []
  | .stHPre _ _ _ => []
  | .stHRev b _ => [b]
  | .stHCirc b _ _ => [b]
  | .stWAbs _ _ => []
  | .stWOff _ _ _ => []
  | .stWPost _ _ _ => []
  | .stWPre _ _ _ => []
  | .stWRev b _ => [b]
  | .stWCirc b _ _ => [b]
  | .stDAbs _ a => [a]
  | .stDOff _ _ a => [a]
  | .stDPost _ _ a => [a]
  | .stDPre _ _ a => [a]
  | .stDRev b a => [b, a]
  | .stDCirc b _ a => [b, a]
  | .stAAbs _ _ => []
  | .stAOff _ _ _ => []
  | .stAPost _ _ _ => []
  | .stAPre _ _ _ => []
  | .stARev b _ => [b]
  | .stACirc b _ _ => [b]
  | .stDaAbs _ a => [a]
  | .stDaOff _ _ a => [a]
  | .stDaPost _ _ a => [a]
  | .stDaPre _ _ a => [a]
  | .stDaRev b a => [b, a]
  | .stDaCirc b _ a => [b, a]
  | .stWLong _ _ _ => []
  | .stALong _ _ _ => []
  | .stBLong _ _ _ => []
  | .stHLong _ _ _ => []
  | .cacheaWOff _ _ => []
  | .cacheaWPost _ _ => []
  | .cacheaWPre _ _ => []
  | .cacheaWiOff _ _ => []
  | .cacheaWiPost _ _ => []
  | .cacheaWiPre _ _ => []
  | .cacheaIOff _ _ => []
  | .cacheaIPost _ _ => []
  | .cacheaIPre _ _ => []
  | .cacheiWOff _ _ => []
  | .cacheiWPost _ _ => []
  | .cacheiWPre _ _ => []
  | .cacheiIOff _ _ => []
  | .cacheiIPost _ _ => []
  | .cacheiIPre _ _ => []
  | .cacheiWiOff _ _ => []
  | .cacheiWiPost _ _ => []
  | .cacheiWiPre _ _ => []
  | .add _ _ _ => []
  | .addC _ _ _ => []
  | .addx _ _ _ => []
  | .addxC _ _ _ => []
  | .addc _ _ _ => []
  | .addcC _ _ _ => []
  | .addscA _ _ _ _ => []
  | .addscAt _ _ _ => []
  | .extrU _ _ _ _ => []
  | .extrUReg _ _ d => [d]
  | .extrUWidth _ _ _ _ => []
  | .addF _ _ _ => []
  | .subF _ _ _ => []
  | .maddF _ _ _ _ => []
  | .msubF _ _ _ _ => []
  | .cmpF _ _ _ => []
  | .mulF _ _ _ => []
  | .divF _ _ _ => []
  | .updfl _ => []
  | .ftoi _ _ => []
  | .ftoq31 _ _ _ => []
  | .ftou _ _ => []
  | .ftoiz _ _ => []
  | .itof _ _ => []
  | .q31tof _ _ _ => []
  | .utof _ _ => []
  | .ftouz _ _ => []
  | .ftoq31z _ _ _ => []
  | .qseedF _ _ => []
  | .hptof _ _ => []
  | .ftohp _ _ => []
  | .movConst _ _ => []
  | .movh _ _ => []
  | .movhA _ _ => []
  | .addi _ _ _ => []
  | .mov _ _ => []
  | .movA _ _ => []
  | .movD _ _ => []
  | .movAa _ _ => []
  | .sub _ _ _ => []
  | .and _ _ _ => []
  | .andC _ _ _ => []
  | .or _ _ _ => []
  | .orC _ _ _ => []
  | .xor _ _ _ => []
  | .xorC _ _ _ => []
  | .eq _ _ _ => []
  | .eqC _ _ _ => []
  | .lt _ _ _ => []
  | .ltC _ _ _ => []
  | .j _ => []
  | .ja _ => []
  | .jla _ => []
  | .ji _ => []
  | .jli _ => []
  | .jeq _ _ _ => []
  | .jeqC _ _ _ => []
  | .jne _ _ _ => []
  | .jneC _ _ _ => []
  | .jnzT _ _ _ => []
  | .loop _ _ => []
  | .mov16C _ _ => []
  | .mov16R _ _ => []
  | .add16C _ _ => []
  | .add16R _ _ => []
  | .ldW16 _ _ => []
  | .stW16 _ _ => []
  | .mfdcr c _ => [c]
  | .mtdcr _ a => [a]
  | .hvcall _ => []
  | .rfh => []
  | .jri _ => []
  | .trapinv => []
  | .ldDd _ mem => mem.pairs
  | .stDd mem _ => mem.pairs
  | .absF _ _ => []
  | .negF _ _ => []
  | .minF _ _ _ => []
  | .maxF _ _ _ => []
  | .ftoin _ _ => []
  | .addDf c d a => [c, d, a]
  | .subDf c d a => [c, d, a]
  | .mulDf c a b => [c, a, b]
  | .divDf c a b => [c, a, b]
  | .maddDf c d a b => [c, d, a, b]
  | .msubDf c d a b => [c, d, a, b]
  | .cmpDf _ a b => [a, b]
  | .qseedDf c a => [c, a]
  | .dftoi _ a => [a]
  | .dftoin _ a => [a]
  | .dftoiz _ a => [a]
  | .dftou _ a => [a]
  | .dftouz _ a => [a]
  | .dftol c a => [c, a]
  | .dftolz c a => [c, a]
  | .dftoul c a => [c, a]
  | .dftoulz c a => [c, a]
  | .ltodf c a => [c, a]

/-- The quad specifiers of an instruction (LD.DD, ST.DD). -/
def Instr.quads : Instr → List Reg
  | .nop => []
  | .fret => []
  | .debug => []
  | .rfm => []
  | .ret => []
  | .rfe => []
  | .svlcx => []
  | .rslcx => []
  | .enable => []
  | .disable => []
  | .dsync => []
  | .isync => []
  | .trapv => []
  | .trapsv => []
  | .restore _ => []
  | .disableD _ => []
  | .nop16 => []
  | .fret16 => []
  | .rfe16 => []
  | .ret16 => []
  | .debug16 => []
  | .bisr _ => []
  | .bisr16 _ => []
  | .syscall _ => []
  | .mfcr _ _ => []
  | .mtcr _ _ => []
  | .call _ => []
  | .call16 _ => []
  | .calla _ => []
  | .calli _ => []
  | .fcall _ => []
  | .fcalla _ => []
  | .fcalli _ => []
  | .jl _ => []
  | .jzT _ _ _ => []
  | .jzT16 _ _ => []
  | .stlcxAbs _ => []
  | .stucxAbs _ => []
  | .ldlcxAbs _ => []
  | .lducxAbs _ => []
  | .ldlcxOff _ _ => []
  | .lducxOff _ _ => []
  | .stlcxOff _ _ => []
  | .stucxOff _ _ => []
  | .leaOff _ _ _ => []
  | .leaAbs _ _ => []
  | .leaLong _ _ _ => []
  | .swapWOff _ _ _ => []
  | .swapWPost _ _ _ => []
  | .swapWPre _ _ _ => []
  | .swapWRev _ _ => []
  | .swapWCirc _ _ _ => []
  | .ldmstOff _ _ _ => []
  | .ldmstPost _ _ _ => []
  | .ldmstPre _ _ _ => []
  | .ldmstRev _ _ => []
  | .ldmstCirc _ _ _ => []
  | .swapmskWOff _ _ _ => []
  | .swapmskWPost _ _ _ => []
  | .swapmskWPre _ _ _ => []
  | .swapmskWRev _ _ => []
  | .swapmskWCirc _ _ _ => []
  | .cmpswapWOff _ _ _ => []
  | .cmpswapWPost _ _ _ => []
  | .cmpswapWPre _ _ _ => []
  | .cmpswapWRev _ _ => []
  | .cmpswapWCirc _ _ _ => []
  | .swapWAbs _ _ => []
  | .ldmstAbs _ _ => []
  | .stT _ _ _ => []
  | .ldBAbs _ _ => []
  | .ldBOff _ _ _ => []
  | .ldBPost _ _ _ => []
  | .ldBPre _ _ _ => []
  | .ldBRev _ _ => []
  | .ldBCirc _ _ _ => []
  | .ldBuAbs _ _ => []
  | .ldBuOff _ _ _ => []
  | .ldBuPost _ _ _ => []
  | .ldBuPre _ _ _ => []
  | .ldBuRev _ _ => []
  | .ldBuCirc _ _ _ => []
  | .ldHAbs _ _ => []
  | .ldHOff _ _ _ => []
  | .ldHPost _ _ _ => []
  | .ldHPre _ _ _ => []
  | .ldHRev _ _ => []
  | .ldHCirc _ _ _ => []
  | .ldHuAbs _ _ => []
  | .ldHuOff _ _ _ => []
  | .ldHuPost _ _ _ => []
  | .ldHuPre _ _ _ => []
  | .ldHuRev _ _ => []
  | .ldHuCirc _ _ _ => []
  | .ldWAbs _ _ => []
  | .ldWOff _ _ _ => []
  | .ldWPost _ _ _ => []
  | .ldWPre _ _ _ => []
  | .ldWRev _ _ => []
  | .ldWCirc _ _ _ => []
  | .ldDAbs _ _ => []
  | .ldDOff _ _ _ => []
  | .ldDPost _ _ _ => []
  | .ldDPre _ _ _ => []
  | .ldDRev _ _ => []
  | .ldDCirc _ _ _ => []
  | .ldAAbs _ _ => []
  | .ldAOff _ _ _ => []
  | .ldAPost _ _ _ => []
  | .ldAPre _ _ _ => []
  | .ldARev _ _ => []
  | .ldACirc _ _ _ => []
  | .ldDaAbs _ _ => []
  | .ldDaOff _ _ _ => []
  | .ldDaPost _ _ _ => []
  | .ldDaPre _ _ _ => []
  | .ldDaRev _ _ => []
  | .ldDaCirc _ _ _ => []
  | .ldWLong _ _ _ => []
  | .ldALong _ _ _ => []
  | .ldBLong _ _ _ => []
  | .ldBuLong _ _ _ => []
  | .ldHLong _ _ _ => []
  | .ldHuLong _ _ _ => []
  | .stBAbs _ _ => []
  | .stBOff _ _ _ => []
  | .stBPost _ _ _ => []
  | .stBPre _ _ _ => []
  | .stBRev _ _ => []
  | .stBCirc _ _ _ => []
  | .stHAbs _ _ => []
  | .stHOff _ _ _ => []
  | .stHPost _ _ _ => []
  | .stHPre _ _ _ => []
  | .stHRev _ _ => []
  | .stHCirc _ _ _ => []
  | .stWAbs _ _ => []
  | .stWOff _ _ _ => []
  | .stWPost _ _ _ => []
  | .stWPre _ _ _ => []
  | .stWRev _ _ => []
  | .stWCirc _ _ _ => []
  | .stDAbs _ _ => []
  | .stDOff _ _ _ => []
  | .stDPost _ _ _ => []
  | .stDPre _ _ _ => []
  | .stDRev _ _ => []
  | .stDCirc _ _ _ => []
  | .stAAbs _ _ => []
  | .stAOff _ _ _ => []
  | .stAPost _ _ _ => []
  | .stAPre _ _ _ => []
  | .stARev _ _ => []
  | .stACirc _ _ _ => []
  | .stDaAbs _ _ => []
  | .stDaOff _ _ _ => []
  | .stDaPost _ _ _ => []
  | .stDaPre _ _ _ => []
  | .stDaRev _ _ => []
  | .stDaCirc _ _ _ => []
  | .stWLong _ _ _ => []
  | .stALong _ _ _ => []
  | .stBLong _ _ _ => []
  | .stHLong _ _ _ => []
  | .cacheaWOff _ _ => []
  | .cacheaWPost _ _ => []
  | .cacheaWPre _ _ => []
  | .cacheaWiOff _ _ => []
  | .cacheaWiPost _ _ => []
  | .cacheaWiPre _ _ => []
  | .cacheaIOff _ _ => []
  | .cacheaIPost _ _ => []
  | .cacheaIPre _ _ => []
  | .cacheiWOff _ _ => []
  | .cacheiWPost _ _ => []
  | .cacheiWPre _ _ => []
  | .cacheiIOff _ _ => []
  | .cacheiIPost _ _ => []
  | .cacheiIPre _ _ => []
  | .cacheiWiOff _ _ => []
  | .cacheiWiPost _ _ => []
  | .cacheiWiPre _ _ => []
  | .add _ _ _ => []
  | .addC _ _ _ => []
  | .addx _ _ _ => []
  | .addxC _ _ _ => []
  | .addc _ _ _ => []
  | .addcC _ _ _ => []
  | .addscA _ _ _ _ => []
  | .addscAt _ _ _ => []
  | .extrU _ _ _ _ => []
  | .extrUReg _ _ _ => []
  | .extrUWidth _ _ _ _ => []
  | .addF _ _ _ => []
  | .subF _ _ _ => []
  | .maddF _ _ _ _ => []
  | .msubF _ _ _ _ => []
  | .cmpF _ _ _ => []
  | .mulF _ _ _ => []
  | .divF _ _ _ => []
  | .updfl _ => []
  | .ftoi _ _ => []
  | .ftoq31 _ _ _ => []
  | .ftou _ _ => []
  | .ftoiz _ _ => []
  | .itof _ _ => []
  | .q31tof _ _ _ => []
  | .utof _ _ => []
  | .ftouz _ _ => []
  | .ftoq31z _ _ _ => []
  | .qseedF _ _ => []
  | .hptof _ _ => []
  | .ftohp _ _ => []
  | .movConst _ _ => []
  | .movh _ _ => []
  | .movhA _ _ => []
  | .addi _ _ _ => []
  | .mov _ _ => []
  | .movA _ _ => []
  | .movD _ _ => []
  | .movAa _ _ => []
  | .sub _ _ _ => []
  | .and _ _ _ => []
  | .andC _ _ _ => []
  | .or _ _ _ => []
  | .orC _ _ _ => []
  | .xor _ _ _ => []
  | .xorC _ _ _ => []
  | .eq _ _ _ => []
  | .eqC _ _ _ => []
  | .lt _ _ _ => []
  | .ltC _ _ _ => []
  | .j _ => []
  | .ja _ => []
  | .jla _ => []
  | .ji _ => []
  | .jli _ => []
  | .jeq _ _ _ => []
  | .jeqC _ _ _ => []
  | .jne _ _ _ => []
  | .jneC _ _ _ => []
  | .jnzT _ _ _ => []
  | .loop _ _ => []
  | .mov16C _ _ => []
  | .mov16R _ _ => []
  | .add16C _ _ => []
  | .add16R _ _ => []
  | .ldW16 _ _ => []
  | .stW16 _ _ => []
  | .mfdcr _ _ => []
  | .mtdcr _ _ => []
  | .hvcall _ => []
  | .rfh => []
  | .jri _ => []
  | .trapinv => []
  | .ldDd a _ => [a]
  | .stDd _ a => [a]
  | .absF _ _ => []
  | .negF _ _ => []
  | .minF _ _ _ => []
  | .maxF _ _ _ => []
  | .ftoin _ _ => []
  | .addDf _ _ _ => []
  | .subDf _ _ _ => []
  | .mulDf _ _ _ => []
  | .divDf _ _ _ => []
  | .maddDf _ _ _ _ => []
  | .msubDf _ _ _ _ => []
  | .cmpDf _ _ _ => []
  | .qseedDf _ _ => []
  | .dftoi _ _ => []
  | .dftoin _ _ => []
  | .dftoiz _ _ => []
  | .dftou _ _ => []
  | .dftouz _ _ => []
  | .dftol _ _ => []
  | .dftolz _ _ => []
  | .dftoul _ _ => []
  | .dftoulz _ _ => []
  | .ltodf _ _ => []

/-- Every pair specifier is even and every quad specifier a multiple of four. -/
def Instr.wellFormed (i : Instr) : Bool := i.pairs.all pairEven && i.quads.all quadAligned

end Sys2Proof
end

