-- ==== Sys2Proof/Certificates/Slice0/Forms.lean ====
section
/-! DEFINITION. The forms of the instructions as the statements speak of them: for each family a table from the
instructions to what the spec says of their shape (operands, sizes, results), so that one statement covers the family. -/

namespace Sys2Proof.Machine

/-! ## Loads, stores and read-modify-writes -/

/-- The registers a datum goes to or comes from. -/
inductive Place where
  | d (n : Reg)
  | e (n : Reg)
  | q (n : Reg)
  | a (n : Reg)
  | p (n : Reg)
deriving DecidableEq, Repr

/-- The data registers of a place, the least significant word first. -/
def Place.dataRegs : Place → List Reg
  | .d n => [n]
  | .e n => [n, n + 1]
  | .q n => [n, n + 1, n + 2, n + 3]
  | .a _ => []
  | .p _ => []

/-- The address registers of a place, the least significant word first. -/
def Place.addrRegs : Place → List Reg
  | .a n => [n]
  | .p n => [n, n + 1]
  | .d _ => []
  | .e _ => []
  | .q _ => []

/-- The words of a place as one number. -/
def Place.value (s : State) (x : Place) : Nat := wordsValue (x.dataRegs.map s.getD ++ x.addrRegs.map s.getA)

/-- A load or a store: length in bytes, memory operand, size, alignment in ordinary memory, registers, sign
extension. -/
structure MemForm where
  len : Nat
  mem : MemOp
  size : Nat
  align : Nat
  place : Place
  signed : Bool
deriving DecidableEq, Repr

/-- The forms of the loads (40_addressing R343 to R351, 47_supplementary R1000). -/
def loadForm : Instr → Option MemForm
  | .ldBAbs a off18 => some ⟨4, (.abs off18), 1, 1, .d a, true⟩
  | .ldBOff a b off10 => some ⟨4, (.off b off10), 1, 1, .d a, true⟩
  | .ldBPost a b off10 => some ⟨4, (.post b off10), 1, 1, .d a, true⟩
  | .ldBPre a b off10 => some ⟨4, (.pre b off10), 1, 1, .d a, true⟩
  | .ldBRev a b => some ⟨4, (.rev b), 1, 1, .d a, true⟩
  | .ldBCirc a b off10 => some ⟨4, (.circ b off10), 1, 1, .d a, true⟩
  | .ldBuAbs a off18 => some ⟨4, (.abs off18), 1, 1, .d a, false⟩
  | .ldBuOff a b off10 => some ⟨4, (.off b off10), 1, 1, .d a, false⟩
  | .ldBuPost a b off10 => some ⟨4, (.post b off10), 1, 1, .d a, false⟩
  | .ldBuPre a b off10 => some ⟨4, (.pre b off10), 1, 1, .d a, false⟩
  | .ldBuRev a b => some ⟨4, (.rev b), 1, 1, .d a, false⟩
  | .ldBuCirc a b off10 => some ⟨4, (.circ b off10), 1, 1, .d a, false⟩
  | .ldHAbs a off18 => some ⟨4, (.abs off18), 2, 2, .d a, true⟩
  | .ldHOff a b off10 => some ⟨4, (.off b off10), 2, 2, .d a, true⟩
  | .ldHPost a b off10 => some ⟨4, (.post b off10), 2, 2, .d a, true⟩
  | .ldHPre a b off10 => some ⟨4, (.pre b off10), 2, 2, .d a, true⟩
  | .ldHRev a b => some ⟨4, (.rev b), 2, 2, .d a, true⟩
  | .ldHCirc a b off10 => some ⟨4, (.circ b off10), 2, 2, .d a, true⟩
  | .ldHuAbs a off18 => some ⟨4, (.abs off18), 2, 2, .d a, false⟩
  | .ldHuOff a b off10 => some ⟨4, (.off b off10), 2, 2, .d a, false⟩
  | .ldHuPost a b off10 => some ⟨4, (.post b off10), 2, 2, .d a, false⟩
  | .ldHuPre a b off10 => some ⟨4, (.pre b off10), 2, 2, .d a, false⟩
  | .ldHuRev a b => some ⟨4, (.rev b), 2, 2, .d a, false⟩
  | .ldHuCirc a b off10 => some ⟨4, (.circ b off10), 2, 2, .d a, false⟩
  | .ldWAbs a off18 => some ⟨4, (.abs off18), 4, 2, .d a, false⟩
  | .ldWOff a b off10 => some ⟨4, (.off b off10), 4, 2, .d a, false⟩
  | .ldWPost a b off10 => some ⟨4, (.post b off10), 4, 2, .d a, false⟩
  | .ldWPre a b off10 => some ⟨4, (.pre b off10), 4, 2, .d a, false⟩
  | .ldWRev a b => some ⟨4, (.rev b), 4, 2, .d a, false⟩
  | .ldWCirc a b off10 => some ⟨4, (.circ b off10), 4, 2, .d a, false⟩
  | .ldDAbs a off18 => some ⟨4, (.abs off18), 8, 2, .e a, false⟩
  | .ldDOff a b off10 => some ⟨4, (.off b off10), 8, 2, .e a, false⟩
  | .ldDPost a b off10 => some ⟨4, (.post b off10), 8, 2, .e a, false⟩
  | .ldDPre a b off10 => some ⟨4, (.pre b off10), 8, 2, .e a, false⟩
  | .ldDRev a b => some ⟨4, (.rev b), 8, 2, .e a, false⟩
  | .ldDCirc a b off10 => some ⟨4, (.circ b off10), 8, 2, .e a, false⟩
  | .ldAAbs a off18 => some ⟨4, (.abs off18), 4, 4, .a a, false⟩
  | .ldAOff a b off10 => some ⟨4, (.off b off10), 4, 4, .a a, false⟩
  | .ldAPost a b off10 => some ⟨4, (.post b off10), 4, 4, .a a, false⟩
  | .ldAPre a b off10 => some ⟨4, (.pre b off10), 4, 4, .a a, false⟩
  | .ldARev a b => some ⟨4, (.rev b), 4, 4, .a a, false⟩
  | .ldACirc a b off10 => some ⟨4, (.circ b off10), 4, 4, .a a, false⟩
  | .ldDaAbs a off18 => some ⟨4, (.abs off18), 8, 4, .p a, false⟩
  | .ldDaOff a b off10 => some ⟨4, (.off b off10), 8, 4, .p a, false⟩
  | .ldDaPost a b off10 => some ⟨4, (.post b off10), 8, 4, .p a, false⟩
  | .ldDaPre a b off10 => some ⟨4, (.pre b off10), 8, 4, .p a, false⟩
  | .ldDaRev a b => some ⟨4, (.rev b), 8, 4, .p a, false⟩
  | .ldDaCirc a b off10 => some ⟨4, (.circ b off10), 8, 4, .p a, false⟩
  | .ldWLong a b off16 => some ⟨4, (.long b off16), 4, 2, .d a, false⟩
  | .ldALong a b off16 => some ⟨4, (.long b off16), 4, 4, .a a, false⟩
  | .ldBLong a b off16 => some ⟨4, (.long b off16), 1, 1, .d a, true⟩
  | .ldBuLong a b off16 => some ⟨4, (.long b off16), 1, 1, .d a, false⟩
  | .ldHLong a b off16 => some ⟨4, (.long b off16), 2, 2, .d a, true⟩
  | .ldHuLong a b off16 => some ⟨4, (.long b off16), 2, 2, .d a, false⟩
  | .ldW16 c b => some ⟨2, (.off b 0), 4, 2, .d c, false⟩
  | .ldDd a mem => some ⟨4, mem, 16, 4, .q a, false⟩
  | _ => none

/-- The forms of the stores (40_addressing R352 to R358, 47_supplementary R1000). -/
def storeForm : Instr → Option MemForm
  | .stBAbs off18 a => some ⟨4, (.abs off18), 1, 1, .d a, false⟩
  | .stBOff b off10 a => some ⟨4, (.off b off10), 1, 1, .d a, false⟩
  | .stBPost b off10 a => some ⟨4, (.post b off10), 1, 1, .d a, false⟩
  | .stBPre b off10 a => some ⟨4, (.pre b off10), 1, 1, .d a, false⟩
  | .stBRev b a => some ⟨4, (.rev b), 1, 1, .d a, false⟩
  | .stBCirc b off10 a => some ⟨4, (.circ b off10), 1, 1, .d a, false⟩
  | .stHAbs off18 a => some ⟨4, (.abs off18), 2, 2, .d a, false⟩
  | .stHOff b off10 a => some ⟨4, (.off b off10), 2, 2, .d a, false⟩
  | .stHPost b off10 a => some ⟨4, (.post b off10), 2, 2, .d a, false⟩
  | .stHPre b off10 a => some ⟨4, (.pre b off10), 2, 2, .d a, false⟩
  | .stHRev b a => some ⟨4, (.rev b), 2, 2, .d a, false⟩
  | .stHCirc b off10 a => some ⟨4, (.circ b off10), 2, 2, .d a, false⟩
  | .stWAbs off18 a => some ⟨4, (.abs off18), 4, 2, .d a, false⟩
  | .stWOff b off10 a => some ⟨4, (.off b off10), 4, 2, .d a, false⟩
  | .stWPost b off10 a => some ⟨4, (.post b off10), 4, 2, .d a, false⟩
  | .stWPre b off10 a => some ⟨4, (.pre b off10), 4, 2, .d a, false⟩
  | .stWRev b a => some ⟨4, (.rev b), 4, 2, .d a, false⟩
  | .stWCirc b off10 a => some ⟨4, (.circ b off10), 4, 2, .d a, false⟩
  | .stDAbs off18 a => some ⟨4, (.abs off18), 8, 2, .e a, false⟩
  | .stDOff b off10 a => some ⟨4, (.off b off10), 8, 2, .e a, false⟩
  | .stDPost b off10 a => some ⟨4, (.post b off10), 8, 2, .e a, false⟩
  | .stDPre b off10 a => some ⟨4, (.pre b off10), 8, 2, .e a, false⟩
  | .stDRev b a => some ⟨4, (.rev b), 8, 2, .e a, false⟩
  | .stDCirc b off10 a => some ⟨4, (.circ b off10), 8, 2, .e a, false⟩
  | .stAAbs off18 a => some ⟨4, (.abs off18), 4, 4, .a a, false⟩
  | .stAOff b off10 a => some ⟨4, (.off b off10), 4, 4, .a a, false⟩
  | .stAPost b off10 a => some ⟨4, (.post b off10), 4, 4, .a a, false⟩
  | .stAPre b off10 a => some ⟨4, (.pre b off10), 4, 4, .a a, false⟩
  | .stARev b a => some ⟨4, (.rev b), 4, 4, .a a, false⟩
  | .stACirc b off10 a => some ⟨4, (.circ b off10), 4, 4, .a a, false⟩
  | .stDaAbs off18 a => some ⟨4, (.abs off18), 8, 4, .p a, false⟩
  | .stDaOff b off10 a => some ⟨4, (.off b off10), 8, 4, .p a, false⟩
  | .stDaPost b off10 a => some ⟨4, (.post b off10), 8, 4, .p a, false⟩
  | .stDaPre b off10 a => some ⟨4, (.pre b off10), 8, 4, .p a, false⟩
  | .stDaRev b a => some ⟨4, (.rev b), 8, 4, .p a, false⟩
  | .stDaCirc b off10 a => some ⟨4, (.circ b off10), 8, 4, .p a, false⟩
  | .stWLong b off16 a => some ⟨4, (.long b off16), 4, 2, .d a, false⟩
  | .stALong b off16 a => some ⟨4, (.long b off16), 4, 4, .a a, false⟩
  | .stBLong b off16 a => some ⟨4, (.long b off16), 1, 1, .d a, false⟩
  | .stHLong b off16 a => some ⟨4, (.long b off16), 2, 2, .d a, false⟩
  | .stW16 b a => some ⟨2, (.off b 0), 4, 2, .d a, false⟩
  | .stDd mem a => some ⟨4, mem, 16, 4, .q a, false⟩
  | _ => none

/-- Word `k` of a loaded datum `v` as its register holds it. -/
def MemForm.word (f : MemForm) (v k : Nat) : Word :=
  if f.signed then (BitVec.ofNat (8 * f.size) v).signExtend 32 else BitVec.ofNat 32 (v / 2 ^ (32 * k))

/-- What an atomic read-modify-write does (R360, R361, R363, R364). -/
inductive RmwKind where
  | swap
  | ldmst
  | swapmsk
  | cmpswap
deriving DecidableEq, Repr

/-- An atomic read-modify-write of a word. -/
structure RmwForm where
  len : Nat
  mem : MemOp
  kind : RmwKind
  reg : Reg
deriving DecidableEq, Repr

/-- The forms of the atomic read-modify-writes of a word. -/
def rmwForm : Instr → Option RmwForm
  | .swapWOff b off10 a => some ⟨4, (.off b off10), .swap, a⟩
  | .swapWPost b off10 a => some ⟨4, (.post b off10), .swap, a⟩
  | .swapWPre b off10 a => some ⟨4, (.pre b off10), .swap, a⟩
  | .swapWRev b a => some ⟨4, (.rev b), .swap, a⟩
  | .swapWCirc b off10 a => some ⟨4, (.circ b off10), .swap, a⟩
  | .ldmstOff b off10 a => some ⟨4, (.off b off10), .ldmst, a⟩
  | .ldmstPost b off10 a => some ⟨4, (.post b off10), .ldmst, a⟩
  | .ldmstPre b off10 a => some ⟨4, (.pre b off10), .ldmst, a⟩
  | .ldmstRev b a => some ⟨4, (.rev b), .ldmst, a⟩
  | .ldmstCirc b off10 a => some ⟨4, (.circ b off10), .ldmst, a⟩
  | .swapmskWOff b off10 a => some ⟨4, (.off b off10), .swapmsk, a⟩
  | .swapmskWPost b off10 a => some ⟨4, (.post b off10), .swapmsk, a⟩
  | .swapmskWPre b off10 a => some ⟨4, (.pre b off10), .swapmsk, a⟩
  | .swapmskWRev b a => some ⟨4, (.rev b), .swapmsk, a⟩
  | .swapmskWCirc b off10 a => some ⟨4, (.circ b off10), .swapmsk, a⟩
  | .cmpswapWOff b off10 a => some ⟨4, (.off b off10), .cmpswap, a⟩
  | .cmpswapWPost b off10 a => some ⟨4, (.post b off10), .cmpswap, a⟩
  | .cmpswapWPre b off10 a => some ⟨4, (.pre b off10), .cmpswap, a⟩
  | .cmpswapWRev b a => some ⟨4, (.rev b), .cmpswap, a⟩
  | .cmpswapWCirc b off10 a => some ⟨4, (.circ b off10), .cmpswap, a⟩
  | .swapWAbs off18 a => some ⟨4, (.abs off18), .swap, a⟩
  | .ldmstAbs off18 a => some ⟨4, (.abs off18), .ldmst, a⟩
  | _ => none

/-- The word stored in place of `old`. -/
def RmwForm.new (f : RmwForm) (s : State) (old : Word) : Word :=
  match f.kind with
  | .swap => s.getD f.reg
  | .cmpswap => if old = s.getD (f.reg + 1) then s.getD f.reg else old
  | _ => (old &&& ~~~s.getD (f.reg + 1)) ||| (s.getD f.reg &&& s.getD (f.reg + 1))

/-- The data registers that take the old word. -/
def RmwForm.dest (f : RmwForm) : List Reg :=
  match f.kind with
  | .ldmst => []
  | _ => [f.reg]

/-- What the host is told of a read (60_exceptions R902, R905): the mode and PSW.S that it is presented with. -/
def State.toldRead (s : State) (x : Access) : List OutEvent :=
  if s.seen x then [.busRead x.ea.toNat x.size s.presentsSupervisor s.presentsSafe] else []

/-- What the host is told of a write, likewise. -/
def State.toldWrite (s : State) (x : Access) (v : Nat) : List OutEvent :=
  if s.seen x then [.busWrite x.ea.toNat x.size (v % 256 ^ x.size) s.presentsSupervisor s.presentsSafe] else []

/-- The state with what another has told the host. -/
def State.withOut (t s : State) : State := { t with out := s.out }

/-- The register an addressing mode updates. -/
def Resolved.target (r : Resolved) : List Reg := (r.update.map Prod.fst).toList

/-- None of the registers is a global one, or PSW.GW allows to write them (60_exceptions R826). -/
def State.mayWrite (s : State) (rs : List Reg) : Bool :=
  rs.all fun r => !isGlobal r || pswGw (s.ctl .psw .globals)

/-- The cache instructions: memory operand, and whether they need Supervisor mode (42_system R468, 60 R903). -/
def cacheForm : Instr → Option (MemOp × Bool)
  | .cacheaWOff b off10 => some ((.off b off10), false)
  | .cacheaWPost b off10 => some ((.post b off10), false)
  | .cacheaWPre b off10 => some ((.pre b off10), false)
  | .cacheaWiOff b off10 => some ((.off b off10), false)
  | .cacheaWiPost b off10 => some ((.post b off10), false)
  | .cacheaWiPre b off10 => some ((.pre b off10), false)
  | .cacheaIOff b off10 => some ((.off b off10), false)
  | .cacheaIPost b off10 => some ((.post b off10), false)
  | .cacheaIPre b off10 => some ((.pre b off10), false)
  | .cacheiWOff b off10 => some ((.off b off10), true)
  | .cacheiWPost b off10 => some ((.post b off10), true)
  | .cacheiWPre b off10 => some ((.pre b off10), true)
  | .cacheiIOff b off10 => some ((.off b off10), true)
  | .cacheiIPost b off10 => some ((.post b off10), true)
  | .cacheiIPre b off10 => some ((.pre b off10), true)
  | .cacheiWiOff b off10 => some ((.off b off10), true)
  | .cacheiWiPost b off10 => some ((.post b off10), true)
  | .cacheiWiPre b off10 => some ((.pre b off10), true)
  | _ => none

/-! ## The addressing modes -/

/-- `y` is `x` with its 16 bits in the opposite order (40_addressing R340). -/
def Reversed (x y : BitVec 16) : Prop := ∀ k, k < 16 → y.getLsbD k = x.getLsbD (15 - k)

/-- `r` is what a memory operand resolves to: the effective address, the base whose segment it must keep, the circular
buffer, and the register update with its new value (40_addressing R331 to R335, R337, R340). -/
def State.Addresses (s : State) (m : MemOp) (r : Resolved) : Prop :=
  let moved := fun (b : Reg) (off : Int) => s.getA b + BitVec.ofInt 32 off
  let low : Reg → Nat := fun b => (s.getA (b + 1)).toNat % 2 ^ 16
  let high : Reg → Nat := fun b => (s.getA (b + 1)).toNat / 2 ^ 16
  match m with
  | .abs off18 =>
    r.ea.toNat = off18.toNat / 2 ^ 14 * 2 ^ 28 + off18.toNat % 2 ^ 14 ∧ r.base = none ∧ r.circ = none ∧ r.update = none
  | .off b off10 =>
    r.ea = moved b off10.toInt ∧ r.base = some (s.getA b) ∧ r.circ = none ∧ r.update = none
  | .long b off16 =>
    r.ea = moved b off16.toInt ∧ r.base = some (s.getA b) ∧ r.circ = none ∧ r.update = none
  | .post b off10 =>
    r.ea = s.getA b ∧ r.base = none ∧ r.circ = none ∧ r.update = some (b, moved b off10.toInt)
  | .pre b off10 =>
    r.ea = moved b off10.toInt ∧ r.base = some (s.getA b) ∧ r.circ = none ∧ r.update = some (b, r.ea)
  | .circ b off10 =>
    let next : Int := low b + off10.toInt
    r.ea = moved b (low b) ∧ r.base = some (s.getA b) ∧ r.circ = some (s.getA b, low b, high b) ∧
      ∃ w : Word, r.update = some (b + 1, w) ∧ w.toNat / 2 ^ 16 = high b ∧
        (next < 0 → (w.toNat % 2 ^ 16 : Int) = (next + high b) % 2 ^ 16) ∧
        (high b ≤ next → (w.toNat % 2 ^ 16 : Int) = (next - high b) % 2 ^ 16) ∧
        (0 ≤ next → next < high b → (w.toNat % 2 ^ 16 : Int) = next)
  | .rev b =>
    r.ea = moved b (low b) ∧ r.base = some (s.getA b) ∧ r.circ = none ∧
      ∃ w : Word, r.update = some (b + 1, w) ∧ w.toNat / 2 ^ 16 = high b ∧
        ∀ i m : BitVec 16, Reversed ((s.getA (b + 1)).setWidth 16) i →
          Reversed ((s.getA (b + 1)).extractLsb' 16 16) m → Reversed (w.setWidth 16) (i + m)

/-- The data access of an instruction: whether it loads, whether it stores, its effective address (40_addressing R342,
R360 to R364, 41_context R420 to R423). -/
def State.Accesses (s : State) (i : Instr) (loads stores : Bool) (ea : Word) : Prop :=
  (∃ f, loadForm i = some f ∧ loads = true ∧ stores = false ∧ ea = (s.resolve f.mem).ea) ∨
    (∃ f, storeForm i = some f ∧ loads = false ∧ stores = true ∧ ea = (s.resolve f.mem).ea) ∨
    (∃ f, rmwForm i = some f ∧ loads = true ∧ stores = true ∧ ea = (s.resolve f.mem).ea) ∨
    (∃ off18 n b, i = .stT off18 n b ∧ loads = true ∧ stores = true ∧ ea = absoluteEa off18) ∨
    (((∃ k, i = .fcall k) ∨ (∃ k, i = .fcalla k) ∨ ∃ a, i = .fcalli a) ∧ loads = false ∧ stores = true ∧
      ea = s.getA 10 - 4) ∨
    ((i = .fret ∨ i = .fret16) ∧ loads = true ∧ stores = false ∧ ea = s.getA 10)

/-- The address of byte `k` of an access: a circular one wraps to the start of its buffer (40_addressing R339). -/
def Access.ByteAt (x : Access) (k : Nat) (a : Word) : Prop :=
  (x.circ = none → a = x.ea + BitVec.ofNat 32 k) ∧
    ∀ b i l, x.circ = some (b, i, l) → a = b + BitVec.ofNat 32 ((i + k) % l)

/-- A decoder row of the configuration keeps to the length rule (30_encoding R312): its length is its instruction's, and
4 bytes where bit 0 of the word is 1, else 2. -/
abbrev FollowsLengthRule (row : CodeRow) : Prop :=
  ∀ x ∈ row.instr, x.2 = x.1.ilen ∧ x.2 = if bit row.word 0 then 4 else 2

/-! ## What decides an access -/

/-- A segment is peripheral space (20_memory R236): segment F, or its bit of PMA2.PSD is 1. -/
abbrev State.InPeripheral (s : State) (seg : BitVec 4) (u : Use) : Prop :=
  seg = 15 ∨ bit (s.ctl (.rep .pma2) u) seg.toNat = true

/-- An address in an image of the core's own registers (20 R226): with virtualization one for each resource. -/
abbrev State.InOwnImage (s : State) (a : Nat) : Prop :=
  let within := fun base : Word => base.toNat ≤ a ∧ a < base.toNat + 0x10000
  within s.cfg.csfrBaseA ∨ (s.cfg.hasVirt = true ∧ (within s.cfg.csfrBaseHv ∨ within s.cfg.csfrBaseB))

/-- An access keeps to its place (20 R226, 40 R333, R338), so that MEM does not apply: in the segment of its base, all
of it in one segment, in no circular buffer of peripheral space and in no image of the core's own registers. -/
abbrev State.Placed (s : State) (x : Access) : Prop :=
  (x.base = none ∨ x.base.map segment = some (segment x.ea)) ∧ (∀ k, k < x.size → segment (x.addr k) = segment x.ea) ∧
    ¬ (x.circ ≠ none ∧ s.InPeripheral (segment x.ea) .data) ∧ ∀ a ∈ x.addrs, ¬ s.InOwnImage a

/-- An access is aligned, so that ALN does not apply: in ordinary memory to its alignment (20 R210), in peripheral space
to its size, where it is permitted there (R211, R212); a circular buffer starts at a multiple of 8, its length is a
multiple of the size and its index below its length (40 R337). -/
abbrev State.Aligned (s : State) (x : Access) : Prop :=
  (s.InPeripheral (segment x.ea) .data → x.periAlign ≠ 0 ∧ x.ea.toNat % x.periAlign = 0) ∧
    (¬ s.InPeripheral (segment x.ea) .data → x.ea.toNat % x.align = 0) ∧
    ∀ c ∈ x.circ, c.1.toNat % 8 = 0 ∧ c.2.2 % x.size = 0 ∧ c.2.1 < c.2.2

/-- An address lies in a data range of resource `r` that the enable register of a set enables (20 R241, R251, R252). -/
abbrev State.InDataRange (s : State) (r : Resource) (set : BitVec 3) (enable : Fin 8 → RepReg) (a : Word) : Prop :=
  set.toNat < s.cfg.nPrs ∧ ∃ n : Fin 32, n.val < s.cfg.nDpr ∧ bit (s.getRep r (enable set.toFin)) n.val = true ∧
    (s.getRep r (.dprL n)).toNat ≤ a.toNat ∧ a.toNat < (s.getRep r (.dprU n)).toNat

/-- An address lies in a code range of resource `r` that CPXE of a set enables (20 R247, R250). -/
abbrev State.InCodeRange (s : State) (r : Resource) (set : BitVec 3) (a : Word) : Prop :=
  set.toNat < s.cfg.nPrs ∧ ∃ n : Fin 32, n.val < s.cfg.nCpr ∧ bit (s.getRep r (.cpxe set.toFin)) n.val = true ∧
    (s.getRep r (.cprL n)).toNat ≤ a.toNat ∧ a.toNat < (s.getRep r (.cprU n)).toNat

/-- Level 2 denies a guest the context save area of a pointer with the hypervisor trap HT(2, tin) (46_virtualization
R743): no permission to read is L2MPR, to read but not to write L2MPW; every byte counts, or the first one (20 R256). -/
abbrev State.DeniesCsa (s : State) (ptr : BitVec 20) (tin : Word) : Prop :=
  let denied := fun ok : Word → Bool =>
    ∃ k, k < (if s.cfg.crossRangeTrap then 64 else 1) ∧ ok (csaEa ptr + BitVec.ofNat 32 k) = false
  (tin = 0 ∧ denied s.l2Read) ∨ (tin = 1 ∧ ¬ denied s.l2Read ∧ denied s.l2Write)

/-! ## Data registers, address registers, branches -/

/-- The moves, logic and compare instructions: destination, result, length (47_supplementary R981, R982, R985, R987,
R990, R991, R998). -/
def dataForm (s : State) : Instr → Option (Reg × Word × Nat)
  | .movConst c k => some (c, k.signExtend 32, 4)
  | .movh c k => some (c, k.setWidth 32 <<< 16, 4)
  | .mov c b => some (c, s.getD b, 4)
  | .movD c b => some (c, s.getA b, 4)
  | .mov16C a k => some (a, k.signExtend 32, 2)
  | .mov16R a b => some (a, s.getD b, 2)
  | .and c a b => some (c, s.getD a &&& s.getD b, 4)
  | .andC c a k => some (c, s.getD a &&& k.setWidth 32, 4)
  | .or c a b => some (c, s.getD a ||| s.getD b, 4)
  | .orC c a k => some (c, s.getD a ||| k.setWidth 32, 4)
  | .xor c a b => some (c, s.getD a ^^^ s.getD b, 4)
  | .xorC c a k => some (c, s.getD a ^^^ k.setWidth 32, 4)
  | .eq c a b => some (c, if s.getD a = s.getD b then 1 else 0, 4)
  | .eqC c a k => some (c, if (s.getD a).toInt = k.toInt then 1 else 0, 4)
  | .lt c a b => some (c, if (s.getD a).toInt < (s.getD b).toInt then 1 else 0, 4)
  | .ltC c a k => some (c, if (s.getD a).toInt < k.toInt then 1 else 0, 4)
  | _ => none

/-- The additions and subtractions: destination, exact result, length, carry out where the instruction writes C
(43_integer R495 to R497, 47 R984, R989, R999). -/
structure ArithForm where
  dest : Reg
  result : Int
  len : Nat
  carry : Option Bool

/-- The carry out of a 32-bit unsigned addition. -/
def carryOf (a b c : Nat) : Bool := decide (2 ^ 32 ≤ a + b + c)

/-- The forms of the additions and subtractions. -/
def arithForm (s : State) : Instr → Option ArithForm
  | .add c a b => some ⟨c, (s.getD a).toInt + (s.getD b).toInt, 4, none⟩
  | .addC c a k => some ⟨c, (s.getD a).toInt + k.toInt, 4, none⟩
  | .addx c a b =>
    some ⟨c, (s.getD a).toInt + (s.getD b).toInt, 4, some (carryOf (s.getD a).toNat (s.getD b).toNat 0)⟩
  | .addxC c a k =>
    some ⟨c, (s.getD a).toInt + k.toInt, 4, some (carryOf (s.getD a).toNat (k.signExtend 32).toNat 0)⟩
  | .addc c a b =>
    some ⟨c, (s.getD a).toInt + (s.getD b).toInt + (pswC s.psw).toInt, 4,
      some (carryOf (s.getD a).toNat (s.getD b).toNat (pswC s.psw).toNat)⟩
  | .addcC c a k =>
    some ⟨c, (s.getD a).toInt + k.toInt + (pswC s.psw).toInt, 4,
      some (carryOf (s.getD a).toNat (k.signExtend 32).toNat (pswC s.psw).toNat)⟩
  | .addi c a k => some ⟨c, (s.getD a).toInt + k.toInt, 4, none⟩
  | .sub c a b => some ⟨c, (s.getD a).toInt - (s.getD b).toInt, 4, none⟩
  | .add16C a k => some ⟨a, (s.getD a).toInt + k.toInt, 2, none⟩
  | .add16R a b => some ⟨a, (s.getD a).toInt + (s.getD b).toInt, 2, none⟩
  | _ => none

/-- The instructions with an address register as their result: destination and value (40_addressing R366 to R368, 47
R983, R986, R988). -/
def addressForm (s : State) : Instr → Option (Reg × Word)
  | .movhA c k => some (c, k.setWidth 32 <<< 16)
  | .movA c b => some (c, s.getD b)
  | .movAa c b => some (c, s.getA b)
  | .leaOff a b k => some (a, s.getA b + k.signExtend 32)
  | .leaAbs a k => some (a, absoluteEa k)
  | .leaLong a b k => some (a, s.getA b + k.signExtend 32)
  | .addscA c b a n => some (c, s.getA b + (s.getD a <<< n.toNat))
  | .addscAt c b a => some (c, (s.getA b + (s.getD a).sshiftRight 3) &&& 0xFFFFFFFC#32)
  | _ => none

/-- A PC-relative target (30_encoding R307). -/
def relativeTarget (pc : Word) {n : Nat} (disp : BitVec n) : Word := pc + 2 * disp.signExtend 32

/-- The branches but LOOP: length, whether taken, target (43_integer R499, R501, 47 R992 to R996; for the
16-bit JZ.T see notes/assumptions/49.md). -/
def branchForm (s : State) : Instr → Option (Nat × Bool × Word)
  | .jzT a n k => some (4, !(s.getD a).getLsbD n.toNat, relativeTarget s.pc k)
  | .jzT16 n k => some (2, !(s.getD 15).getLsbD n.toNat, if s.cfg.disp4Signed then relativeTarget s.pc k else s.pc + 2 * k.setWidth 32)
  | .jnzT a n k => some (4, (s.getD a).getLsbD n.toNat, relativeTarget s.pc k)
  | .jeq a b k => some (4, decide (s.getD a = s.getD b), relativeTarget s.pc k)
  | .jeqC a c k => some (4, decide ((s.getD a).toInt = c.toInt), relativeTarget s.pc k)
  | .jne a b k => some (4, decide (s.getD a ≠ s.getD b), relativeTarget s.pc k)
  | .jneC a c k => some (4, decide ((s.getD a).toInt ≠ c.toInt), relativeTarget s.pc k)
  | .j k => some (4, true, relativeTarget s.pc k)
  | .ja k => some (4, true, absoluteTarget k)
  | .ji a => some (4, true, s.getA a &&& 0xFFFFFFFE#32)
  | .jri a => some (4, true, (s.pc + s.getA a) &&& 0xFFFFFFFE#32)
  | _ => none

/-- The jumps that link: the target (43_integer R500, 47 R993, R994). -/
def linkForm (s : State) : Instr → Option Word
  | .jl k => some (relativeTarget s.pc k)
  | .jla k => some (absoluteTarget k)
  | .jli a => some (s.getA a &&& 0xFFFFFFFE#32)
  | _ => none

/-! ## Calls and contexts -/

/-- The calls: length and target (41_context R411 to R413). -/
def callForm (s : State) : Instr → Option (Nat × Word)
  | .call k => some (4, relativeTarget s.pc k)
  | .call16 k => some (2, relativeTarget s.pc k)
  | .calla k => some (4, absoluteTarget k)
  | .calli a => some (4, s.getA a &&& 0xFFFFFFFE#32)
  | _ => none

/-- The fast calls: the target (41 R420 to R422). -/
def fastCallForm (s : State) : Instr → Option Word
  | .fcall k => some (relativeTarget s.pc k)
  | .fcalla k => some (absoluteTarget k)
  | .fcalli a => some (s.getA a &&& 0xFFFFFFFE#32)
  | _ => none

/-- The stores of a context: memory operand and words, PCXI first (41 R424, R425), PCXI and PSW as they govern. -/
def contextStoreForm (s : State) : Instr → Option (MemOp × List Word)
  | .stlcxAbs k => some (.abs k, s.link :: s.lowerBlock)
  | .stlcxOff b k => some (.off b k, s.link :: s.lowerBlock)
  | .stucxAbs k => some (.abs k, s.link :: s.upperBlock s.pswImage)
  | .stucxOff b k => some (.off b k, s.link :: s.upperBlock s.pswImage)
  | _ => none

/-- The loads of a context: memory operand, and whether the upper one (41 R426, R427). -/
def contextLoadForm : Instr → Option (MemOp × Bool)
  | .ldlcxAbs k => some (.abs k, false)
  | .ldlcxOff b k => some (.off b k, false)
  | .lducxAbs k => some (.abs k, true)
  | .lducxOff b k => some (.off b k, true)
  | _ => none

/-! ## Core special function registers -/

/-- The moves of core registers: offset, whether a pair, whether a write (42_system R450 to R454). -/
def moveForm : Instr → Option (BitVec 16 × Bool × Bool)
  | .mfcr _ k => some (k, false, false)
  | .mtcr k _ => some (k, false, true)
  | .mfdcr _ k => some (k, true, false)
  | .mtdcr k _ => some (k, true, true)
  | _ => none

/-- Where a register stands in the map of the core registers (10_state R105, R87 to R93, 45_debug R668, R669,
46_virtualization R765, R766); `none` where the core does not have it. The global address registers of another
resource are no part of the map (46 R706). -/
def csfrOffset (c : Config) : Csfr → Option Nat
  | .pcxi => some 0xFE00
  | .psw => some 0xFE04
  | .pc => some 0xFE08
  | .cpuId => some 0xFE18
  | .coreId => some 0xFE1C
  | .icr => some 0xFE2C
  | .pprs => some 0xFE34
  | .tccon => some 0xFE6C
  | .ga _ => none
  | .rep x => match x with
    | .pma0 => some 0x8100
    | .pma1 => some 0x8104
    | .pma2 => some 0x8108
    | .dcon2 => some 0x9000
    | .dcon1 => some 0x9008
    | .smacon => some 0x900C
    | .dstr => some 0x9010
    | .datr => some 0x9018
    | .deadd => some 0x901C
    | .diear => some 0x9020
    | .dietr => some 0x9024
    | .dcon0 => some 0x9040
    | .pstr => some 0x9200
    | .pcon1 => some 0x9204
    | .pcon2 => some 0x9208
    | .pcon0 => some 0x920C
    | .piear => some 0x9210
    | .pietr => some 0x9214
    | .compat => some 0x9400
    | .fpuTrapCon => if c.hasSpFpu then some 0xA000 else none
    | .fpuTrapPc => if c.hasSpFpu then some 0xA004 else none
    | .fpuTrapOpc => if c.hasSpFpu then some 0xA008 else none
    | .fpuSrc1L => if c.hasSpFpu then some 0xA010 else none
    | .fpuSrc1U => if c.hasSpFpu && c.hasDpFpu then some 0xA014 else none
    | .fpuSrc2L => if c.hasSpFpu then some 0xA018 else none
    | .fpuSrc2U => if c.hasSpFpu && c.hasDpFpu then some 0xA01C else none
    | .fpuSrc3L => if c.hasSpFpu then some 0xA020 else none
    | .fpuSrc3U => if c.hasSpFpu && c.hasDpFpu then some 0xA024 else none
    | .fpuSyncCon => if c.hasSpFpu then some 0xA030 else none
    | .fpuSyncOpc => if c.hasSpFpu then some 0xA034 else none
    | .dprL n => if n.val < c.nDpr then some (0xC000 + 8 * n.val) else none
    | .dprU n => if n.val < c.nDpr then some (0xC004 + 8 * n.val) else none
    | .cprL n => if n.val < c.nCpr then some (0xD000 + 8 * n.val) else none
    | .cprU n => if n.val < c.nCpr then some (0xD004 + 8 * n.val) else none
    | .cpxe n => if n.val < c.nPrs then some ((if n.val < 4 then 0xE000 else 0xE030) + 4 * n.val) else none
    | .dpre n => if n.val < c.nPrs then some ((if n.val < 4 then 0xE010 else 0xE040) + 4 * n.val) else none
    | .dpwe n => if n.val < c.nPrs then some ((if n.val < 4 then 0xE020 else 0xE050) + 4 * n.val) else none
    | .tpsCon => some 0xE400
    | .tpsTimer n => some (0xE404 + 4 * n.val)
    | .cctrl => some 0xFC00
    | .ccnt => some 0xFC04
    | .icnt => some 0xFC08
    | .mcnt n => some (0xFC0C + 4 * n.val)
    | .corecon => some 0xFE14
    | .biv => some 0xFE20
    | .btv => some 0xFE24
    | .isp => some 0xFE28
    | .fcx => some 0xFE38
    | .lcx => some 0xFE3C
  | .sys x => match x with
    | .vcon0 => if c.hasVirt then some 0xB000 else none
    | .vcon1 => if c.hasVirt then some 0xB004 else none
    | .vcon2 => if c.hasVirt then some 0xB008 else none
    | .bhv => if c.hasVirt then some 0xB010 else none
    | .vmIcr n => if c.hasVirt then some (0xB100 + 4 * n.val) else none
    | .vmPeThresh n => if c.hasVirt then some (0xB200 + 4 * n.val) else none
    | .trEvt n => if n.val < c.nTrig then some (0xF000 + 8 * n.val) else none
    | .trAdr n => if n.val < c.nTrig then some (0xF004 + 8 * n.val) else none
    | .dbgsr => some 0xFD00
    | .exevt => some 0xFD08
    | .crevt => some 0xFD0C
    | .swevt => some 0xFD10
    | .dbgact => some 0xFD14
    | .trigAcc => some 0xFD30
    | .dms => some 0xFD40
    | .dcx => some 0xFD44
    | .dbgtcr => some 0xFD48
    | .dbgcfg => some 0xFD4C
    | .trccfg => some 0xFD50
    | .trcflt => some 0xFD54
    | .trclim => some 0xFD58
    | .bootcon => some 0xFE60
    | .ccon => some 0xFE68

/-- The global address registers of another resource, which the hypervisor reaches with a selector (46 R706). -/
def globalOffset : Fin 4 → Nat
  | 0 => 0xFF80
  | 1 => 0xFF84
  | 2 => 0xFFA0
  | 3 => 0xFFA4

/-- Bit `k` of register `x` of resource `r` tells what the FPU has captured, and nothing is captured: TST of its
control is 0 (44_fpu R590 to R600: "only valid when TST is asserted"). The captured fields of a control itself are 0
from reset on (R590, R599); that a capture has been cleared since, one of them tells that is 1
(notes/assumptions/30.md). -/
abbrev State.NotCaptured (s : State) (r : Resource) (x : Csfr) (k : Nat) : Prop :=
  ∃ y con, x = .rep y ∧ captureControl y = some con ∧ bit (s.getRep r con) 0 = false ∧
    bit (y.layout s.cfg).rh k = true ∧
    (y = con → k ≠ 0 ∧ ∃ j, j ≠ 0 ∧ bit (y.layout s.cfg).rh j = true ∧ bit (s.getRep r y) j = true)

/-- `v` is what register `x` of resource `r` reads as (42_system R450): the stored word in every bit that is not
reserved; a reserved bit reads as any value (93 U1), PSW[23:16] too once an MTCR has made them undefined (10_state R49),
what the FPU captures while it has captured nothing (notes/assumptions/30.md), and PSW bit 15 is a bit of PRS or 0
(notes/assumptions/39.md). -/
def State.ReadsAs (s : State) (r : Resource) (x : Csfr) (v : Word) : Prop :=
  ∀ k, k < 32 → bit (s.layout x).reserved k = false → (x = .psw → s.pswUndef = true → ¬ (16 ≤ k ∧ k < 24)) →
    ¬ s.NotCaptured r x k → bit v k = bit (if x = .psw then pswSetPrs s.psw (s.prsOf s.psw) else s.raw r x) k

/-- No debug event of a core-register move is due: none is armed for its offset, or an event of the instruction has
acted (45_debug R626, R633). -/
abbrev State.NoMoveEvent (s : State) (off : BitVec 16) : Prop := s.crEvent (off &&& 0xFFFC#16) = false ∨ s.evt = true

/-- A guest may read the register at an offset: it is not the hypervisor's and not listed for reads (46 R726). -/
abbrev State.GuestReads (s : State) (o : Nat) : Prop :=
  s.guest = true → hyperOffset o = false ∧ ∀ e ∈ s.cfg.hvCsfrs, e.offset.toNat = o → e.onRead = false

/-- A guest may write the register at an offset: it is not the hypervisor's, not listed for writes (46 R726), and no
debug register (45 R632, decision D26). -/
abbrev State.GuestWrites (s : State) (o : Nat) : Prop :=
  s.guest = true → hyperOffset o = false ∧ ¬ (0xF000 ≤ o ∧ o ≤ 0xFDFF) ∧
    ∀ e ∈ s.cfg.hvCsfrs, e.offset.toNat = o → e.onWrite = false

/-- What a register under the tool-control protocol holds after a write of `w` over `old` (45 R679): a write with TCP
gives TC and every field, one without gives the other fields where TC is 0. -/
def toolWritten (fields w old : Word) : Word :=
  if bit w 1 then merge fields w (setBit old 0 (bit w 0)) else if bit old 0 then old else merge fields w old

/-- The replicated registers whose write has no effect but the write itself. -/
def plainWrite : RepReg → Bool
  | .fcx => true
  | .lcx => true
  | .isp => true
  | .biv => true
  | .btv => true
  | .corecon => true
  | .compat => true
  | .smacon => true
  | .pma0 => true
  | .pma1 => true
  | .pma2 => true
  | .pcon0 => true
  | .pcon1 => true
  | .pcon2 => true
  | .dcon0 => true
  | .dcon1 => true
  | .dcon2 => true
  | .cctrl => true
  | .dpre _ => true
  | .dpwe _ => true
  | .cpxe _ => true
  | .dprL _ => true
  | .dprU _ => true
  | .cprL _ => true
  | .cprU _ => true
  | _ => false

/-- The replicated registers that only hardware writes: the trap information registers and the FPU's captures. -/
def statusReg : RepReg → Bool
  | .pstr => true
  | .dstr => true
  | .datr => true
  | .deadd => true
  | .pietr => true
  | .piear => true
  | .dietr => true
  | .diear => true
  | .fpuTrapPc => true
  | .fpuTrapOpc => true
  | .fpuSrc1L => true
  | .fpuSrc1U => true
  | .fpuSrc2L => true
  | .fpuSrc2U => true
  | .fpuSrc3L => true
  | .fpuSrc3U => true
  | .fpuSyncOpc => true
  | _ => false

/-- What a register that is neither plain nor status holds after a write of `w` over `old` (42 R457 with the rules of
each register: 10_state R47 to R52, R67, 60_exceptions R911, R914, R922, 44_fpu R590, R599, 45_debug R660 to R679,
46_virtualization R761 to R766, 70_reset R932); `none` for the plain registers. -/
def specialWrite (s : State) (w old : Word) : Csfr → Option Word
  | .psw => some (merge (if 4 < s.cfg.nPrs then 0xFF00FFFF#32 else 0xFF007FFF#32) w old)
  | .pcxi => some (merge 0x3FFFFFFF#32 w old)
  | .pprs => some (merge 7#32 w old)
  | .icr => some (merge 0x000080FF#32 w old)
  | .pc => some old
  | .cpuId => some old
  | .coreId => some old
  | .tccon => some old
  | .rep (.tpsTimer _) => some w
  | .rep .tpsCon =>
    let free := setBit old 16 false
    some (if bit old 0 || bit old 1 || bit old 2 then setBit free 17 true else free)
  | .rep .ccnt => some (if s.counting s.res then old else w)
  | .rep .icnt => some (if s.counting s.res then old else w)
  | .rep (.mcnt _) => some (if s.counting s.res then old else w)
  | .rep .fpuTrapCon =>
    let enables := merge 0x002C0000#32 w old
    some (if bit w 1 then setBit enables 0 false else enables)
  | .rep .fpuSyncCon =>
    let enables := merge 0x00500000#32 w old
    some (if bit w 1 then setBit enables 0 false else enables)
  | .rep x => if statusReg x then some old else none
  | .sys .bootcon => some (if bit w 0 then old else setBit old 0 false)
  | .sys .vcon0 => some (if s.vcon0Written then old else merge 3#32 w old)
  | .sys .vcon1 => some old
  | .sys .vcon2 => some (merge 0x00000707#32 w old)
  | .sys .bhv => some (merge 0xFFFFFFFE#32 w old)
  | .sys (.vmIcr _) => some (merge 0x000080FF#32 w old)
  | .sys (.vmPeThresh _) => some (merge 0x000000FF#32 w old)
  | .sys .exevt => some (merge 0x000000C9#32 w old)
  | .sys .crevt => some (merge 0x000000C9#32 w old)
  | .sys .swevt => some (merge 0x000000C9#32 w old)
  | .sys .dbgact => some (merge 0x0000001F#32 w old)
  | .sys .trigAcc => some old
  | .sys .dms => some (merge 0xFFFFFFFE#32 w old)
  | .sys .dcx => some (merge 0xFFFFFFC0#32 w old)
  | .sys .dbgtcr => some (merge 1#32 w old)
  | .sys .dbgcfg => some (toolWritten (if s.virtOn then 0x00FF8000#32 else 0x00008000#32) w old)
  | .sys .trccfg => some (toolWritten (if s.virtOn then 0x00FF8000#32 else 0x00008000#32) w old)
  | .sys .trcflt => some (toolWritten 0xFFFF01B0#32 w old)
  | .sys .trclim => some (toolWritten 0x000007F0#32 w old)
  | .sys .ccon => some old
  | .sys (.trAdr _) => some w
  | .sys (.trEvt n) => some (merge (if n.val % 2 = 0 then 0x180030C9#32 else 0x180010C9#32) w old)
  | .sys .dbgsr =>
    let marks := setBit (setBit old 4 (bit w 4)) 7 (bit w 7)
    some (if bit w 2 && !bit w 1 then setBit marks 1 false
      else if bit w 2 && bit w 1 && bit old 0 then setField (setField (setBit marks 1 true) 8 0#5) 16 0#3
      else marks)
  | .ga _ => none

/-- The registers that a write of one register may change: itself, the register it shares its storage with, and those
its side effect writes. -/
def writtenWith (s : State) : Csfr → List Csfr
  | .icr => [.icr, .sys (icrOf s.vm)]
  | .sys (.vmIcr n) => [.icr, .sys (.vmIcr n)]
  | .sys .vcon0 => [.sys .vcon0, .coreId, .tccon]
  | .sys .dbgsr => [.sys .dbgsr, .sys .bootcon]
  | .sys .bootcon => [.sys .dbgsr, .sys .bootcon]
  | .rep (.tpsTimer n) => [.rep (.tpsTimer n), .rep .tpsCon]
  | c => [c]

/-! ## The entries of the hypervisor -/

/-- `t` is the entry of the hypervisor from the guest `s` with return address `ra` (46_virtualization R717, R728,
R738): VM0 runs, the guest's upper context is in the CSA at HRHV's FCX, A[11] and D[15] are set, A[10] is HRHV's
interrupt stack pointer, PSW is a handler's with the user status bits clear, interrupts are off. -/
structure HyperEntry (s t : State) (ra d15 : Word) (safe : Bool) : Prop where
  vm : t.cvmn = 0
  res : t.res = .hv
  ra : t.getA 11 = ra
  d15 : t.getD 15 = d15
  sp : t.getA 10 = s.getRep .hv .isp
  psw : HandlerPsw 0 t.psw safe
  pprs : field t.pprs 0 3 = s.prsOf s.psw
  saves : SavesContext (s.setCvmn 0) t true ((s.setCvmn 0).upperBlock (pswSetPrs s.pswRead (field s.pprs 0 3)))
  off : icrIe (t.getSys (.vmIcr 0)) = false
  data : ∀ r ∈ lowerData, t.getD r = s.getD r
  addr : ∀ r ∈ lowerAddr, r ≠ 11 → t.getA r = s.getA r

/-! ## The debug controller -/

/-- The registers of the trigger event unit name trigger `n` as active for an address (45_debug R628, R629): it exists
by itself, and the address equals TRnADR, or lies from TRnADR on and below the next TRnADR where RNG makes a range. -/
def State.triggerAt (s : State) (n : Fin 8) (x : Word) : Prop :=
  let ranged := fun m : Fin 8 => m.val % 2 = 0 ∧ m.val + 1 < s.cfg.nTrig ∧ bit (s.getSys (.trEvt m)) 13 = true
  n.val < s.cfg.nTrig ∧ ¬ (n.val % 2 = 1 ∧ ranged (n - 1)) ∧
    (ranged n → (s.getSys (.trAdr n)).toNat ≤ x.toNat ∧ x.toNat < (s.getSys (.trAdr (n + 1))).toNat) ∧
    (¬ ranged n → x = s.getSys (.trAdr n))

/-- What a debug event from source `src` with event register `ereg` does to the state before its last action (45 R635
to R639): DBGSR, the task-mode gate, the signals. -/
structure EventNoted (s u : State) (src : BitVec 5) (ereg : Word) : Prop where
  source : field (u.getSys .dbgsr) 8 5 = src
  machine : field (u.getSys .dbgsr) 16 3 =
    if s.virtOn then (if src = 0 then 0 else s.cvmn) else field (s.getSys .dbgsr) 16 3
  posted : bit (u.getSys .dbgsr) 7 = (bit (s.getSys .dbgsr) 7 ||
    decide (4 ≤ (field (s.dbg .dbgact) 0 3).toNat ∧ (field (s.dbg .dbgact) 0 3).toNat - 4 < s.cfg.nBrkInt))
  suspend : bit (u.getSys .dbgsr) 4 = (bit (s.getSys .dbgsr) 4 || (bit (s.dbg .dbgact) 4 &&
    !decide (4 ≤ (field (s.dbg .dbgact) 0 3).toNat ∧ (field (s.dbg .dbgact) 0 3).toNat - 4 < s.cfg.nBrkInt)))
  halt : bit (u.getSys .dbgsr) 1 = (bit (s.getSys .dbgsr) 1 || decide (field (s.dbg .dbgact) 0 3 = 2))
  others : ∀ k, k < 32 → k ≠ 1 → k ≠ 4 → k ≠ 7 → ¬ (8 ≤ k ∧ k < 13) → ¬ (16 ≤ k ∧ k < 19) →
    bit (u.getSys .dbgsr) k = bit (s.getSys .dbgsr) k
  gate : u.taskGate = (match (field ereg 6 2).toNat with
    | 0 => s.taskGate
    | 1 => true
    | 2 => false
    | _ => !s.taskGate)
  signal : (field (s.dbg .dbgact) 0 3).toNat < 4 →
    u.out = (if bit (s.dbg .dbgact) 3 then s.out else .breakOut :: s.out)
  interrupt : ∀ k, (field (s.dbg .dbgact) 0 3).toNat = 4 + k → k < s.cfg.nBrkInt →
    u.out = (if bit (s.dbg .dbgact) 3 then .breakInterrupt k :: s.out else .breakOut :: .breakInterrupt k :: s.out)
  memory : KeepsMemory s u
  kept : Kept s { u with taskGate := s.taskGate, out := s.out } [] [] [.sys .dbgsr]

/-! ## The FPU -/

/-- A floating-point instruction but UPDFL: whether it needs the double-precision unit, its destination, its result
(44_fpu R564 to R588, R601 to R618). -/
structure FpuForm where
  dp : Bool
  dest : Place
  result : FpResult

/-- The forms of the floating-point instructions. -/
def fpuForm (s : State) : Instr → Option FpuForm
  | .addF c d a => some ⟨false, .d c, Precision.single.add s.rm (s.fD d) (s.fD a)⟩
  | .subF c d a => some ⟨false, .d c, Precision.single.sub s.rm (s.fD d) (s.fD a)⟩
  | .maddF c d a b => some ⟨false, .d c, Precision.single.madd s.rm (s.fD d) (s.fD a) (s.fD b)⟩
  | .msubF c d a b => some ⟨false, .d c, Precision.single.msub s.rm (s.fD d) (s.fD a) (s.fD b)⟩
  | .cmpF c a b => some ⟨false, .d c, Precision.single.cmp (s.fD a) (s.fD b)⟩
  | .mulF c a b => some ⟨false, .d c, Precision.single.mul s.rm (s.fD a) (s.fD b)⟩
  | .divF c a b => some ⟨false, .d c, Precision.single.div s.rm (s.fD a) (s.fD b)⟩
  | .ftoi c a => some ⟨false, .d c, Precision.single.toI32 s.rm (s.fD a)⟩
  | .ftoin c a => some ⟨false, .d c, Precision.single.toI32 0 (s.fD a)⟩
  | .ftoiz c a => some ⟨false, .d c, Precision.single.toI32 3 (s.fD a)⟩
  | .ftou c a => some ⟨false, .d c, Precision.single.toU32 s.rm (s.fD a)⟩
  | .ftouz c a => some ⟨false, .d c, Precision.single.toU32 3 (s.fD a)⟩
  | .ftoq31 c a b => some ⟨false, .d c, s.toQ31 s.rm a b⟩
  | .ftoq31z c a b => some ⟨false, .d c, s.toQ31 3 a b⟩
  | .itof c a => some ⟨false, .d c, Precision.single.round s.rm (Exact.ofInt (s.getD a).toInt 0)⟩
  | .utof c a => some ⟨false, .d c, Precision.single.round s.rm (Exact.ofInt (s.getD a).toNat 0)⟩
  | .q31tof c a b => some ⟨false, .d c, Precision.single.round s.rm (Exact.ofInt (s.getD a).toInt (s.q31Exp b - 31))⟩
  | .qseedF c a => some ⟨false, .d c, Precision.single.qseed (s.fD a) (Config.qseed (s.getD a)).toNat (Config.qseedInexact s.rm (s.getD a))⟩
  | .absF c a => some ⟨false, .d c, Precision.single.abs (s.fD a)⟩
  | .negF c a => some ⟨false, .d c, Precision.single.negate (s.fD a)⟩
  | .minF c a b => some ⟨false, .d c, Precision.single.min (s.fD a) (s.fD b)⟩
  | .maxF c a b => some ⟨false, .d c, Precision.single.max (s.fD a) (s.fD b)⟩
  | .hptof c a => some ⟨false, .d c, halfToSingle (s.fD a % 65536)⟩
  | .ftohp c a => some ⟨false, .d c, singleToHalf s.rm (s.fD a)⟩
  | .addDf c d a => some ⟨true, .e c, Precision.double.add s.rm (s.fE d) (s.fE a)⟩
  | .subDf c d a => some ⟨true, .e c, Precision.double.sub s.rm (s.fE d) (s.fE a)⟩
  | .mulDf c a b => some ⟨true, .e c, Precision.double.mul s.rm (s.fE a) (s.fE b)⟩
  | .divDf c a b => some ⟨true, .e c, Precision.double.div s.rm (s.fE a) (s.fE b)⟩
  | .maddDf c d a b => some ⟨true, .e c, Precision.double.madd s.rm (s.fE d) (s.fE a) (s.fE b)⟩
  | .msubDf c d a b => some ⟨true, .e c, Precision.double.msub s.rm (s.fE d) (s.fE a) (s.fE b)⟩
  | .cmpDf c a b => some ⟨true, .d c, Precision.double.cmp (s.fE a) (s.fE b)⟩
  | .qseedDf c a => some ⟨true, .e c, Precision.double.qseed (s.fE a) (Config.qseedDf (s.getE a)).toNat (Config.qseedDfInexact s.rm (s.getE a))⟩
  | .dftoi c a => some ⟨true, .d c, Precision.double.toI32 s.rm (s.fE a)⟩
  | .dftoin c a => some ⟨true, .d c, Precision.double.toI32 0 (s.fE a)⟩
  | .dftoiz c a => some ⟨true, .d c, Precision.double.toI32 3 (s.fE a)⟩
  | .dftou c a => some ⟨true, .d c, Precision.double.toU32 s.rm (s.fE a)⟩
  | .dftouz c a => some ⟨true, .d c, Precision.double.toU32 3 (s.fE a)⟩
  | .dftol c a => some ⟨true, .e c, Precision.double.toI64 s.rm (s.fE a)⟩
  | .dftolz c a => some ⟨true, .e c, Precision.double.toI64 3 (s.fE a)⟩
  | .dftoul c a => some ⟨true, .e c, Precision.double.toU64 s.rm (s.fE a)⟩
  | .dftoulz c a => some ⟨true, .e c, Precision.double.toU64 3 (s.fE a)⟩
  | .ltodf c a => some ⟨true, .e c, Precision.double.round s.rm (Exact.ofInt (s.getE a).toInt 0)⟩
  | _ => none

/-- What the trap registers of the FPU capture of an instruction (44_fpu R562, R563, R592 to R598): its destination, its
format (RR or not) and secondary opcode where the spec gives an encoding, and its operands as registers hold them: a,
b and d are SRC1, SRC2 and SRC3 (general knowledge, notes/assumptions/1.md). -/
structure CaptureForm where
  dest : Reg
  opcode : Option (Bool × Byte)
  sources : List (Option Nat)

/-- The captures of the floating-point instructions but UPDFL. -/
def captureForm (s : State) : Instr → Option CaptureForm
  | .addF c d a => some ⟨c, (some (false, 0x02)), [some (s.fD a), none, some (s.fD d)]⟩
  | .subF c d a => some ⟨c, (some (false, 0x03)), [some (s.fD a), none, some (s.fD d)]⟩
  | .maddF c d a b => some ⟨c, (some (false, 0x06)), [some (s.fD a), some (s.fD b), some (s.fD d)]⟩
  | .msubF c d a b => some ⟨c, (some (false, 0x07)), [some (s.fD a), some (s.fD b), some (s.fD d)]⟩
  | .cmpF c a b => some ⟨c, (some (true, 0x00)), [some (s.fD a), some (s.fD b), none]⟩
  | .mulF c a b => some ⟨c, (some (true, 0x04)), [some (s.fD a), some (s.fD b), none]⟩
  | .divF c a b => some ⟨c, (some (true, 0x05)), [some (s.fD a), some (s.fD b), none]⟩
  | .ftoi c a => some ⟨c, (some (true, 0x10)), [some (s.fD a), none, none]⟩
  | .ftoin c a => some ⟨c, none, [some (s.fD a), none, none]⟩
  | .ftoiz c a => some ⟨c, (some (true, 0x13)), [some (s.fD a), none, none]⟩
  | .ftou c a => some ⟨c, (some (true, 0x12)), [some (s.fD a), none, none]⟩
  | .ftouz c a => some ⟨c, (some (true, 0x17)), [some (s.fD a), none, none]⟩
  | .ftoq31 c a b => some ⟨c, (some (true, 0x11)), [some (s.fD a), some (s.fD b), none]⟩
  | .ftoq31z c a b => some ⟨c, (some (true, 0x18)), [some (s.fD a), some (s.fD b), none]⟩
  | .itof c a => some ⟨c, (some (true, 0x14)), [some (s.fD a), none, none]⟩
  | .utof c a => some ⟨c, (some (true, 0x16)), [some (s.fD a), none, none]⟩
  | .q31tof c a b => some ⟨c, (some (true, 0x15)), [some (s.fD a), some (s.fD b), none]⟩
  | .qseedF c a => some ⟨c, (some (true, 0x19)), [some (s.fD a), none, none]⟩
  | .absF c a => some ⟨c, none, [some (s.fD a), none, none]⟩
  | .negF c a => some ⟨c, none, [some (s.fD a), none, none]⟩
  | .minF c a b => some ⟨c, none, [some (s.fD a), some (s.fD b), none]⟩
  | .maxF c a b => some ⟨c, none, [some (s.fD a), some (s.fD b), none]⟩
  | .hptof c a => some ⟨c, (some (true, 0x24)), [some (s.fD a), none, none]⟩
  | .ftohp c a => some ⟨c, (some (true, 0x25)), [some (s.fD a), none, none]⟩
  | .addDf c d a => some ⟨c, none, [some (s.fE a), none, some (s.fE d)]⟩
  | .subDf c d a => some ⟨c, none, [some (s.fE a), none, some (s.fE d)]⟩
  | .mulDf c a b => some ⟨c, none, [some (s.fE a), some (s.fE b), none]⟩
  | .divDf c a b => some ⟨c, none, [some (s.fE a), some (s.fE b), none]⟩
  | .maddDf c d a b => some ⟨c, none, [some (s.fE a), some (s.fE b), some (s.fE d)]⟩
  | .msubDf c d a b => some ⟨c, none, [some (s.fE a), some (s.fE b), some (s.fE d)]⟩
  | .cmpDf c a b => some ⟨c, none, [some (s.fE a), some (s.fE b), none]⟩
  | .qseedDf c a => some ⟨c, none, [some (s.fE a), none, none]⟩
  | .dftoi c a => some ⟨c, none, [some (s.fE a), none, none]⟩
  | .dftoin c a => some ⟨c, none, [some (s.fE a), none, none]⟩
  | .dftoiz c a => some ⟨c, none, [some (s.fE a), none, none]⟩
  | .dftou c a => some ⟨c, none, [some (s.fE a), none, none]⟩
  | .dftouz c a => some ⟨c, none, [some (s.fE a), none, none]⟩
  | .dftol c a => some ⟨c, none, [some (s.fE a), none, none]⟩
  | .dftolz c a => some ⟨c, none, [some (s.fE a), none, none]⟩
  | .dftoul c a => some ⟨c, none, [some (s.fE a), none, none]⟩
  | .dftoulz c a => some ⟨c, none, [some (s.fE a), none, none]⟩
  | .ltodf c a => some ⟨c, none, [some (s.fE a), none, none]⟩
  | _ => none

/-- FPU_TRAP_OPC or FPU_SYNC_TRAP_OPC names the format and the opcode of an instruction, where the spec gives them
(R592, R600; in format RRR only OPC[3:0] is defined), and its precision. -/
def NamesOpcode (w : Word) (dp : Bool) (opcode : Option (Bool × Byte)) : Prop :=
  bit w 9 = dp ∧ (∀ opc, opcode = some (true, opc) → bit w 8 = true ∧ field w 0 8 = opc) ∧
    ∀ opc, opcode = some (false, opc) → bit w 8 = false ∧ field w 0 4 = opc.extractLsb' 0 4

/-- The pair of capture registers of each source operand (R593 to R598). -/
def sourceRegs : List (RepReg × RepReg) := [(.fpuSrc1L, .fpuSrc1U), (.fpuSrc2L, .fpuSrc2U), (.fpuSrc3L, .fpuSrc3U)]

/-- The registers of the asynchronous capture. -/
def asyncCapture : List Csfr :=
  [.rep .fpuTrapCon, .rep .fpuTrapPc, .rep .fpuTrapOpc, .rep .fpuSrc1L, .rep .fpuSrc1U, .rep .fpuSrc2L, .rep .fpuSrc2U,
    .rep .fpuSrc3L, .rep .fpuSrc3U]

/-- `t` holds the asynchronous capture of an instruction of `s` with the exceptions `r` (R562): flags, rounding mode and
TST in FPU_TRAP_CON, whose enables stay, the pc, the opcode, the operands; CAE is requested. -/
structure CapturedAsync (s t : State) (dp : Bool) (opcode : Option (Bool × Byte)) (sources : List (Option Nat))
    (r : FpResult) : Prop where
  flags : bit (t.getRep s.res .fpuTrapCon) 29 = r.fv ∧ bit (t.getRep s.res .fpuTrapCon) 27 = r.fu ∧
    bit (t.getRep s.res .fpuTrapCon) 26 = r.fx
  mode : field (t.getRep s.res .fpuTrapCon) 8 2 = s.rm
  locked : bit (t.getRep s.res .fpuTrapCon) 0 = true
  enables : ∀ k, k ∈ [1, 18, 19, 21] → bit (t.getRep s.res .fpuTrapCon) k = bit (s.getRep s.res .fpuTrapCon) k
  pc : t.getRep s.res .fpuTrapPc = s.pc &&& 0xFFFFFFFE#32
  opcode : NamesOpcode (t.getRep s.res .fpuTrapOpc) dp opcode
  sources : ∀ (k v : Nat) (regs : RepReg × RepReg), sources[k]? = some (some v) → sourceRegs[k]? = some regs →
    t.getRep s.res regs.1 = BitVec.ofNat 32 v ∧ t.getRep s.res regs.2 = BitVec.ofNat 32 (v / 2 ^ 32)
  others : ∀ q, q ≠ s.res → ∀ x, t.getRep q x = s.getRep q x
  request : t.pendCae = true

/-- `u` is `s` with the synchronous capture of an instruction with the exceptions `r` (R563), and nothing else. -/
structure CapturedSync (s u : State) (dp : Bool) (opcode : Option (Bool × Byte)) (r : FpResult) : Prop where
  flags : bit (u.getRep s.res .fpuSyncCon) 30 = r.fi ∧ bit (u.getRep s.res .fpuSyncCon) 28 = r.fz
  mode : field (u.getRep s.res .fpuSyncCon) 8 2 = s.rm
  locked : bit (u.getRep s.res .fpuSyncCon) 0 = true
  enables : ∀ k, k ∈ [1, 20, 22] → bit (u.getRep s.res .fpuSyncCon) k = bit (s.getRep s.res .fpuSyncCon) k
  opcode : NamesOpcode (u.getRep s.res .fpuSyncOpc) dp opcode
  others : ∀ q, q ≠ s.res → ∀ x, u.getRep q x = s.getRep q x
  memory : KeepsMemory s u
  kept : Kept s u [] [] [.rep .fpuSyncCon, .rep .fpuSyncOpc]

/-- The exceptions that UPDFL asserts: the flags that it sets to 1 under its mask (R586, notes/assumptions/30.md). -/
def raisedFlags (v : Word) : FpResult :=
  ⟨0, bit v 6 && bit v 14, bit v 5 && bit v 13, bit v 4 && bit v 12, bit v 3 && bit v 11, bit v 2 && bit v 10⟩

/-- PSW after UPDFL (R586): PSW[31:24] takes v[7:0] under the mask v[15:8]. -/
def FlagsUpdated (v p q : Word) : Prop :=
  (∀ k, k < 8 → bit q (24 + k) = if bit v (8 + k) then bit v k else bit p (24 + k)) ∧ field q 0 24 = field p 0 24

/-- A power of two. -/
def pow2 (k : Int) : Rat := if 0 ≤ k then (2 ^ k.toNat : Nat) else 1 / (2 ^ (-k).toNat : Nat)

/-- The magnitude of a rational. -/
def magnitude (r : Rat) : Rat := if r < 0 then -r else r

/-- A finite datum of a format (44_fpu R525, R529). -/
def FloatFmt.finite (f : FloatFmt) (x : Nat) : Prop := x < 2 ^ (1 + f.expBits + f.fracBits) ∧ f.exp x ≠ f.top

/-- The real value of a finite datum (R525, R529): (-1)^s 2^(e-bias) 1.f, and (-1)^s 2^(1-bias) 0.f where e is 0. -/
def FloatFmt.real (f : FloatFmt) (x : Nat) : Rat :=
  let sign : Rat := if f.neg x then -1 else 1
  if f.exp x = 0 then sign * (f.frac x : Nat) * pow2 (1 - f.bias - f.fracBits)
  else sign * (2 ^ f.fracBits + f.frac x : Nat) * pow2 (f.exp x - f.bias - f.fracBits)

/-- The real value of an exact result. -/
def Exact.real (x : Exact) : Rat := (x.signed : Rat) / (x.den : Rat)

/-- The largest finite datum is of this value. -/
def FloatFmt.largest (f : FloatFmt) : Rat := pow2 (f.bias + 1) - pow2 (f.bias - f.fracBits)

/-- `v` is the datum that a rounding mode returns for the real number `r` (R540, R542): the nearest one, of two equally
near the one whose lowest bit is 0; the least not below; the greatest not above; the nearest not greater in
magnitude. -/
def FloatFmt.Rounded (f : FloatFmt) (rm : BitVec 2) (r : Rat) (v : Nat) : Prop :=
  f.finite v ∧ ∀ y, f.finite y →
    (rm = 0 → magnitude (f.real v - r) ≤ magnitude (f.real y - r) ∧
      (magnitude (f.real v - r) = magnitude (f.real y - r) → f.real y = f.real v ∨ v % 2 = 0)) ∧
    (rm = 1 → r ≤ f.real v ∧ (r ≤ f.real y → f.real v ≤ f.real y)) ∧
    (rm = 2 → f.real v ≤ r ∧ (f.real y ≤ r → f.real y ≤ f.real v)) ∧
    (rm = 3 → magnitude (f.real v) ≤ magnitude r ∧
      (magnitude (f.real y) ≤ magnitude r → magnitude (f.real v - r) ≤ magnitude (f.real y - r)))

/-- The real number `r` overflows a format in a rounding mode (R543, R555): the largest finite number is exceeded by
what the rounded result would be, were the exponent range unbounded. -/
def FloatFmt.Overflows (f : FloatFmt) (rm : BitVec 2) (r : Rat) : Prop :=
  if rm = 0 then pow2 (f.bias + 1) - pow2 (f.bias - f.fracBits - 1) ≤ magnitude r
  else if (rm = 1 ∧ 0 < r) ∨ (rm = 2 ∧ r < 0) then f.largest < magnitude r
  else pow2 (f.bias + 1) ≤ magnitude r

/-- What an overflow returns (R543): an infinity, or the largest finite number, with the sign of the result. -/
def FloatFmt.overflowValue (f : FloatFmt) (rm : BitVec 2) (neg : Bool) : Nat :=
  let infinite := if rm = 0 then true else if rm = 1 then !neg else if rm = 2 then neg else false
  f.withSign neg (f.top * 2 ^ f.fracBits - if infinite then 0 else 1)

/-- `n` is the integer that a rounding mode takes for the real number `r` (R540, R542): the nearest one, the even one of
two equally near; the least not below; the greatest not above; the nearest not greater in magnitude. -/
def RoundedInt (rm : BitVec 2) (r : Rat) (n : Int) : Prop :=
  (rm = 0 → magnitude (n - r) ≤ 1 / 2 ∧ (magnitude (n - r) = 1 / 2 → n % 2 = 0)) ∧
    (rm = 1 → r ≤ n ∧ (n : Rat) < r + 1) ∧ (rm = 2 → (n : Rat) ≤ r ∧ r < n + 1) ∧
    (rm = 3 → magnitude n ≤ magnitude r ∧ magnitude r < magnitude n + 1 ∧ 0 ≤ n * r)

/-- `q` is the datum `x` of a precision, scaled by `2^k`, as an integer of `bits` bits from `lo` to `hi` (R576, R579,
R581, R609 to R617): 0 with FI for a NaN, the nearer end with FI for what rounds to an integer outside and for an
infinity, else the rounded value in two's complement, with FX where it is not exact. -/
def ConvertsToInt (p : Precision) (rm : BitVec 2) (k lo hi : Int) (bits x : Nat) (q : FpResult) : Prop :=
  let f := p.fmt
  let r := f.real (p.ftz x) * pow2 k
  let ends := fun i : Int => q = { value := (i % 2 ^ bits).toNat, fi := true }
  (f.isNan x = true → q = { value := 0, fi := true }) ∧ (f.isInf x = true → ends (if f.neg x then lo else hi)) ∧
    (f.finite x → ∃ n : Int, RoundedInt rm r n ∧ (hi < n → ends hi) ∧ (n < lo → ends lo) ∧
      (lo ≤ n → n ≤ hi → q = { value := (n % 2 ^ bits).toNat, fx := decide ((n : Rat) ≠ r) }))

/-- The datum `x` is below `y`, neither of them a NaN (R570): by their real values, subnormal ones as they are, with
the infinities at the two ends. -/
def FloatFmt.Below (f : FloatFmt) (x y : Nat) : Prop :=
  (f.finite x ∧ f.finite y ∧ f.real x < f.real y) ∨
    (f.isInf x = true ∧ f.neg x = true ∧ ¬ (f.isInf y = true ∧ f.neg y = true)) ∨
    (f.isInf y = true ∧ f.neg y = false ∧ ¬ (f.isInf x = true ∧ f.neg x = false))

/-- A counter register moved on by `n`: the 31-bit count modulo 2^31, bit 31 sticky (60_exceptions R922, R923). -/
def Counted (old new : Word) (n : Nat) : Prop :=
  (field new 0 31).toNat = ((field old 0 31).toNat + n) % 2 ^ 31 ∧
    bit new 31 = (bit old 31 || decide (2 ^ 31 ≤ (field old 0 31).toNat + n))

/-- PSW[31:24] after a floating-point instruction (44_fpu R551): FS tells whether anything was asserted, FI, FV, FZ, FU
and FX are sticky, RM is kept. -/
structure FpuFlagsSet (p q : Word) (r : FpResult) : Prop where
  fs : bit q 31 = (r.fi || r.fv || r.fz || r.fu || r.fx)
  fi : bit q 30 = (bit p 30 || r.fi)
  fv : bit q 29 = (bit p 29 || r.fv)
  fz : bit q 28 = (bit p 28 || r.fz)
  fu : bit q 27 = (bit p 27 || r.fu)
  fx : bit q 26 = (bit p 26 || r.fx)
  rest : field q 0 26 = field p 0 26

end Sys2Proof.Machine
end

