-- ==== Sys2Proof/Certificates/Slice0/Obligations.lean ====
section
/-! DEFINITION. The statements for the provers: one definition each. A statement that takes `s.window = []` speaks of a
state in which no CSFR update is open (70_reset R950: after an ISYNC, an entry or a return from one). -/

section Statements

open Sys2Proof Sys2Proof.Machine

/-! ## Encoding -/

/-- Words written out from the formats of 30_encoding decode to their instructions. What the spec marks 'from general
knowledge' in these rules is no sentence of the manual (notes/assumptions/1.md). -/
def Obligations.known_words_decode : Prop :=
  decodeTableWord 32 0x4FFFD03B = some (.movConst 4 0xFFFD) ∧
  decodeTableWord 32 0x2800007B = some (.movh 2 0x8000) ∧
  decodeTableWord 32 0x4D000091 = some (.movhA 4 0xD000) ∧
  decodeTableWord 32 0x0100000D = some .debug ∧
  decodeTableWord 16 0xA000 = some .debug16 ∧
  decodeTableWord 16 0x9000 = some .ret16 ∧
  decodeTableWord 32 0x04C0000D = some .isync ∧
  decodeTableWord 16 0x0000 = some .nop16

/-- Decoding the bytes of an encoded instruction, whatever follows them, gives the instruction and what follows
(30_encoding R300 to R316). What the spec marks 'from general knowledge' in these rules is no sentence of the manual
(notes/assumptions/1.md). -/
def Obligations.decode_encode : Prop :=
  ∀ (i : Instr) (rest : List Byte), i.encoding ≠ .unknown → decode (encode i ++ rest) = .ok (i, rest)

/-- What decodes is an instruction that has an encoding, and takes exactly its length from the bytes (30 R300, R316).
What the spec marks 'from general knowledge' in these rules is no sentence of the manual (notes/assumptions/1.md). -/
def Obligations.decode_consumes_the_length : Prop :=
  ∀ (bytes rest : List Byte) (i : Instr), decode bytes = .ok (i, rest) →
    i.encoding ≠ .unknown ∧ i.ilen + rest.length = bytes.length

/-! ## A step -/

/-- A ready machine whose fetch meets no trap runs the instruction at the pc, with the counters and triggers of
`State.finish` around it, and draws new free values in the next step: the instruction that the decoder rows of the
configuration give for the fetched word, or, where none names the word, the one it decodes to; only a row that keeps to
the length rule counts (30_encoding R312, general knowledge: notes/assumptions/1.md). The decoder rows are
notes/assumptions/23.md, the clock of an instruction is notes/assumptions/10.md. -/
def Obligations.step_runs_the_decoded_instruction : Prop :=
  ∀ (s : State) (i : Instr) (rest : List Byte), s.ready = true → s.begin.fetchCheck = .go →
    let names := fun row : CodeRow => row.word = s.begin.fetchWord ∧ FollowsLengthRule row
    ((∀ row ∈ s.cfg.codes, ¬ names row) ∧ decode (s.codeBytes 4) = .ok (i, rest)) ∨
      (∃ row len, (s.cfg.codes.find? fun row => decide (names row)) = some row ∧ row.instr = some (i, len)) →
    step s = match exec i s.begin with
      | .next t => .next ((s.begin.finish i t).nextDraw s.draws)
      | .fault f => .fault f
      | .refused r => .refused r

/-- A ready machine that cannot fetch an instruction takes a trap with the pc as the return address. The fetch is of 4
bytes where bit 0 of the first one is 1, else of 2 (30 R300, R312, general knowledge: notes/assumptions/1.md). MPX
where protection is on and one of these bytes, the first or a later one, lies in no enabled code range of the current
set (R248; the emulator space of debug mode excluded); else L2MPX where level 2 denies a guest one of the instruction's
bytes, else PSE where a byte lies in peripheral space or no memory is behind it, else PIE where the host has announced
an uncorrectable error, which the trap clears and whose address PIEAR then holds (`trap_entry`); IOPC where the fetch
meets no trap and the bytes are no instruction, or the configuration says that the word is none (20 R232, R250, R261,
46 R736, R742, 60 R827, R845, R849). That a device holds no code is notes/assumptions/36.md, the decoder rows are
notes/assumptions/23.md, the clock of an attempted instruction is notes/assumptions/10.md, that the host says the
address of an error is notes/assumptions/60.md, and that the error counts as met where level 2 replaces the entry of
PIE is notes/assumptions/52.md. -/
def Obligations.failed_fetches_trap : Prop :=
  ∀ s : State, s.ready = true →
    (s.begin.codeRam 2 = true → s.begin.fetchAddrs =
      (List.range (if (s.byteAt s.pc.toNat).getLsbD 0 then 4 else 2)).map fun k => s.pc + BitVec.ofNat 32 k) ∧
    (s.begin.protEn .fetch = true → s.debugMode = false →
      (∃ a ∈ s.begin.fetchAddrs, ∀ n : Fin 32, n.val < s.cfg.nCpr →
        bit (s.begin.setMask s.res .cpxe (s.begin.prs .fetch) .fetch) n.val = true →
        ¬ ((s.begin.eff s.res (.rep (.cprL n)) .fetch).toNat ≤ a.toNat ∧
          a.toNat < (s.begin.eff s.res (.rep (.cprU n)) .fetch).toNat)) →
      step s = .next ((s.begin.takeTrap 1 4 s.pc).clock.nextDraw s.draws)) ∧
    (∀ b, b = s.begin →
      let code := ∀ a ∈ b.fetchAddrs, ¬ b.InPeripheral (segment a) .fetch ∧ b.kindAt a.toNat = some .ram
      (∀ a ∈ b.fetchAddrs, b.l1Fetch a = true) →
      ((∃ a ∈ b.fetchAddrs, b.l2Fetch a = false) →
        step s = .next ((b.takeHvTrap 3 0 s.pc).clock.nextDraw s.draws)) ∧
      ((∀ a ∈ b.fetchAddrs, b.l2Fetch a = true) →
        (¬ code → step s = .next ((b.takeTrap 4 1 s.pc).clock.nextDraw s.draws)) ∧
        (code → ∀ a, s.fetchError = some a →
          step s = .next (({ b with fetchError := none }.takePie a).clock.nextDraw s.draws)))) ∧
    (s.begin.fetchCheck = .go →
      let names := fun row : CodeRow => row.word = s.begin.fetchWord ∧ FollowsLengthRule row
      ((∀ row ∈ s.cfg.codes, ¬ names row) ∧ (∀ i rest, decode (s.codeBytes 4) ≠ .ok (i, rest))) ∨
        (∃ row, (s.cfg.codes.find? fun row => decide (names row)) = some row ∧ row.instr = none) →
      step s = .next ((s.begin.takeTrap 2 1 s.pc).clock.nextDraw s.draws))

/-- A halted core with nothing scheduled changes nothing (45_debug R642; decision D28 of 92_eei_decisions,
notes/assumptions/34.md). A debug event whose action is disabled does nothing; any other notes its source in DBGSR,
moves the task-mode gate and gives its signals, and then goes on, halts the core with the pc at the address it leaves
off at, or takes the breakpoint trap where DTA is 0 (R635 to R641). DEBUG with debug on and SWEVT.EN set raises its
event in its own place where SWEVT.BBM is 1, else after it (R624, R631); that one event acts per instruction is R633.
Break-in is held where it is armed, and raises the external event at a boundary where nothing is scheduled (R625; that
the empty schedule means this boundary is notes/assumptions/9.md). A core-register move with its event armed raises it
in its own place where CREVT.BBM is 1, before the check of its privilege and in place of the move where the event takes
the machine over; where CREVT.BBM is 0 after it, unless it has ended in a trap or a break-after-make trigger on its pc
goes first (42 R458, 45 R626, R631, R633); what the move does by itself is its course while an event of the instruction
has acted already (`reads_of_core_registers` and the statements after it). When debug is on is decision D24 of
92_eei_decisions. Two clauses are readings and no sentence of the manual: that PEVT is set by a posted breakpoint
interrupt and else left as it is, decision D27, and that a break-before-make event which does not take the machine over
lets the instruction run, derived in R635 (notes/assumptions/35.md). -/
def Obligations.debug_event_actions : Prop :=
  ∀ s : State,
    (s.schedule = [] → s.halted = true → step s = .next (s.nextDraw s.draws)) ∧
    (∀ (src : BitVec 5) (ereg ra : Word),
      let a := field (s.dbg .dbgact) 0 3
      (a = 0 → s.debugEvent src ereg ra = (s, false)) ∧
      (a ≠ 0 → ∃ u, EventNoted s u src ereg ∧ s.debugEvent src ereg ra =
        if a = 2 then ({ u with pc := ra }, true)
        else if a = 3 ∧ bit (s.dbg .dbgtcr) 0 = false then (u.breakpointTrap ra, true)
        else (u, false))) ∧
    (∀ (i : Instr) (len : Nat), (i = .debug ∧ len = 4) ∨ (i = .debug16 ∧ len = 2) → s.debugOn = true →
      bit (s.dbg .swevt) 0 = true → s.evt = false →
      (bit (s.dbg .swevt) 3 = true →
        let t := (s.debugEvent 2 (s.dbg .swevt) s.pc).1
        exec i s = .next (if (s.debugEvent 2 (s.dbg .swevt) s.pc).2 then { t with entered := true }
          else { t with pc := s.pc + BitVec.ofNat 32 len })) ∧
      (bit (s.dbg .swevt) 3 = false → s.pcBam s.pc = none →
        let next := s.pc + BitVec.ofNat 32 len
        exec i s = .next (({ s with pc := next } : State).debugEvent 2 (s.dbg .swevt) next).1)) ∧
    (∀ rest, s.schedule = .host .breakIn :: rest →
      let armed := bit (s.getSys .dbgsr) 0 && bit (s.dbg .dbgcfg) 15 && bit (s.dbg .exevt) 0
      step s = .next { s with schedule := rest, breakIn := s.breakIn || armed, draws := s.draws + 1 }) ∧
    (s.schedule = [] → s.halted = false → s.fcdPending = false → s.breakIn = true →
      step s = .next ((({ s with breakIn := false } : State).debugEvent 0 (s.dbg .exevt) s.pc).1.nextDraw s.draws)) ∧
    (∀ (i : Instr) (off : BitVec 16) (pair write : Bool), moveForm i = some (off, pair, write) → i.wellFormed = true →
      s.crEvent (off &&& 0xFFFC#16) = true → s.evt = false →
      (bit (s.dbg .crevt) 3 = true →
        let e := s.debugEvent 1 (s.dbg .crevt) s.pc
        exec i s = if e.2 then .next { e.1 with entered := true } else exec i e.1) ∧
      (bit (s.dbg .crevt) 3 = false → s.entered = false → ∀ u, exec i { s with evt := true } = .next u →
        let moved := { u with evt := false }
        exec i s = .next (if u.entered ∨ (u.pcBam s.pc).isSome then moved
          else (moved.debugEvent 1 (s.dbg .crevt) u.pc).1)))

/-! ## Reset and the invariants -/

/-- The values that the spec gives for reset (10_state R109, 70_reset R931), in every configuration. CREVT and
FPU_TRAP_CON, whose values the manual has lost, are 0 by decisions D29 and D23 of 92_eei_decisions. Four clauses are
the model's own: that virtualization's CVMN is 0 is notes/assumptions/3.md and /38.md (decision D30), that no
asynchronous trap is due rests on the TPS_CON of notes/assumptions/3.md, that memory lists nothing is
notes/assumptions/4.md and /8.md, and that PC is RESET_PC is a parameter of the spec. -/
def Obligations.reset_values : Prop :=
  ∀ c : Config,
    let s := State.resetWith c
    s.psw = 0xB80 ∧ s.pc = c.resetPc ∧ s.supervisor = true ∧ s.raw s.res .icr = 0 ∧ s.pprs = 0 ∧
      (∀ r, s.getRep r .corecon = 0 ∧ s.getRep r .pma0 = 0x300 ∧ s.getRep r .pma1 = 0x300 ∧
        s.getRep r .pma2 = 0xC000 ∧ s.getRep r .pietr = 0 ∧ s.getRep r .piear = 0 ∧ s.getRep r .dietr = 0 ∧
        s.getRep r .diear = 0 ∧ s.getRep r .fpuTrapCon = 0 ∧ s.getRep r .fpuSyncCon = 0 ∧ s.getRep r .cctrl = 0 ∧ s.getRep r .ccnt = 0 ∧ s.getRep r .icnt = 0 ∧
        (∀ k, s.getRep r (.mcnt k) = 0)) ∧
      (∀ n, s.getSys (.vmIcr n) = 0 ∧ s.getSys (.vmPeThresh n) = 0 ∧ s.getSys (.trEvt n) = 0 ∧
        s.getSys (.trAdr n) = 0) ∧
      s.getSys .dbgsr = (if c.bootHalt then 2 else 0) ∧ s.getSys .exevt = 0 ∧ s.getSys .crevt = 0 ∧
      s.getSys .swevt = 0 ∧ s.getSys .trccfg = 0 ∧ s.getSys .trcflt = 0 ∧ s.getSys .trclim = 0 ∧
      s.getSys .dbgact = 0 ∧ s.getSys .trigAcc = 0 ∧ s.getSys .dbgcfg = 0 ∧ s.getSys .dbgtcr = 1 ∧
      s.getSys .dms = 0xA0000200 + (c.coreId.setWidth 32 <<< 6) ∧
      s.getSys .dcx = 0xA0000400 + (c.coreId.setWidth 32 <<< 6) ∧
      bit (s.getSys .bootcon) 0 = c.bootHalt ∧ s.halted = c.bootHalt ∧ s.vcon0Written = false ∧ s.cvmn = 0 ∧
      s.asyncTrap = none ∧ s.mem = []

/-- After reset the invariant holds. -/
def Obligations.reset_has_the_invariant : Prop := State.reset.Inv

/-- Every step keeps the invariant: memory in canonical form and PC[0] = 0 (10_state R46). -/
def Obligations.step_keeps_the_invariant : Prop := ∀ s t : State, s.Inv → step s = .next t → t.Inv

/-- Once VCON0 has been written, no step but a reset changes it or unlocks it (46_virtualization R761). That the whole
register is locked is decision D34 of 92_eei_decisions. -/
def Obligations.vcon0_is_locked_until_reset : Prop :=
  ∀ s t : State, s.vcon0Written = true → s.schedule.head? ≠ some (.host .reset) → step s = .next t →
    t.vcon0Written = true ∧ t.getSys .vcon0 = s.getSys .vcon0

/-! ## Data registers -/

/-- The moves, the logic and the compare instructions complete with their result and change nothing else. What the
spec marks 'from general knowledge' in these rules is no sentence of the manual (notes/assumptions/1.md). -/
def Obligations.moves_and_logic : Prop :=
  ∀ (s : State) (i : Instr) (c : Reg) (v : Word) (len : Nat), dataForm s i = some (c, v, len) →
    ∃ t, exec i s = .next t ∧ t.getD c = v ∧ t.pc = s.pc + BitVec.ofNat 32 len ∧ KeepsMemory s t ∧ Kept s t [c] [] [.pc]

/-- The additions and subtractions complete: the result modulo 2^32, V where the exact result leaves the signed range,
AV where bits 31 and 30 of the result differ, the sticky SV and SAV, C where the instruction writes it; the rest of
PSW is kept (43 R491 to R497). What the spec marks 'from general knowledge' in these rules is no sentence of the
manual (notes/assumptions/1.md). -/
def Obligations.arithmetic : Prop :=
  ∀ (s : State) (i : Instr) (f : ArithForm), arithForm s i = some f →
    let v := decide (f.result < -(2 ^ 31) ∨ 2 ^ 31 ≤ f.result)
    let w := BitVec.ofInt 32 f.result
    let av := w.getLsbD 31 != w.getLsbD 30
    ∃ t, exec i s = .next t ∧ t.getD f.dest = w ∧ t.pc = s.pc + BitVec.ofNat 32 f.len ∧
      bit t.psw 31 = f.carry.getD (bit s.psw 31) ∧ bit t.psw 30 = v ∧ bit t.psw 29 = (bit s.psw 29 || v) ∧
      bit t.psw 28 = av ∧ bit t.psw 27 = (bit s.psw 27 || av) ∧ field t.psw 0 27 = field s.psw 0 27 ∧
      t.pswUndef = s.pswUndef ∧ KeepsMemory s t ∧ Kept s t [f.dest] [] [.pc, .psw]

/-- EXTR.U completes in its three forms: the field zero-extended where it lies in the word; elsewhere any value (43
R498; the value is free, notes/assumptions/6.md). What the spec marks 'from general knowledge' in these rules is no
sentence of the manual (notes/assumptions/1.md). -/
def Obligations.extract_unsigned : Prop :=
  ∀ (s : State) (c a d : Reg) (pos width : BitVec 5),
    (∃ t, exec (.extrU c a pos width) s = .next t ∧ t.pc = s.pc + 4 ∧ KeepsMemory s t ∧ Kept s t [c] [] [.pc] ∧
      (width ≠ 0 → pos.toNat + width.toNat ≤ 32 → (t.getD c).toNat = (s.getD a).toNat / 2 ^ pos.toNat % 2 ^ width.toNat)) ∧
    (∃ t, exec (.extrUWidth c a d width) s = .next t ∧ t.pc = s.pc + 4 ∧ KeepsMemory s t ∧ Kept s t [c] [] [.pc] ∧
      (width ≠ 0 → (s.getD d).toNat % 32 + width.toNat ≤ 32 →
        (t.getD c).toNat = (s.getD a).toNat / 2 ^ ((s.getD d).toNat % 32) % 2 ^ width.toNat)) ∧
    (d.toNat % 2 = 0 →
      ∃ t, exec (.extrUReg c a d) s = .next t ∧ t.pc = s.pc + 4 ∧ KeepsMemory s t ∧ Kept s t [c] [] [.pc] ∧
        ((s.getD (d + 1)).toNat % 32 ≠ 0 → (s.getD d).toNat % 32 + (s.getD (d + 1)).toNat % 32 ≤ 32 →
          (t.getD c).toNat = (s.getD a).toNat / 2 ^ ((s.getD d).toNat % 32) % 2 ^ ((s.getD (d + 1)).toNat % 32)))

/-! ## Address registers and branches -/

/-- The instructions with an address register as their result complete where that register may be written, and change
nothing else. For ADDSC.AT the arithmetic shift of the index is the model's choice (notes/assumptions/42.md). What the
spec marks 'from general knowledge' in these rules is no sentence of the manual (notes/assumptions/1.md). -/
def Obligations.address_results : Prop :=
  ∀ (s : State) (i : Instr) (c : Reg) (v : Word), addressForm s i = some (c, v) → s.mayWrite [c] = true →
    ∃ t, exec i s = .next t ∧ t.getA c = v ∧ t.pc = s.pc + 4 ∧ KeepsMemory s t ∧ Kept s t [] [c] [.pc]

/-- Where PSW.GW is 0 an instruction whose result is A[0], A[1], A[8] or A[9], LOOP on one of them, and every
instruction whose addressing mode updates one, a cache instruction too, takes GRWP (60 R826). -/
def Obligations.global_registers_are_protected : Prop :=
  ∀ (s : State) (i : Instr), i.wellFormed = true → pswGw (s.ctl .psw .globals) = false →
    (∀ c v, addressForm s i = some (c, v) → isGlobal c = true → exec i s = .next (s.takeTrap 1 7 s.pc)) ∧
    (∀ b disp, i = .loop b disp → isGlobal b = true → exec i s = .next (s.takeTrap 1 7 s.pc)) ∧
    (∀ f, loadForm i = some f ∨ storeForm i = some f →
      (loadForm i = some f ∧ f.place.addrRegs.any isGlobal) ∨ (s.resolve f.mem).target.any isGlobal →
      exec i s = .next (s.takeTrap 1 7 s.pc)) ∧
    (∀ f, rmwForm i = some f → (s.resolve f.mem).target.any isGlobal → exec i s = .next (s.takeTrap 1 7 s.pc)) ∧
    (∀ m index, cacheForm i = some (m, index) → (index = true → s.supervisor = true) →
      (s.resolve m).target.any isGlobal → exec i s = .next (s.takeTrap 1 7 s.pc))

/-- The branches but LOOP complete: the pc is the target or past the instruction, nothing else changes. JRI's offset,
base and bit 0 are decision D20 of 92_eei_decisions; whether the displacement of the 16-bit JZ.T is sign-extended (30
R307) or zero-extended (spec/opcode_table.json) the configuration decides (notes/assumptions/49.md). What the spec marks
'from general knowledge' in these rules is no sentence of the manual (notes/assumptions/1.md). -/
def Obligations.branches : Prop :=
  ∀ (s : State) (i : Instr) (len : Nat) (taken : Bool) (target : Word), branchForm s i = some (len, taken, target) →
    ∃ t, exec i s = .next t ∧ t.pc = (if taken then target else s.pc + BitVec.ofNat 32 len) ∧ KeepsMemory s t ∧
      Kept s t [] [] [.pc]

/-- The jumps that link and LOOP complete: JL, JLA and JLI leave the address of the next instruction in A[11] (JLI
reads its target first); LOOP counts A[b] down and jumps unless it was 0 (43 R500, 47 R993, R994, R997). What the spec
marks 'from general knowledge' in these rules is no sentence of the manual (notes/assumptions/1.md). -/
def Obligations.links_and_loops : Prop :=
  ∀ s : State,
    (∀ i target, linkForm s i = some target →
      ∃ t, exec i s = .next t ∧ t.pc = target ∧ t.getA 11 = s.pc + 4 ∧ KeepsMemory s t ∧ Kept s t [] [11] [.pc]) ∧
    (∀ b disp, s.mayWrite [b] = true →
      ∃ t, exec (.loop b disp) s = .next t ∧ t.getA b = s.getA b - 1 ∧
        t.pc = (if s.getA b = 0 then s.pc + 4 else relativeTarget s.pc disp) ∧ KeepsMemory s t ∧ Kept s t [] [b] [.pc])

/-! ## Memory -/

/-- The addressing modes and the loads. What each mode gives: the effective address, the base whose segment it keeps,
the circular buffer, the updated register and its new value (`State.Addresses`: 40 R331 to R335, R337, R340), and the
address of each byte (R339). Every load whose access meets no trap completes in every addressing mode: the destination
holds the datum, that of memory where memory is behind the address and any value where a device is; the base is
updated; the host is told of an access to peripheral space or to a device; nothing else changes. A destination that the
mode also updates holds any value (40 R336). That the segment test applies to circular and bit-reverse addressing and
not to post-increment is derived in R333, what a circular step by more than the length gives in R337. That LD.DD has
every mode is notes/assumptions/24.md, its length notes/assumptions/23.md, both the model's. What the spec marks 'from
general knowledge' in these rules is no sentence of the manual (notes/assumptions/1.md). -/
def Obligations.loads : Prop :=
  (∀ (s : State) (m : MemOp), s.Addresses m (s.resolve m)) ∧ (∀ (x : Access) (k : Nat), x.ByteAt k (x.addr k)) ∧
    ∀ (s : State) (i : Instr) (f : MemForm), loadForm i = some f → i.wellFormed = true →
      let r := s.resolve f.mem
      let x := r.access f.size f.align f.size true false
      s.mayWrite (f.place.addrRegs ++ r.target) = true → s.check x = .go →
      ∃ t v, exec i s = .next t ∧ t.pc = s.pc + BitVec.ofNat 32 f.len ∧ v < 256 ^ f.size ∧
        (s.kindOf x.addrs = some .ram → v = s.readAt x.addrs) ∧
        (∀ k n, f.place.dataRegs[k]? = some n → t.getD n = f.word v k) ∧
        (∀ k n, f.place.addrRegs[k]? = some n → n ∉ r.target → t.getA n = f.word v k) ∧
        (∀ n w, r.update = some (n, w) → n ∉ f.place.addrRegs → t.getA n = w) ∧ t.out = s.toldRead x ++ s.out ∧
        KeepsMemory s t ∧ Kept s (t.withOut s) f.place.dataRegs (f.place.addrRegs ++ r.target) [.pc]

/-- Every store to ordinary memory completes in every addressing mode: the bytes at the effective address hold the
datum, the least significant first, no other byte changes, the base is updated, the host is told of an access to
peripheral space, nothing else changes; what each mode gives `loads` states. Where the mode updates the register stored,
the datum is the register's before or after the update (40 R336, 93 U11).
That ST.DD has every mode is notes/assumptions/24.md, its length notes/assumptions/23.md, both the model's. What the
spec marks 'from general knowledge' in these rules is no sentence of the manual (notes/assumptions/1.md). -/
def Obligations.stores : Prop :=
  ∀ (s : State) (i : Instr) (f : MemForm), storeForm i = some f → i.wellFormed = true →
    let r := s.resolve f.mem
    let x := r.access f.size f.align f.size false true
    s.mayWrite r.target = true → s.check x = .go → s.kindOf x.addrs = some .ram →
    ∃ t v, exec i s = .next t ∧ t.pc = s.pc + BitVec.ofNat 32 f.len ∧
      (v = f.place.value s ∨ ((∃ n ∈ f.place.addrRegs, n ∈ r.target) ∧ v = f.place.value (s.applyUpdate r))) ∧
      (∀ k, k < f.size → t.byteAt (x.addr k).toNat = byteOf v k) ∧
      (∀ n w, r.update = some (n, w) → t.getA n = w) ∧ t.out = s.toldWrite x v ++ s.out ∧
      KeepsMemoryBut s t x.addrs ∧ Kept s (t.withOut s) [] r.target [.pc]

/-- What no memory is behind. A store where nothing is answers later: it completes, memory is unchanged, and DAE is
pending; so do a fast call's and a store of a context (`stores`, `fast_calls_and_returns` and
`stores_and_loads_of_contexts` have the same on memory). A store to a device and an atomic instruction on one complete:
memory is unchanged, the host is told the datum, and an atomic instruction that returns the old word returns the
device's, which is any value; so do a fast return and a load of a context, whose registers take any value; where the
device answers the read with an error, which a free value says, each takes DSE (20 R225, 60 R847,
notes/assumptions/5.md).
A write of memory by another master, of any of its sizes, is one step that changes its bytes and nothing of the core
(20 R272, decision D14 of 92_eei_decisions, notes/assumptions/8.md). ST.DD's modes and length are
notes/assumptions/24.md and /23.md. -/
def Obligations.devices_and_other_masters : Prop :=
  ∀ s : State,
    (∀ (i : Instr) (f : MemForm), storeForm i = some f → i.wellFormed = true →
      let r := s.resolve f.mem
      let x := r.access f.size f.align f.size false true
      s.mayWrite r.target = true → s.check x = .go → s.kindOf x.addrs ≠ some .ram →
      ∃ t v, exec i s = .next t ∧ t.pc = s.pc + BitVec.ofNat 32 f.len ∧
        t.pendDae = (s.pendDae || s.kindOf x.addrs == none) ∧
        (v = f.place.value s ∨ ((∃ n ∈ f.place.addrRegs, n ∈ r.target) ∧ v = f.place.value (s.applyUpdate r))) ∧
        t.out = s.toldWrite x v ++ s.out ∧ KeepsMemory s t ∧ (∀ n w, r.update = some (n, w) → t.getA n = w) ∧
        Kept s { t.withOut s with pendDae := s.pendDae } [] r.target [.pc]) ∧
    (∀ (i : Instr) (f : RmwForm), rmwForm i = some f → i.wellFormed = true →
      let r := s.resolve f.mem
      let x := r.access 4 4 4 true true
      s.mayWrite r.target = true → s.check x = .go ∨ s.check x = .trap 4 2 → s.kindOf x.addrs = some .device →
      if s.check x = .go then
        ∃ (t : State) (old : Word), exec i s = .next t ∧ t.pc = s.pc + BitVec.ofNat 32 f.len ∧
          (∀ n ∈ f.dest, t.getD n = old) ∧ (∀ n w, r.update = some (n, w) → t.getA n = w) ∧
          t.out = s.toldWrite x (f.new s old).toNat ++ s.toldRead x ++ s.out ∧ KeepsMemory s t ∧
          Kept s (t.withOut s) f.dest r.target [.pc]
      else exec i s = .next (({ s with out := s.toldRead x ++ s.out } : State).takeTrap 4 2 s.pc)) ∧
    (∀ (i : Instr) (target : Word), fastCallForm s i = some target →
      let ea := s.getA 10 - 4
      let x := s.stackAccess ea false true
      s.check x = .go → s.kindOf x.addrs ≠ some .ram →
      ∃ t, exec i s = .next t ∧ t.pc = target ∧ t.getA 11 = s.pc + 4 ∧ t.getA 10 = ea ∧
        t.pendDae = (s.pendDae || s.kindOf x.addrs == none) ∧ t.out = s.toldWrite x (s.getA 11).toNat ++ s.out ∧
        KeepsMemory s t ∧ Kept s { t.withOut s with pendDae := s.pendDae } [] [10, 11] [.pc]) ∧
    (∀ (i : Instr) (m : MemOp) (ws : List Word), contextStoreForm s i = some (m, ws) →
      let x := s.contextAccess m false true
      s.check x = .go → s.kindOf x.addrs ≠ some .ram →
      ∃ t, exec i s = .next t ∧ t.pc = s.pc + 4 ∧ t.pendDae = (s.pendDae || s.kindOf x.addrs == none) ∧
        t.out = s.toldWrite x (wordsValue ws) ++ s.out ∧ KeepsMemory s t ∧
        Kept s { t.withOut s with pendDae := s.pendDae } [] [] [.pc]) ∧
    (∀ (i : Instr) (x : Access),
      let fret := (i = .fret ∨ i = .fret16) ∧ x = s.stackAccess (s.getA 10) true false
      let loads := fun upper : Bool => ∃ m, contextLoadForm i = some (m, upper) ∧ x = s.contextAccess m true false
      fret ∨ loads true ∨ loads false → s.check x = .go ∨ s.check x = .trap 4 2 → s.kindOf x.addrs = some .device →
      if s.check x = .go then
        ∃ t, exec i s = .next t ∧ t.out = s.toldRead x ++ s.out ∧ KeepsMemory s t ∧
          (fret → t.pc = s.getA 11 &&& 0xFFFFFFFE#32 ∧ t.getA 10 = s.getA 10 + 4 ∧
            Kept s (t.withOut s) [] [10, 11] [.pc]) ∧
          (∀ upper, loads upper → t.pc = s.pc + 4 ∧ Kept s (t.withOut s) (if upper then upperData else lowerData)
            (if upper then upperAddr else lowerAddr) [.pc])
      else exec i s = .next (({ s with out := s.toldRead x ++ s.out } : State).takeTrap 4 2 s.pc)) ∧
    (∀ (a : Word) (n v : Nat) (rest : List Sched), s.schedule = .host (.writeMem a n v) :: rest → n ≤ 64 →
      (∀ k, k < n → segment (a + BitVec.ofNat 32 k) = segment a) → s.kindOf (hostAddrs a n) = some .ram →
      ∃ t, step s = .next t ∧ (∀ k, k < n → t.byteAt (a + BitVec.ofNat 32 k).toNat = byteOf v k) ∧
        KeepsMemoryBut s t (hostAddrs a n) ∧ t = { s with schedule := rest, mem := t.mem, draws := s.draws + 1 })

/-- SWAP.W, LDMST, SWAPMSK.W and CMPSWAP.W complete on ordinary memory in every addressing mode: the new word, the old
word in the data register, the update, the host told of an access to peripheral space, nothing else; ST.T likewise
writes one bit of one byte (40 R360 to R364). What the spec marks 'from general knowledge' in these rules is no
sentence of the manual (notes/assumptions/1.md). -/
def Obligations.atomic_read_modify_writes : Prop :=
  ∀ s : State,
    (∀ (i : Instr) (f : RmwForm), rmwForm i = some f → i.wellFormed = true →
      let r := s.resolve f.mem
      let x := r.access 4 4 4 true true
      let old : Word := BitVec.ofNat 32 (s.readAt x.addrs)
      s.mayWrite r.target = true → s.check x = .go → s.kindOf x.addrs = some .ram →
      ∃ t, exec i s = .next t ∧ t.pc = s.pc + BitVec.ofNat 32 f.len ∧
        (∀ k, k < 4 → t.byteAt (x.addr k).toNat = byteOf (f.new s old).toNat k) ∧ (∀ n ∈ f.dest, t.getD n = old) ∧
        (∀ n w, r.update = some (n, w) → t.getA n = w) ∧
        t.out = s.toldWrite x (f.new s old).toNat ++ s.toldRead x ++ s.out ∧
        KeepsMemoryBut s t x.addrs ∧ Kept s (t.withOut s) f.dest r.target [.pc]) ∧
    (∀ (off18 : BitVec 18) (n : BitVec 3) (b : BitVec 1),
      let ea := absoluteEa off18
      let x := (s.resolve (.abs off18)).access 1 1 1 true true
      s.check x = .go → s.kindOf [ea.toNat] = some .ram →
      ∃ t, exec (.stT off18 n b) s = .next t ∧ t.pc = s.pc + 4 ∧
        (∀ k, k < 8 → (t.byteAt ea.toNat).getLsbD k =
          if k = n.toNat then b.getLsbD 0 else (s.byteAt ea.toNat).getLsbD k) ∧
        t.out = s.toldWrite x (t.byteAt ea.toNat).toNat ++ s.toldRead x ++ s.out ∧
        KeepsMemoryBut s t [ea.toNat] ∧ Kept s (t.withOut s) [] [] [.pc])

/-- A load, a store, an atomic instruction, a fast call or return, and a load or a store of a context whose access fails
a check has no effect but the trap of that check, with the instruction's own address as the return address (20 R260, 60
R843, 46 R728, 41 R420 to R427); a load that the bus answers with an error has been presented to it first (60 R902). A
cache instruction asks the ranges about its effective address alone: MPR where it may not be read, else MPW where it may
not be written (42 R468; that every one of them raises both is notes/assumptions/21.md). -/
def Obligations.failed_accesses_trap : Prop :=
  ∀ (s : State) (i : Instr),
    let traps := fun x : Access =>
      (∀ cls tin, s.check x = .trap cls tin →
        let u := if cls = 4 ∧ tin = 2 then { s with out := s.toldRead x ++ s.out } else s
        exec i s = .next (u.takeTrap cls tin s.pc)) ∧
      (∀ cls tin, s.check x = .hv cls tin → exec i s = .next (s.takeHvTrap cls tin s.pc))
    (∀ (m : MemOp) (size align : Nat) (loads stores : Bool), i.wellFormed = true →
      (∃ f, loadForm i = some f ∧ m = f.mem ∧ size = f.size ∧ align = f.align ∧ loads = true ∧ stores = false ∧
          s.mayWrite f.place.addrRegs = true) ∨
        (∃ f, storeForm i = some f ∧ m = f.mem ∧ size = f.size ∧ align = f.align ∧ loads = false ∧ stores = true) ∨
        (∃ f, rmwForm i = some f ∧ m = f.mem ∧ size = 4 ∧ align = 4 ∧ loads = true ∧ stores = true) ∨
        (∃ off18 n b, i = .stT off18 n b ∧ m = .abs off18 ∧ size = 1 ∧ align = 1 ∧ loads = true ∧ stores = true) →
      s.mayWrite (s.resolve m).target = true → traps ((s.resolve m).access size align size loads stores)) ∧
    ((fastCallForm s i).isSome = true → traps (s.stackAccess (s.getA 10 - 4) false true)) ∧
    (i = .fret ∨ i = .fret16 → traps (s.stackAccess (s.getA 10) true false)) ∧
    (∀ m ws, contextStoreForm s i = some (m, ws) → traps (s.contextAccess m false true)) ∧
    (∀ m upper, contextLoadForm i = some (m, upper) → traps (s.contextAccess m true false)) ∧
    (∀ m index, cacheForm i = some (m, index) → (index = true → s.supervisor = true) →
      s.mayWrite (s.resolve m).target = true →
      let ea := (s.resolve m).ea
      (s.l1Read ea = false → exec i s = .next (s.takeTrap 1 2 s.pc)) ∧
      (s.l1Read ea = true → s.l1Write ea = false → exec i s = .next (s.takeTrap 1 3 s.pc)))

/-- The order of the traps of a data access: MEM, ALN, MPN, MPP, MPR, MPW, then the level-2 traps L2MPR and L2MPW, then
the bus error DSE of a load; an access that fails none meets no trap (20 R260, 46 R736). MEM: the access leaves its
segment, is a circular one in peripheral space, or reaches an image of the core's own registers (`State.Placed`: 20
R226, 40 R333, R338). ALN: its address or its circular buffer is not aligned as its space asks (`State.Aligned`: 20
R210 to R212, 40 R337). The ranges are asked about every byte, or about the first one, as the configuration says (20
R256). IO = 11B counts as User-0 (93 U20), TIN 5 of MEM follows 60_exceptions (notes/assumptions/41.md), and a device
may answer with an error too (notes/assumptions/5.md). -/
def Obligations.access_traps_in_order : Prop :=
  ∀ (s : State) (x : Access),
    let bytes := s.checkedBytes x
    let io := pswIo (s.ctl .psw .periphery)
    let closed := s.InPeripheral (segment x.ea) .data ∧ (io = 0 ∨ io = 3)
    let address := s.Placed x ∧ s.Aligned x ∧ x.ea ≠ 0 ∧ ¬ closed
    let reads := x.loads = true → ∀ a ∈ bytes, s.l1Read a = true
    let writes := x.stores = true → ∀ a ∈ bytes, s.l1Write a = true
    let reads2 := x.loads = true → ∀ a ∈ bytes, s.l2Read a = true
    let writes2 := x.stores = true → ∀ a ∈ bytes, s.l2Write a = true
    (bytes = (List.range (if s.cfg.crossRangeTrap then x.size else 1)).map x.addr) ∧
    (¬ s.Placed x → s.check x = .trap 2 5) ∧
    (s.Placed x → ¬ s.Aligned x → s.check x = .trap 2 4) ∧
    (s.Placed x → s.Aligned x → x.ea = 0 → s.check x = .trap 1 6) ∧
    (s.Placed x → s.Aligned x → x.ea ≠ 0 → closed → s.check x = .trap 1 5) ∧
    (address → ¬ reads → s.check x = .trap 1 2) ∧
    (address → reads → ¬ writes → s.check x = .trap 1 3) ∧
    (address → reads → writes → ¬ reads2 → s.check x = .hv 2 0) ∧
    (address → reads → writes → reads2 → ¬ writes2 → s.check x = .hv 2 1) ∧
    (address → reads → writes → reads2 → writes2 → x.loads = true → s.kindOf x.addrs = none → s.check x = .trap 4 2) ∧
    (address → reads → writes → reads2 → writes2 → (x.loads = false ∨ s.kindOf x.addrs = some .ram) → s.check x = .go)

/-- Outside the emulator space an address may be read, written or fetched at level 1 exactly if protection is off or it
lies in a range of the current set that is enabled for it (20 R241, R247, R249 to R252). At level 2 it may exactly if no
guest runs or it lies in such a range of the hypervisor, in the set of VCON2.L2_PRS (46 R742, R763). That a set which
does not exist enables nothing is decision D17 of 92_eei_decisions, and which bits of PSW name the set is
notes/assumptions/39.md: both are no sentence of the manual. -/
def Obligations.ranges_decide_access : Prop :=
  ∀ (s : State) (a : Word), s.window = [] →
    let on := bit (s.getRep s.res .corecon) 1 = true
    let set := s.prsOf s.psw
    let guestSet := field (s.getSys .vcon2) 8 3
    (s.debugMode = false →
      (s.l1Read a = true ↔ (on → s.InDataRange s.res set .dpre a)) ∧
      (s.l1Write a = true ↔ (on → s.InDataRange s.res set .dpwe a)) ∧
      (s.l1Fetch a = true ↔ (on → s.InCodeRange s.res set a))) ∧
    (s.l2Read a = true ↔ (s.guest = true → s.InDataRange .hv guestSet .dpre a)) ∧
    (s.l2Write a = true ↔ (s.guest = true → s.InDataRange .hv guestSet .dpwe a)) ∧
    (s.l2Fetch a = true ↔ (s.guest = true → s.InCodeRange .hv guestSet a))

/-! ## Contexts -/

/-- The calls complete where the save may be made and the call depth allows it: the upper context is saved with CDE =
1 and PPRS in the place of PRS, A[11] is the return address, PPRS takes PRS, the count goes up, the pc is the target
(41 R392, R396, R400, R411 to R413). What the spec marks 'from general knowledge' in these rules is no sentence of the
manual (notes/assumptions/1.md). -/
def Obligations.calls : Prop :=
  ∀ (s : State) (i : Instr) (len : Nat) (target : Word), callForm s i = some (len, target) → s.window = [] →
    s.saveCheck = .go → ¬ (cdcCounts s.psw = true ∧ cdcFull s.psw = true) →
    ∃ t, exec i s = .next t ∧ t.pc = target ∧ t.getA 11 = s.pc + BitVec.ofNat 32 len ∧
      SavesContext s t true (s.upperBlock (pswSetPrs (setBit s.pswRead 7 true) (field s.pprs 0 3))) ∧
      field t.pprs 0 3 = s.prsOf s.psw ∧ pswCde t.psw = true ∧
      pswCdc t.psw = (if cdcCounts s.psw then pswCdc s.psw + 1 else pswCdc s.psw) ∧ field t.psw 8 24 = field s.psw 8 24 ∧
      Kept s (t.withFcd s) [] [11] [.pc, .psw, .pcxi, .pprs, .rep .fcx]

/-- RET and RFE complete on an upper context: the registers, PSW and PCXI come from the CSA, PRS from PPRS, the CSA goes
back to the free list, the pc is the A[11] from before (41 R393, R397, R414, R415). RET keeps PSW.RM unless COMPAT.RM
is 1; RFE takes it from the CSA and brings ICR.IE and ICR.CCPN back from PCXI. PSW[23:16] are the CSA's too, seen as
such unless an MTCR has made them undefined (93 U3). That bit 0 of the target is cleared is marked 'from general
knowledge' in R414 (notes/assumptions/1.md). -/
def Obligations.returns_from_calls_and_exceptions : Prop :=
  ∀ (s : State) (i : Instr), s.window = [] → pcx s.pcxi ≠ 0 → pcxiUl s.pcxi = true → s.restoreCheck .upper = .go →
    (i = .ret ∨ i = .ret16 → ¬ (cdcCounts s.psw = true ∧ cdcZero s.psw = true) →
      ∃ t, exec i s = .next t ∧ t.pc = s.getA 11 &&& 0xFFFFFFFE#32 ∧ UpperFromCsa s t ∧ RestoresList s t ∧
        pswPrs t.psw = field s.pprs 0 3 ∧ field t.pprs 0 3 = pswPrs (s.linkWord 1) ∧
        pswRm t.psw =
          (if bit (s.getRep s.res .compat) s.cfg.compatRm.val then pswRm (s.linkWord 1) else pswRm s.psw) ∧
        field t.psw 0 12 = field (s.linkWord 1) 0 12 ∧ bit t.psw 14 = bit (s.linkWord 1) 14 ∧
        field t.psw 16 8 = field (s.linkWord 1) 16 8 ∧ field t.psw 26 6 = field (s.linkWord 1) 26 6 ∧
        t.pswUndef = s.pswUndef ∧ Kept s t upperData upperAddr [.pc, .psw, .pcxi, .pprs, .rep .fcx]) ∧
    (i = .rfe ∨ i = .rfe16 → (cdcCounts s.psw = true → cdcZero s.psw = true) →
      ∃ t, exec i s = .next t ∧ t.pc = s.getA 11 &&& 0xFFFFFFFE#32 ∧ UpperFromCsa s t ∧ RestoresList s t ∧
        icrIe (t.raw t.res .icr) = pcxiPie s.pcxi ∧ icrCcpn (t.raw t.res .icr) = pcxiPcpn s.pcxi ∧
        t.psw = pswSetPrs (s.linkWord 1) (field s.pprs 0 3) ∧ field t.pprs 0 3 = pswPrs (s.linkWord 1) ∧
        t.pswUndef = s.pswUndef ∧
        Kept s t upperData upperAddr [.pc, .psw, .pcxi, .pprs, .rep .fcx, .icr, .sys (icrOf s.vm)])

/-- A CALL with the call depth counter on and its count at the maximum takes CDO and commits nothing of the CALL (41
R402). A return with no context takes CSU (R409); else RET with its count at zero CDU (R403), RFE, and RFH in the
hypervisor once VCON0 has been written, with a count that is not zero NEST (R404, 46 R716); else a return to the wrong
type of context CTYP (R410): the order of priority is CSU, CDU, NEST, CTYP (60 R852). That RFH takes the traps of RFE
is an inference of the spec's own (46 R716). A guest's save to a CSA that level 2 denies, in a call, SVLCX, BISR or an
entry of its own, and its restore from one take L2MPR or L2MPW and commit nothing; in place of an entry of its own the
hypervisor's trap has the return address of that entry (46 R743, decision D38 of 92_eei_decisions). -/
def Obligations.call_and_return_traps : Prop :=
  ∀ (s : State) (i : Instr),
    let depth := cdcCounts (s.ctl .psw .calls)
    let zero := cdcZero (s.ctl .psw .calls)
    (∀ len target, callForm s i = some (len, target) → s.fcx ≠ 0 → depth = true → cdcFull (s.ctl .psw .calls) = true →
      exec i s = .next (s.takeTrap 3 2 s.pc)) ∧
    let exception := i = .rfe ∨ i = .rfe16 ∨ i = .rfh
    (i = .ret ∨ i = .ret16 ∨ i = .rfe ∨ i = .rfe16 ∨ i = .rslcx ∨
        (i = .rfh ∧ s.cfg.hasVirt = true ∧ s.cvmn = 0 ∧ s.vcon0Written = true) →
      (pcx s.link = 0 → exec i s = .next (s.takeTrap 3 5 s.pc)) ∧
      (pcx s.link ≠ 0 → (i = .ret ∨ i = .ret16) → depth = true → zero = true → exec i s = .next (s.takeTrap 3 3 s.pc)) ∧
      (pcx s.link ≠ 0 → exception → depth = true → zero = false → exec i s = .next (s.takeTrap 3 7 s.pc)) ∧
      (pcx s.link ≠ 0 → i ≠ .rslcx → (depth = true → (zero = true ↔ exception)) → pcxiUl s.link = false →
        exec i s = .next (s.takeTrap 3 6 s.pc)) ∧
      (pcx s.link ≠ 0 → i = .rslcx → pcxiUl s.link = true → exec i s = .next (s.takeTrap 3 6 s.pc))) ∧
    (∀ tin, s.fcx ≠ 0 → s.DeniesCsa s.fcx tin →
      ((∃ len target, callForm s i = some (len, target)) ∧ ¬ (depth = true ∧ cdcFull (s.ctl .psw .calls) = true) ∨
          i = .svlcx ∨ (s.supervisor = true ∧ ((∃ k, i = .bisr k) ∨ ∃ k, i = .bisr16 k)) →
        exec i s = .next (s.takeHvTrap 2 tin s.pc)) ∧
      (∀ cls t ra, cls ≠ 4 → s.takeTrap cls t ra = s.takeHvTrap 2 tin ra) ∧
      (∀ pipn, s.takeInterrupt pipn = s.takeHvTrap 2 tin s.pc)) ∧
    (∀ tin, pcx s.link ≠ 0 → s.DeniesCsa (pcx s.link) tin →
      (i = .rslcx ∧ pcxiUl s.link = false) ∨
        (pcxiUl s.link = true ∧ ((i = .ret ∨ i = .ret16) ∧ ¬ (depth = true ∧ zero = true) ∨
          (i = .rfe ∨ i = .rfe16) ∧ ¬ (depth = true ∧ zero = false))) →
      exec i s = .next (s.takeHvTrap 2 tin s.pc))

/-- SVLCX completes where the save may be made: the lower context is saved and nothing else changes (41 R417). BISR, in
Supervisor mode, saves it with the old ICR.IE and ICR.CCPN, then ICR.IE is 1 and ICR.CCPN the constant (R416). RSLCX
completes on a lower context: the registers come from the CSA, which goes back to the free list (R418). The layout of
words 2 to 15 (R399), PCXI.PIE and PCPN at SVLCX (R392) and the low 8 bits of BISR's constant (R416) are marked 'from
general knowledge' in the spec and are no sentence of the manual (notes/assumptions/1.md). -/
def Obligations.lower_context_operations : Prop :=
  ∀ s : State, s.window = [] →
    (s.saveCheck = .go →
      ∃ t, exec .svlcx s = .next t ∧ t.pc = s.pc + 4 ∧ SavesContext s t false s.lowerBlock ∧
        Kept s (t.withFcd s) [] [] [.pc, .pcxi, .rep .fcx]) ∧
    (∀ (i : Instr) (len : Nat) (ccpn : Byte),
      (∃ k : BitVec 9, i = .bisr k ∧ len = 4 ∧ ccpn = k.setWidth 8) ∨ (i = .bisr16 ccpn ∧ len = 2) →
      s.supervisor = true → s.saveCheck = .go →
      ∃ t, exec i s = .next t ∧ t.pc = s.pc + BitVec.ofNat 32 len ∧ SavesContext s t false s.lowerBlock ∧
        icrIe (t.raw s.res .icr) = true ∧ icrCcpn (t.raw s.res .icr) = ccpn ∧
        icrPipn (t.raw s.res .icr) = icrPipn (s.raw s.res .icr) ∧
        Kept s (t.withFcd s) [] [] [.pc, .pcxi, .rep .fcx, .icr, .sys (icrOf s.vm)]) ∧
    (pcx s.pcxi ≠ 0 → pcxiUl s.pcxi = false → s.restoreCheck .lower = .go →
      ∃ t, exec .rslcx s = .next t ∧ t.pc = s.pc + 4 ∧ LowerFromCsa s t ∧ RestoresList s t ∧
        Kept s t lowerData lowerAddr [.pc, .pcxi, .rep .fcx])

/-- SVLCX followed by RSLCX gives back every general register, PCXI and the free list's head (41 R392, R393, R399):
nothing of a lower context is lost in its CSA. A CALL followed by a RET gives back every general register, PCXI, PPRS,
FCX and PSW, and goes on after the CALL, where the call depth counter is on (41 R400, R411, R414), PSW[23:16] are
defined, and PSW bit 15 is 0 or part of PRS: which it is is the reading of notes/assumptions/39.md. -/
def Obligations.save_then_restore_is_the_identity : Prop :=
  ∀ s : State, s.window = [] → s.saveCheck = .go →
    (∃ t u, exec .svlcx s = .next t ∧ exec .rslcx t = .next u ∧ u.pc = s.pc + 8 ∧ u.pcxi = s.pcxi ∧
      u.raw s.res (.rep .fcx) = s.raw s.res (.rep .fcx) ∧ (∀ r, u.getD r = s.getD r) ∧ (∀ r, u.getA r = s.getA r) ∧
      u.psw = s.psw ∧ KeepsMemoryBut s u (span (csaEa s.fcx).toNat 64)) ∧
    (∀ (i : Instr) (len : Nat) (target : Word), callForm s i = some (len, target) → s.pswUndef = false →
      cdcCounts s.psw = true → cdcFull s.psw = false → s.pc.getLsbD 0 = false → len % 2 = 0 →
      field s.psw 15 1 = 0 ∨ 4 < s.cfg.nPrs →
      ∃ t u, exec i s = .next t ∧ exec .ret t = .next u ∧ u.pc = s.pc + BitVec.ofNat 32 len ∧ u.pcxi = s.pcxi ∧
        u.raw s.res (.rep .fcx) = s.raw s.res (.rep .fcx) ∧ field u.pprs 0 3 = field s.pprs 0 3 ∧
        (∀ r, u.getD r = s.getD r) ∧ (∀ r, u.getA r = s.getA r) ∧ u.psw = s.psw)

/-- The fast calls and returns complete where their access to the stack meets no trap: a call stores A[11] in the word
below A[10], which A[10] then points to; FRET goes to the A[11] from before, loads A[11] from the stack and moves
A[10] up a word; the host is told of a stack in peripheral space (41 R420 to R423). What the spec marks 'from general
knowledge' in these rules is no sentence of the manual (notes/assumptions/1.md). -/
def Obligations.fast_calls_and_returns : Prop :=
  ∀ (s : State) (i : Instr),
    (∀ target, fastCallForm s i = some target →
      let ea := s.getA 10 - 4
      let x := s.stackAccess ea false true
      s.check x = .go → s.kindOf x.addrs = some .ram →
      ∃ t, exec i s = .next t ∧ t.pc = target ∧ t.getA 11 = s.pc + 4 ∧ t.getA 10 = ea ∧
        (∀ k, k < 4 → t.byteAt (x.addr k).toNat = byteOf (s.getA 11).toNat k) ∧
        t.out = s.toldWrite x (s.getA 11).toNat ++ s.out ∧ KeepsMemoryBut s t x.addrs ∧
        Kept s (t.withOut s) [] [10, 11] [.pc]) ∧
    (i = .fret ∨ i = .fret16 →
      let x := s.stackAccess (s.getA 10) true false
      s.check x = .go → s.kindOf x.addrs = some .ram →
      ∃ t, exec i s = .next t ∧ t.pc = s.getA 11 &&& 0xFFFFFFFE#32 ∧
        t.getA 11 = BitVec.ofNat 32 (s.readAt x.addrs) ∧ t.getA 10 = s.getA 10 + 4 ∧ KeepsMemory s t ∧
        t.out = s.toldRead x ++ s.out ∧ Kept s (t.withOut s) [] [10, 11] [.pc])

/-- STLCX, STUCX, LDLCX and LDUCX complete on ordinary memory: a store puts 16 words at the effective address; a load
brings the general registers of the context, and neither the link word nor PSW; nothing else changes (41 R424 to
R427). That STUCX stores PSW as it stands is decision D18 of 92_eei_decisions. What the spec marks 'from general
knowledge' in these rules is no sentence of the manual (notes/assumptions/1.md). -/
def Obligations.stores_and_loads_of_contexts : Prop :=
  ∀ (s : State) (i : Instr),
    (∀ m ws, contextStoreForm s i = some (m, ws) →
      let x := s.contextAccess m false true
      s.check x = .go → s.kindOf x.addrs = some .ram →
      ∃ t, exec i s = .next t ∧ t.pc = s.pc + 4 ∧ HoldsWords t x.ea ws ∧ KeepsMemoryBut s t x.addrs ∧
        Kept s t [] [] [.pc]) ∧
    (∀ m upper, contextLoadForm i = some (m, upper) →
      let x := s.contextAccess m true false
      let w := fun k : Nat => s.wordAt (x.ea + BitVec.ofNat 32 (4 * k))
      s.check x = .go → s.kindOf x.addrs = some .ram →
      ∃ t, exec i s = .next t ∧ t.pc = s.pc + 4 ∧ KeepsMemory s t ∧
        (if upper then (t.upperBlock 0).tail = ((List.range 16).map w).drop 2
          else t.lowerBlock = ((List.range 16).map w).drop 1) ∧
        Kept s t (if upper then upperData else lowerData) (if upper then upperAddr else lowerAddr) [.pc])

/-! ## System instructions -/

/-- NOP in both lengths, DSYNC, and DEBUG while debug is off or no software debug event is enabled, advance the pc and
change nothing else (42 R467, R460, R469, 45 R624). That DSYNC has nothing to wait for is the model's choice
(notes/assumptions/20.md). -/
def Obligations.no_operations : Prop :=
  ∀ (s : State) (i : Instr) (len : Nat),
    (i = .nop ∧ len = 4) ∨ (i = .nop16 ∧ len = 2) ∨ (i = .dsync ∧ len = 4) ∨
      (((i = .debug ∧ len = 4) ∨ (i = .debug16 ∧ len = 2)) ∧ (s.debugOn = false ∨ bit (s.dbg .swevt) 0 = false)) →
    exec i s = .next { s with pc := s.pc + BitVec.ofNat 32 len }

/-- ISYNC ends every open CSFR update and changes nothing else: from the next instruction on each register governs
with the value last written (42 R459, 70 R950). -/
def Obligations.instruction_synchronisation : Prop :=
  ∀ s : State, ∃ t, exec .isync s = .next t ∧ t.pc = s.pc + 4 ∧ (∀ r c u, t.eff r c u = t.raw r c) ∧ KeepsMemory s t ∧
    t = { s with pc := t.pc, window := [] }

/-- ENABLE, DISABLE, DISABLE D[a] and RESTORE complete where the mode may change ICR.IE: ICR.IE, the old one in D[a]
for DISABLE D[a], nothing else (42 R461 to R463). What the spec marks 'from general knowledge' in these rules is no
sentence of the manual (notes/assumptions/1.md). -/
def Obligations.interrupt_enable : Prop :=
  ∀ (s : State) (i : Instr) (a : Reg) (ie : Bool), s.mayChangeIe = true →
    (i = .enable ∧ ie = true) ∨ (i = .disable ∧ ie = false) ∨ (i = .disableD a ∧ ie = false) ∨
      (i = .restore a ∧ ie = (s.getD a).getLsbD 0) →
    ∃ t, exec i s = .next t ∧ t.pc = s.pc + 4 ∧ icrIe (t.raw s.res .icr) = ie ∧
      icrCcpn (t.raw s.res .icr) = icrCcpn (s.raw s.res .icr) ∧ icrPipn (t.raw s.res .icr) = icrPipn (s.raw s.res .icr) ∧
      (i = .disableD a → t.getD a = if icrIe (s.raw s.res .icr) then 1 else 0) ∧ KeepsMemory s t ∧
      Kept s t (if i = .disableD a then [a] else []) [] [.pc, .icr, .sys (icrOf s.vm)]

/-- What a mode may not run takes PRIV: the instructions that change ICR.IE in User-0, in the reserved mode 11B, and in
User-1 where CORECON.U1_IED is 1; MTCR, BISR, RFM, the cache instructions by index, and MTDCR with a good pair in any
mode but Supervisor; RFH in a guest (60 R903, 46 R716). The table of R903 is partly 'from general knowledge' (92 D13),
11B as User-0 is 93 U20, and RFH is decision D33 of 92_eei_decisions (notes/assumptions/41.md). -/
def Obligations.privileged_instructions : Prop :=
  ∀ (s : State) (i : Instr) (a : Reg) (k9 : BitVec 9) (k8 : BitVec 8) (k16 : BitVec 16),
    (s.io = 0 ∨ s.io = 3 ∨ (s.io = 1 ∧ bit (s.ctl (.rep .corecon) .priv) 16 = true) →
      (i = .enable ∨ i = .disable ∨ i = .disableD a ∨ i = .restore a) → exec i s = .next (s.takeTrap 1 1 s.pc)) ∧
    (s.supervisor = false → (∀ x, moveForm i = some x → s.NoMoveEvent x.1) →
      i = .mtcr k16 a ∨ i = .bisr k9 ∨ i = .bisr16 k8 ∨ i = .rfm ∨ (i = .mtdcr k16 a ∧ a.toNat % 2 = 0) ∨
        (∃ m, cacheForm i = some (m, true)) →
      exec i s = .next (s.takeTrap 1 1 s.pc)) ∧
    (s.cfg.hasVirt = true → s.cvmn ≠ 0 → exec .rfh s = .next (s.takeTrap 1 1 s.pc))

/-- The system calls. SYSCALL takes SYS with the low 8 bits of its constant as the TIN and the next instruction as the
return address (42 R464, 60 R839). HVCALL raises IOPC on a core without virtualization, is a NOP while it is off, and
else takes the hypervisor trap HT(0, const8) with the next instruction as the return address (46 R722). That the low 8
of the 9 bits of SYSCALL's constant count is general knowledge (30 R305, R315, notes/assumptions/1.md); the first two
cases of HVCALL and the call of the hypervisor itself are decision D33 of 92_eei_decisions. -/
def Obligations.system_calls : Prop :=
  ∀ (s : State) (k : BitVec 9) (n : BitVec 8),
    exec (.syscall k) s = .next (s.takeTrap 6 (k.setWidth 8) (s.pc + 4)) ∧
    (s.cfg.hasVirt = false → exec (.hvcall n) s = .next (s.takeTrap 2 1 s.pc)) ∧
    (s.cfg.hasVirt = true → s.virtOn = false → exec (.hvcall n) s = .next { s with pc := s.pc + 4 }) ∧
    (s.virtOn = true → exec (.hvcall n) s = .next (s.takeHvTrap 0 (n.setWidth 32) (s.pc + 4)))

/-- The traps on overflow and the trap on an invalid opcode: TRAPV and TRAPSV take OVF and SOVF where V and SV are 1,
with their own address as the return address, and otherwise only advance the pc; TRAPINV always takes IOPC (42 R465,
R466, R476). -/
def Obligations.overflow_and_invalid_traps : Prop :=
  ∀ s : State,
    (bit s.psw 30 = true → exec .trapv s = .next (s.takeTrap 5 1 s.pc)) ∧
    (bit s.psw 30 = false → exec .trapv s = .next { s with pc := s.pc + 4 }) ∧
    (bit s.psw 29 = true → exec .trapsv s = .next (s.takeTrap 5 2 s.pc)) ∧
    (bit s.psw 29 = false → exec .trapsv s = .next { s with pc := s.pc + 4 }) ∧
    exec .trapinv s = .next (s.takeTrap 2 1 s.pc)

/-- The map of the core registers, and the reads. An offset whose two low bits are 0 names exactly the register that
the table of offsets gives (10_state R105). MFCR of a register, and MFDCR of an aligned pair, complete in every mode
while no debug event of the move is due, for a guest where it may read: each data register takes what the register of
its offset reads as, the lower offset's D[c]; what the FPU has captured reads as any value while TST is 0
(notes/assumptions/30.md); a read of TRIG_ACC leaves it 0, and nothing else changes (42 R450, R453, 45 R670, 46 R726).
Where one register of a pair does not exist and the configuration does not say OPD, the data register of the other
takes its value and that of the missing one any value (93 U16). The hypervisor's selector of HRA or HRB reads that
resource, its global address registers too (46 R705, R706). CORE_ID and TCCON report the configuration and the running
machine (10_state R60, R62). That every mode may read is decision D13 of 92_eei_decisions, the selector of a single
register decision D31, the length of MFDCR is notes/assumptions/23.md, and its form E[c] is general knowledge
(notes/assumptions/1.md). -/
def Obligations.reads_of_core_registers : Prop :=
  ∀ (s : State) (c : Reg) (off : BitVec 16),
    let o := (off &&& 0xFFFC#16).toNat
    let sel := off.extractLsb' 0 2
    let has := fun (o : Nat) (x : Csfr) => csfrOffset s.cfg x = some o ∨ (sel ≠ 0 ∧ ∃ n, x = .ga n ∧ globalOffset n = o)
    let cleared := fun xs : List Csfr => if .sys .trigAcc ∈ xs then [.pc, .sys .trigAcc] else [Csfr.pc]
    (∀ x, sel = 0 → (s.moveReg off o = some x ↔ csfrOffset s.cfg x = some o)) ∧
    (∀ q, (sel = 0 ∧ q = s.res) ∨ (s.virtOn = true ∧ s.res = .hv ∧ ((sel = 1 ∧ q = .a) ∨ (sel = 2 ∧ q = .b))) →
      s.NoMoveEvent off → s.cvmn = 0 ∨ hyperOffset o = false → s.GuestReads o →
      (∀ x, has o x →
        ∃ t, exec (.mfcr c off) s = .next t ∧ t.pc = s.pc + 4 ∧ s.ReadsAs q x (t.getD c) ∧
          (x = .sys .trigAcc → t.getSys .trigAcc = 0) ∧
          (x = .coreId → field (t.getD c) 0 3 = s.cfg.coreId ∧
            field (t.getD c) 8 3 = if s.cfg.hasVirt ∧ bit (s.getSys .vcon0) 0 then s.cvmn else 1) ∧
          (x = .tccon → bit (t.getD c) 0 = s.cfg.hasSpFpu ∧ bit (t.getD c) 1 = s.cfg.hasDpFpu ∧
            bit (t.getD c) 2 = s.cfg.tcconOvl ∧ bit (t.getD c) 3 = (s.cfg.hasVirt && bit (s.getSys .vcon0) 0)) ∧
          KeepsMemory s t ∧ Kept s t [c] [] (cleared [x])) ∧
      (c.toNat % 2 = 0 → off.getLsbD 2 = false → s.GuestReads (o + 4) →
        (∀ x y, has o x → has (o + 4) y →
          ∃ t, exec (.mfdcr c off) s = .next t ∧ t.pc = s.pc + 4 ∧ s.ReadsAs q x (t.getD c) ∧
            s.ReadsAs q y (t.getD (c + 1)) ∧ (.sys .trigAcc ∈ [x, y] → t.getSys .trigAcc = 0) ∧ KeepsMemory s t ∧
            Kept s t [c, c + 1] [] (cleared [x, y])) ∧
        (∀ x, s.cfg.halfPairOpd = false →
          (has o x ∧ ∀ y, ¬ has (o + 4) y) ∨ (has (o + 4) x ∧ ∀ y, ¬ has o y) →
          ∃ t, exec (.mfdcr c off) s = .next t ∧ t.pc = s.pc + 4 ∧
            (has o x → s.ReadsAs q x (t.getD c)) ∧ (has (o + 4) x → s.ReadsAs q x (t.getD (c + 1))) ∧
            (x = .sys .trigAcc → t.getSys .trigAcc = 0) ∧ KeepsMemory s t ∧
            Kept s t [c, c + 1] [] (cleared [x]))))

/-- MTCR to a replicated register without a rule of its own, and MTDCR to an aligned pair of such registers, complete
in Supervisor mode while the register is open to writes and no debug event of the move is due, for a guest where it may
write (46 R726; that it may not write a debug register is decision D26 of 92_eei_decisions): the software-writable bits
take D[a] (and D[a+1] for the upper offset), the others stay, the update is open until the next synchronising event,
and nothing else changes (42 R452, R454, R457, 70 R950). From HRHV with the selector of HRA or HRB the write reaches
that resource, and the bits that only hardware writes as well (46 R705, R707). Some bits are software-writable by the
model's choice only: BIV bit 0, which R457 lists as not writable (notes/assumptions/46.md); COMPAT and SMACON, whose
fields the spec does not give, as plain storage (notes/assumptions/27.md), and PCON, DCON and PMA likewise, without a
cache behind them (notes/assumptions/21.md). That the old value may still govern is notes/assumptions/7.md, MTDCR's
length notes/assumptions/23.md, its pair form notes/assumptions/1.md, its order notes/assumptions/47.md. -/
def Obligations.writes_of_core_registers : Prop :=
  ∀ (s : State) (a : Reg) (off : BitVec 16) (x : RepReg), s.GuestWrites off.toNat → s.NoMoveEvent off →
    s.supervisor = true → hyperOffset off.toNat = false → s.closed (.rep x) = false →
    (s.moveReg off off.toNat = some (.rep x) → plainWrite x = true →
      (x.layout s.cfg).reserved &&& s.getD a = 0 → off.extractLsb' 0 2 = 0 →
      ∃ t, exec (.mtcr off a) s = .next t ∧ t.pc = s.pc + 4 ∧
        t.getRep s.res x = merge (x.layout s.cfg).rw (s.getD a) (s.getRep s.res x) ∧
        (∀ r, r ≠ s.res → t.getRep r x = s.getRep r x) ∧
        t.stale s.res (.rep x) = s.getRep s.res x :: s.stale s.res (.rep x) ∧
        KeepsMemory s t ∧ Kept s t [] [] [.pc, .rep x]) ∧
    (∀ y, s.moveReg off off.toNat = some (.rep x) → plainWrite x = true →
      (x.layout s.cfg).reserved &&& s.getD a = 0 → a.toNat % 2 = 0 → off.extractLsb' 0 3 = 0 →
      s.GuestWrites (off.toNat + 4) → s.moveReg off (off.toNat + 4) = some (.rep y) → x ≠ y → plainWrite y = true → s.closed (.rep y) = false →
      (y.layout s.cfg).reserved &&& s.getD (a + 1) = 0 →
      ∃ t, exec (.mtdcr off a) s = .next t ∧ t.pc = s.pc + 4 ∧
        t.getRep s.res x = merge (x.layout s.cfg).rw (s.getD a) (s.getRep s.res x) ∧
        t.getRep s.res y = merge (y.layout s.cfg).rw (s.getD (a + 1)) (s.getRep s.res y) ∧
        KeepsMemory s t ∧ Kept s t [] [] [.pc, .rep x, .rep y]) ∧
    (∀ q, s.virtOn = true → s.res = .hv → (off.extractLsb' 0 2 = 1 ∧ q = .a) ∨ (off.extractLsb' 0 2 = 2 ∧ q = .b) →
      s.moveReg off (off &&& 0xFFFC#16).toNat = some (.rep x) → plainWrite x = true ∨ statusReg x = true →
      (x.layout s.cfg).reserved &&& s.getD a = 0 →
      ∃ t, exec (.mtcr off a) s = .next t ∧ t.pc = s.pc + 4 ∧
        t.getRep q x = merge ((x.layout s.cfg).rw ||| (x.layout s.cfg).rh) (s.getD a) (s.getRep q x) ∧
        (∀ r, r ≠ q → t.getRep r x = s.getRep r x) ∧ KeepsMemory s t ∧ Kept s t [] [] [.pc, .rep x])

/-- MTCR to a register with a rule of its own completes under the same conditions, a guest's too; what it then holds,
the table of forms says: PSW (and PSW[23:16] are undefined from then on, 10_state R49), PCXI, PPRS, ICR; a timer, whose
TEXP is cleared (60 R911), and TPS_CON, where any write clears TTRAP and requests TAE again while a TEXP is set (R914);
a counter, which a write does not reach while it counts (R922); the trap controls of the FPU (44 R590, R599); the
hypervisor's registers, VCON0 only once (46 R761); the debug registers, HALT in its code (45 R643, R644), and those of
the tool-control protocol (45 R679); BOOTCON, whose write from 1 to 0 starts the core (70 R932); and what software does
not write, which stays. Nothing else changes but what a register shares its storage or its side effect with. No
sentence of the manual are: that VCON0 is locked whole, its NMI field too, decision D34 of 92_eei_decisions; that
DBGSR's HALT and BOOTCON's BHALT are released together by a write to either, R932's own choice; what a write that sets
HALT does to EVTSRC and EVTVMN, derived in R644; PSW bit 15, notes/assumptions/39.md; that CCON keeps what it holds, 93
U6; and that the old value may still govern, notes/assumptions/7.md. -/
def Obligations.writes_of_special_registers : Prop :=
  ∀ (s : State) (a : Reg) (off : BitVec 16) (x : Csfr) (w : Word), s.GuestWrites off.toNat → s.NoMoveEvent off →
    s.supervisor = true → off.extractLsb' 0 2 = 0 → s.cvmn = 0 ∨ hyperOffset off.toNat = false →
    s.moveReg off off.toNat = some x → s.closed x = false → s.reservedHit x (s.getD a) = false →
    specialWrite s (s.getD a) (s.raw s.res x) x = some w →
    ∃ t, exec (.mtcr off a) s = .next t ∧ t.pc = s.pc + 4 ∧ (x ≠ .pc → t.raw s.res x = w) ∧
      t.pswUndef = (s.pswUndef || decide (x = .psw)) ∧
      t.vcon0Written = (s.vcon0Written || decide (x = .sys .vcon0)) ∧
      (∀ n, x = .rep (.tpsTimer n) → t.getRep s.res .tpsCon = setBit (s.getRep s.res .tpsCon) n.val false) ∧
      (x = .sys .dbgsr → t.getSys .bootcon =
        if bit (s.getD a) 2 && !bit (s.getD a) 1 then setBit (s.getSys .bootcon) 0 false else s.getSys .bootcon) ∧
      (x = .sys .bootcon → t.getSys .dbgsr =
        if bit (s.getSys .bootcon) 0 && !bit (s.getD a) 0 then setBit (s.getSys .dbgsr) 1 false else s.getSys .dbgsr) ∧
      KeepsMemory s t ∧ Kept s { t with vcon0Written := s.vcon0Written } [] [] (.pc :: writtenWith s x)

/-! ## Operand traps -/

/-- Bad operands. An odd specifier of a register pair and a quad specifier that is no multiple of four take OPD in
every instruction, where the core has that trap (60 R829), and are refused where it does not (93 U13). A move of core
registers takes OPD where its selector or its alignment is wrong, where no register is at its offset, and where the
offset is the hypervisor's and another machine runs; a pair of which one register exists takes it where the
configuration says so (93 U16); a guest's move of a register that does not exist, of the hypervisor's own, of the
listed ones, or to a debug register, takes HVCSFR, before these (42 R455, 46 R726). That a guest's write of a debug
register takes HVCSFR is decision D26 of 92_eei_decisions, a reading of R632. A write of a register that is closed
takes OPD where the configuration says so, and is dropped where not (42 R456, decision D19). -/
def Obligations.operand_traps : Prop :=
  ∀ (s : State) (i : Instr),
    (i.wellFormed = false → s.cfg.hasOpdTrap = true → exec i s = .next (s.takeTrap 2 3 s.pc)) ∧
    (i.wellFormed = false → s.cfg.hasOpdTrap = false → ∃ r, exec i s = .refused (.badOperand r)) ∧
    (∀ (off : BitVec 16) (pair write : Bool), moveForm i = some (off, pair, write) → i.wellFormed = true →
      s.NoMoveEvent off → (write = true → s.supervisor = true) →
      let o := (off &&& 0xFFFC#16).toNat
      let absent := s.moveReg off o = none ∧ (pair = true → s.moveReg off (o + 4) = none)
      let half := pair = true ∧ s.cfg.halfPairOpd = true ∧ (s.moveReg off o = none ∨ s.moveReg off (o + 4) = none)
      let owned := s.hvOwned o write = true ∨ (pair = true ∧ s.hvOwned (o + 4) write = true)
      let misplaced := (if s.virtOn = true ∧ s.res = .hv then off.extractLsb' 0 2 = 3 else off.extractLsb' 0 2 ≠ 0) ∨
        (pair = true ∧ off.getLsbD 2 = true)
      (s.guest = true → absent ∨ owned →
        exec i s = .next (s.takeHvTrap 4 ((if write then 0x80000000#32 else 0) ||| off.setWidth 32) s.pc)) ∧
      (¬ (s.guest = true ∧ (absent ∨ owned)) →
        misplaced ∨ absent ∨ half ∨ (s.cvmn ≠ 0 ∧ hyperOffset o = true) → exec i s = .next (s.takeTrap 2 3 s.pc))) ∧
    (∀ (a : Reg) (off : BitVec 16) (x : Csfr), i = .mtcr off a → s.NoMoveEvent off → s.supervisor = true →
      s.GuestWrites off.toNat → off.extractLsb' 0 2 = 0 → s.cvmn = 0 ∨ hyperOffset off.toNat = false →
      s.moveReg off off.toNat = some x → s.closed x = true →
      exec i s = .next (if s.cfg.protWriteOpd then s.takeTrap 2 3 s.pc else { s with pc := s.pc + 4 }))

/-- The cache instructions complete where the mode may run them and protection allows the address to be read and
written: the mode's update, nothing else (42 R468). That no cache is modelled, and that an address in another segment
than the base's takes no MEM, is notes/assumptions/21.md. -/
def Obligations.cache_instructions : Prop :=
  ∀ (s : State) (i : Instr) (m : MemOp) (index : Bool), cacheForm i = some (m, index) →
    let r := s.resolve m
    (index = true → s.supervisor = true) → s.mayWrite r.target = true → s.l1Read r.ea = true → s.l1Write r.ea = true →
    ∃ t, exec i s = .next t ∧ t.pc = s.pc + 4 ∧ (∀ n w, r.update = some (n, w) → t.getA n = w) ∧ KeepsMemory s t ∧
      Kept s t [] r.target [.pc]

/-- RFM in Supervisor mode is a NOP outside debug mode; in debug mode it restores PCXI, PSW, A[10] and A[11] from the
debug context, ICR.IE and ICR.CCPN from PCXI, clears DBGTCR.DTA and goes to the A[11] from before (45 R652; decision
D25 of 92_eei_decisions). The order of the steps, and PCXI as the source of the interrupt state, are marked 'from
general knowledge' in R652 (notes/assumptions/1.md). -/
def Obligations.return_from_monitor : Prop :=
  ∀ s : State, s.supervisor = true →
    let dcx := s.getSys .dcx &&& 0xFFFFFFC0#32
    (s.debugMode = false → exec .rfm s = .next { s with pc := s.pc + 4 }) ∧
    (s.debugMode = true → s.window = [] → s.kindOf (span dcx.toNat 16) = some .ram →
      ∃ t, exec .rfm s = .next t ∧ t.pc = s.getA 11 &&& 0xFFFFFFFE#32 ∧ t.pcxi = s.wordAt dcx ∧
        t.psw = s.wordAt (dcx + 4) ∧ t.getA 10 = s.wordAt (dcx + 8) ∧ t.getA 11 = s.wordAt (dcx + 12) ∧
        bit (t.getSys .dbgtcr) 0 = false ∧ icrIe (t.raw s.res .icr) = pcxiPie s.pcxi ∧
        icrCcpn (t.raw s.res .icr) = pcxiPcpn s.pcxi ∧ t.pswUndef = s.pswUndef ∧ KeepsMemory s t ∧
        Kept s t [] [10, 11] [.pc, .psw, .pcxi, .icr, .sys (icrOf s.vm), .sys .dbgtcr])

/-- The breakpoint trap: PCXI, PSW, A[10] and A[11] go to the debug context at DCX, A[11] is the return address, A[10]
the interrupt stack pointer unless it is in use, PCXI takes ICR.IE and ICR.CCPN, PSW is a handler's with the call
depth counter off and its S and upper half unchanged, ICR.IE is 0 with ICR.CCPN and ICR.PIPN unchanged, DBGTCR.DTA is
1, the pc is DMS, nothing else changes (45 R651). That the debug context is stored unchecked is decision D25 of
92_eei_decisions. -/
def Obligations.breakpoint_trap_entry : Prop :=
  ∀ (s : State) (ra : Word), s.window = [] →
    let dcx := s.getSys .dcx &&& 0xFFFFFFC0#32
    s.kindOf (span dcx.toNat 16) = some .ram →
    let t := s.breakpointTrap ra
    t.pc = s.getSys .dms &&& 0xFFFFFFFE#32 ∧ t.getA 11 = ra ∧
      t.getA 10 = (if pswIs s.psw then s.getA 10 else s.getRep s.res .isp) ∧
      HoldsWords t dcx [s.pcxi, s.pswRead, s.getA 10, s.getA 11] ∧ KeepsMemoryBut s t (span dcx.toNat 16) ∧
      t.pcxi = pcxiSetInfo s.pcxi (icrIe (s.raw s.res .icr)) (icrCcpn (s.raw s.res .icr)) ∧
      pswIo t.psw = 0b10#2 ∧ pswPrs t.psw = 0 ∧ pswIs t.psw = true ∧ pswGw t.psw = false ∧ pswCde t.psw = false ∧
      pswCdc t.psw = 0 ∧ bit t.psw 14 = bit s.psw 14 ∧ field t.psw 16 16 = field s.psw 16 16 ∧
      t.pswUndef = s.pswUndef ∧ icrIe (t.raw s.res .icr) = false ∧
      icrCcpn (t.raw s.res .icr) = icrCcpn (s.raw s.res .icr) ∧
      icrPipn (t.raw s.res .icr) = icrPipn (s.raw s.res .icr) ∧ t.getSys .dbgtcr = setBit (s.getSys .dbgtcr) 0 true ∧
      Kept s t [] [10, 11] [.pc, .psw, .pcxi, .icr, .sys (icrOf s.vm), .sys .dbgtcr]

/-- The trigger event unit, with no update of a debug register open. A trigger on the pc is active exactly where TYP is
1 and its address is the pc's; one on an address where TYP is 0, the access loads and ALD is 1 or stores and AST is 1,
and its address is the effective address (45 R628, R629). TRIG_ACC gains the active triggers in debug mode and nothing
else changes (R630, decision D24 of 92_eei_decisions; which address of an access counts is D25). At the boundary where
nothing waits, the lowest trigger that is active on the pc, enabled and break-before-make raises its event in the place
of the instruction: where the action is to halt, the core stops there (R631, R633, R641), and where the event does not
take the machine over, the instruction runs. After an instruction that has ended in no entry
(`step_runs_the_decoded_instruction` has `State.finish`), the lowest enabled break-after-make trigger on its pc raises
its event, else the lowest enabled one on the address of its data access (R628, R631, R633), unless an event of the
instruction has acted (notes/assumptions/35.md) or it has raised FCD, which goes first. The last even trigger of an odd
number of triggers is notes/assumptions/44.md, bit 0 of TRnADR is notes/assumptions/45.md. -/
def Obligations.trigger_event_unit : Prop :=
  ∀ s : State, s.window = [] →
    (∀ (n : Fin 8) (pc : Word), s.pcActive pc n = true ↔ bit (s.getSys (.trEvt n)) 12 = true ∧ s.triggerAt n pc) ∧
    (∀ (n : Fin 8) (loads stores : Bool) (ea : Word), s.dataActive loads stores ea n = true ↔
      bit (s.getSys (.trEvt n)) 12 = false ∧ s.triggerAt n ea ∧
        ((bit (s.getSys (.trEvt n)) 28 = true ∧ loads = true) ∨ (bit (s.getSys (.trEvt n)) 27 = true ∧ stores = true))) ∧
    (∀ active : Fin 8 → Bool,
      (s.debugMode = true → (∀ n : Fin 8, bit ((s.record active).getSys .trigAcc) n.val =
        (bit (s.getSys .trigAcc) n.val || active n)) ∧ Kept s (s.record active) [] [] [.sys .trigAcc] ∧
        KeepsMemory s (s.record active)) ∧
      (s.debugMode = false → s.record active = s)) ∧
    (∀ n : Fin 8, s.schedule = [] → s.halted = false → s.fcdPending = false → s.request = none → s.debugOn = true →
      s.pcActive s.pc n = true → bit (s.getSys (.trEvt n)) 0 = true → bit (s.getSys (.trEvt n)) 3 = true →
      (∀ m : Fin 8, m < n → s.pcActive s.pc m = true → bit (s.getSys (.trEvt m)) 0 = true →
        bit (s.getSys (.trEvt m)) 3 = false) →
      (field (s.getSys .dbgact) 0 3 = 2 →
        ∃ t, step s = .next t ∧ t.halted = true ∧ t.pc = s.pc ∧
          field (t.getSys .dbgsr) 8 5 = 16 + BitVec.ofNat 5 n.val ∧ KeepsMemory s t ∧
          Kept s { t with draws := s.draws, taskGate := s.taskGate, out := s.out } [] [] [.sys .dbgsr, .sys .trigAcc]) ∧
      (let e := s.begin.debugEvent (16 + BitVec.ofNat 5 n.val) (s.getSys (.trEvt n)) s.pc;
        step s = match (if e.2 then .next e.1 else e.1.fetchAndRun) with
          | .next t => .next (t.nextDraw s.draws)
          | .fault f => .fault f
          | .refused r => .refused r)) ∧
    (∀ (i : Instr) (loads stores : Bool) (ea : Word), s.Accesses i loads stores ea →
      ∀ n, s.touchActive i n = s.dataActive loads stores ea n) ∧
    (∀ (i : Instr) (t : State), t.entered = false →
      let ended := (t.count .icnt 1).record (s.touchActive i)
      let onPc := fun n : Fin 8 => s.pcActive s.pc n = true ∧ bit (s.getSys (.trEvt n)) 0 = true ∧
        bit (s.getSys (.trEvt n)) 3 = false
      let onData := fun n : Fin 8 => s.touchActive i n = true ∧ bit (s.getSys (.trEvt n)) 0 = true
      let due := s.debugOn = true ∧ t.evt = false ∧ t.fcdPending = false
      let raises := fun n : Fin 8 => s.finish i t =
        (ended.debugEvent (16 + BitVec.ofNat 5 n.val) (s.getSys (.trEvt n)) ended.pc).1.clock
      (∀ n, due → onPc n → (∀ m, m < n → ¬ onPc m) → raises n) ∧
      (∀ n, due → (∀ m, ¬ onPc m) → onData n → (∀ m, m < n → ¬ onData m) → raises n) ∧
      (¬ due ∨ (∀ n, ¬ onPc n ∧ ¬ onData n) → s.finish i t = ended.clock))

/-! ## Virtualization -/

/-- The entries of the hypervisor from a guest, where HRHV has a CSA for the context: a hypervisor trap, with its HVTIN
in D[15], at the class's entry of BHV (46 R721, R728); an interrupt for the hypervisor, with CCPN the priority taken,
the router told, at HRHV's BIV, and HVINT, with the machine in D[15], at class 1 of BHV (R715, R717, R723); an
asynchronous trap that goes to the hypervisor, its TIN with bit 31 set, at HRHV's BTV (R738). That FCD is due where
HRHV's FCX from before the save is its LCX is notes/assumptions/11.md. -/
def Obligations.hypervisor_entries : Prop :=
  ∀ (s : State) (ra : Word), s.window = [] → s.guest = true → (s.setCvmn 0).saveCheck = .go →
    let ts := bit (s.getRep .hv .corecon) 4
    let is := bit (s.getRep .hv .corecon) 3
    let bhv := s.getSys .bhv &&& 0xFFFFFFFE#32
    (∀ (cls : BitVec 3) (hvtin : Word),
      let t := s.takeHvTrap cls hvtin ra
      HyperEntry s t ra hvtin ts ∧ t.pc = bhv ||| (cls.setWidth 32 <<< 5) ∧ t.out = s.out ∧
        icrCcpn (t.getSys (.vmIcr 0)) = icrCcpn (s.getSys (.vmIcr 0))) ∧
    (∀ pipn : Byte,
      let t := s.takeHvInterrupt pipn
      let biv := s.getRep .hv .biv
      HyperEntry s t s.pc 0x80000000 is ∧
        t.pc = (biv &&& 0xFFFFFFFE#32) ||| (pipn.setWidth 32 <<< (if bit biv 0 then 3 else 5)) ∧
        t.out = .accepted 0 pipn :: s.out ∧ icrCcpn (t.getSys (.vmIcr 0)) = pipn) ∧
    (∀ n : BitVec 3,
      let t := s.takeHvInt n
      HyperEntry s t s.pc (0x80000000#32 ||| n.setWidth 32) is ∧ t.pc = bhv ||| 0x20#32 ∧ t.out = s.out ∧
        icrCcpn (t.getSys (.vmIcr 0)) = icrCcpn (s.getSys (.vmIcr 0))) ∧
    (∀ (cls : BitVec 3) (tin : Byte),
      let t := s.takeTrapInHv cls tin ra
      HyperEntry s t ra (0x80000000#32 ||| tin.setWidth 32) ts ∧
        t.pc = (s.getRep .hv .btv &&& 0xFFFFFFFE#32) ||| (cls.setWidth 32 <<< 5) ∧ t.out = s.out)

/-- RFH in the hypervisor completes: the upper context of the machine it returns to comes from the CSA at PCXI, which
goes back to the free list, ICR.IE and ICR.CCPN come back from PCXI, PPRS from the CSA, PRS from PPRS, and VCON2.VMN
becomes the running machine, or VM1 where VCON0.EN is 0 (46 R716, R754); nothing else of the hypervisor changes, nor
the lower context, nor any register of another resource. The conditions taken over from RFE are an inference of the
spec's own (46 R716). Without virtualization it takes IOPC (decision D33 of 92_eei_decisions). -/
def Obligations.return_from_hypervisor : Prop :=
  ∀ s : State,
    (s.cfg.hasVirt = false → exec .rfh s = .next (s.takeTrap 2 1 s.pc)) ∧
    (s.window = [] → s.cfg.hasVirt = true → s.cvmn = 0 → s.vcon0Written = true → pcx s.pcxi ≠ 0 →
      pcxiUl s.pcxi = true → (cdcCounts s.psw = true → cdcZero s.psw = true) → s.restoreCheck .upper = .go →
      let icr := fun u : State => u.getSys (.vmIcr 0)
      ∃ t, exec .rfh s = .next t ∧ t.pc = s.getA 11 &&& 0xFFFFFFFE#32 ∧
        t.cvmn = (if bit (s.getSys .vcon0) 0 then field (s.getSys .vcon2) 0 3 else 1) ∧
        UpperFromCsa s t ∧ RestoresList s t ∧ (∀ r, r ≠ .hv → t.getRep r .fcx = s.getRep r .fcx) ∧
        t.psw = pswSetPrs (s.linkWord 1) (field s.pprs 0 3) ∧ t.pswUndef = s.pswUndef ∧
        field t.pprs 0 3 = pswPrs (s.linkWord 1) ∧
        icrIe (icr t) = pcxiPie s.pcxi ∧ icrCcpn (icr t) = pcxiPcpn s.pcxi ∧ icrPipn (icr t) = icrPipn (icr s) ∧
        (∀ r n, t.raw r (.ga n) = s.raw r (.ga n)) ∧
        Kept s t upperData (upperAddr ++ [0, 1, 8, 9])
          [.pc, .psw, .pcxi, .pprs, .rep .fcx, .icr, .sys (.vmIcr 0), .sys .vcon1, .coreId])

/-! ## Exceptions -/

/-- Entering a trap where the context can be saved: the upper context in the CSA at FCX, A[11] the return address,
D[15] the TIN, A[10] the interrupt stack pointer unless it is in use, PSW as a handler's, ICR.IE off with ICR.CCPN
kept, PPRS the old PRS, the pc at the class's entry of BTV, nothing else but the registers that inform about a trap of
class 4 (60 R840, R841, R845 to R849). The other registers of the upper context hold any value (41 R428,
notes/assumptions/13.md). PIE and DIE are these entries, DIE of a guest the hypervisor's (`hypervisor_entries`), with
the address of the error in PIEAR and DIEAR of the resource of the handler (10_state R75, R77; that the host says the
address is notes/assumptions/60.md, which resource it is notes/assumptions/54.md). -/
def Obligations.trap_entry : Prop :=
  (∀ (s : State) (a : Word),
    let holds := fun (u t : State) (x : RepReg) => t.getRep t.res x = a ∧ t.res = u.res ∧
      (∀ r, r ≠ u.res → t.getRep r x = u.getRep r x) ∧ KeepsMemory u t ∧ Kept u t [] [] [.rep x]
    holds (s.takeTrap 4 5 s.pc) (s.takePie a) .piear ∧ holds (s.takeTrapInHv 4 6 s.pc) (s.takeDie a) .diear ∧
      (s.guest = false → s.takeTrapInHv 4 6 s.pc = s.takeTrap 4 6 s.pc)) ∧
  ∀ (s : State) (cls : BitVec 3) (tin : Byte) (ra : Word), s.window = [] → s.saveCheck = .go →
    let t := s.takeTrap cls tin ra
    t.pc = (s.getRep s.res .btv &&& 0xFFFFFFFE#32) ||| (cls.setWidth 32 <<< 5) ∧ t.getA 11 = ra ∧
      t.getD 15 = tin.setWidth 32 ∧ t.getA 10 = (if pswIs s.psw then s.getA 10 else s.getRep s.res .isp) ∧
      HandlerPsw s.psw t.psw (bit (s.getRep s.res .corecon) 4) ∧ icrIe (t.raw s.res .icr) = false ∧
      icrCcpn (t.raw s.res .icr) = icrCcpn (s.raw s.res .icr) ∧ field t.pprs 0 3 = s.prsOf s.psw ∧
      SavesContext s t true (s.upperBlock (pswSetPrs s.pswRead (field s.pprs 0 3))) ∧
      (∀ r ∈ lowerData, t.getD r = s.getD r) ∧ (∀ r, r ∉ upperAddr → t.getA r = s.getA r) ∧
      Kept s (t.withFcd s) upperData upperAddr
        ([.pc, .psw, .pcxi, .pprs, .rep .fcx, .icr, .sys (icrOf s.vm)] ++ if cls = 4 then
          [.rep .pstr, .rep .dstr, .rep .datr, .rep .deadd, .rep .pietr, .rep .dietr] else [])

/-- Which interrupt is taken at a boundary where nothing else waits and nothing is scheduled: that this boundary is the
one is the empty schedule's (notes/assumptions/9.md; 60 R801 gives no latency). While no guest runs, exactly if ICR.IE
is 1 and PIPN is above CCPN, both unsigned, the running machine's is taken (60 R801). While a guest runs, a machine's
interrupt may be taken if its IE is 1 and its PIPN is above its CCPN and, for another machine, above its threshold (46
R713); one for a guest that does not run enters the hypervisor as HVINT and goes before the others, the running guest's
is taken by itself, the hypervisor's switches to it (R715, R730); among several of one rank it is any (decision D32 of
92_eei_decisions, notes/assumptions/32.md). -/
def Obligations.interrupt_is_taken : Prop :=
  ∀ s : State, s.window = [] → s.schedule = [] → s.halted = false → s.fcdPending = false → s.breakIn = false →
    s.asyncTrap = none →
    (s.guest = false →
      let icr := s.raw s.res .icr
      (s.request.isSome = true ↔ icrIe icr = true ∧ (icrCcpn icr).toNat < (icrPipn icr).toNat) ∧
      (s.request.isSome = true → step s = .next ((s.takeInterrupt (icrPipn icr)).nextDraw s.draws))) ∧
    (s.guest = true →
      let icr := fun n : BitVec 3 => s.getSys (.vmIcr n.toFin)
      let take := fun n : BitVec 3 => icrIe (icr n) = true ∧ (icrCcpn (icr n)).toNat < (icrPipn (icr n)).toNat ∧
        (n = s.cvmn ∨ (field (s.getSys (.vmPeThresh n.toFin)) 0 8).toNat < (icrPipn (icr n)).toNat)
      (s.request = none ↔ ∀ n, ¬ take n) ∧
      ((∃ n, n ≠ 0 ∧ n ≠ s.cvmn ∧ take n) →
        ∃ n, n ≠ 0 ∧ n ≠ s.cvmn ∧ take n ∧ step s = .next ((s.takeHvInt n).nextDraw s.draws)) ∧
      ((∀ n, n ≠ 0 → n ≠ s.cvmn → ¬ take n) → take 0 ∨ take s.cvmn →
        (take s.cvmn ∧ step s = .next ((s.takeInterrupt (icrPipn (icr s.cvmn))).nextDraw s.draws)) ∨
          (take 0 ∧ step s = .next ((s.takeHvInterrupt (icrPipn (icr 0))).nextDraw s.draws))))

/-- Entering an interrupt where the context can be saved: as a trap, with D[15] = 0, CCPN the priority taken, the old
IE and CCPN in PCXI, PSW.S from CORECON.IS, PPRS the old PRS, the router told, the pc at the vector of BIV, whose
spacing BIV.VSS selects, nothing else (60 R805, R806, R792). The other registers of the upper context hold any value
(41 R428, notes/assumptions/13.md). -/
def Obligations.interrupt_entry : Prop :=
  ∀ (s : State) (pipn : Byte), s.window = [] → s.saveCheck = .go →
    let t := s.takeInterrupt pipn
    let biv := s.getRep s.res .biv
    t.pc = (biv &&& 0xFFFFFFFE#32) ||| (pipn.setWidth 32 <<< (if bit biv 0 then 3 else 5)) ∧ t.getA 11 = s.pc ∧
      t.getD 15 = 0 ∧ t.getA 10 = (if pswIs s.psw then s.getA 10 else s.getRep s.res .isp) ∧
      HandlerPsw s.psw t.psw (bit (s.getRep s.res .corecon) 3) ∧ icrIe (t.raw s.res .icr) = false ∧
      icrCcpn (t.raw s.res .icr) = pipn ∧ icrPipn (t.raw s.res .icr) = icrPipn (s.raw s.res .icr) ∧
      field t.pprs 0 3 = s.prsOf s.psw ∧ t.out = .accepted s.vm.toFin pipn :: s.out ∧
      SavesContext s t true (s.upperBlock (pswSetPrs s.pswRead (field s.pprs 0 3))) ∧
      (∀ r ∈ lowerData, t.getD r = s.getD r) ∧ (∀ r, r ∉ upperAddr → t.getA r = s.getA r) ∧
      Kept s ((t.withFcd s).withOut s) upperData upperAddr
        [.pc, .psw, .pcxi, .pprs, .rep .fcx, .icr, .sys (icrOf s.vm)]

/-- A context save with an empty free list, and one whose CSA is no ordinary memory, which of a guest's level 2
permits, takes FCU before every other exception (41 R395, R408, 60 R834, R842): CALL, SVLCX, BISR in Supervisor mode in
both lengths, SYSCALL, every trap entry and every interrupt entry end in Supervisor mode at the class 3 entry of BTV
with D[15] = 4, the interrupt stack, protection set 0, PSW.S from CORECON.TS, ICR.IE off and ICR.CCPN kept. Memory is
unchanged but for the CSA that was to be written, which holds any value (93 U14, notes/assumptions/12.md). A restore
from such a CSA, in RET, RFE, RSLCX and RFH where their other checks pass, takes FCU too (41 R395, 20 R262), and may
lose the CSA's link word. An entry of the hypervisor from a guest for which HRHV has no CSA ends in the same FCU in the
hypervisor, at HRHV's BTV (46 R729; for an interrupt, for HVINT and for an asynchronous trap that is an inference of
the spec's own). -/
def Obligations.empty_free_list_takes_fcu : Prop :=
  ∀ s : State, s.window = [] →
    let bad := fun (u : State) (ptr : BitVec 20) =>
      ¬ u.DeniesCsa ptr 0 ∧ ¬ u.DeniesCsa ptr 1 ∧ u.csaUsable ptr = false
    let stuck := fun u : State => u.fcx = 0 ∨ bad u u.fcx
    let fcuBut := fun (lost : List Nat) (u t : State) => t.pc = (u.getRep u.res .btv &&& 0xFFFFFFFE#32) ||| 0x60#32 ∧ t.getD 15 = 4 ∧
      t.getA 10 = (if pswIs u.psw then t.getA 10 else u.getRep u.res .isp) ∧ pswIo t.psw = 0b10#2 ∧
      pswPrs t.psw = 0 ∧ bit t.psw 14 = bit (u.getRep u.res .corecon) 4 ∧ icrIe (t.raw u.res .icr) = false ∧
      icrCcpn (t.raw u.res .icr) = icrCcpn (u.raw u.res .icr) ∧
      KeepsMemoryBut u t lost
    let fcu := fun u : State => fcuBut (if u.fcx = 0 then [] else span (csaEa u.fcx).toNat 64) u
    (∀ i : Instr, pcx s.pcxi ≠ 0 → bad s (pcx s.pcxi) →
      let depth := cdcCounts s.psw = true
      let zero := cdcZero s.psw = true
      (pcxiUl s.pcxi = true ∧ ((i = .ret ∨ i = .ret16) ∧ ¬ (depth ∧ zero) ∨
          ((i = .rfe ∨ i = .rfe16 ∨ (i = .rfh ∧ s.cfg.hasVirt = true ∧ s.cvmn = 0 ∧ s.vcon0Written = true)) ∧
            (depth → zero)))) ∨ (pcxiUl s.pcxi = false ∧ i = .rslcx) →
      ∃ t, exec i s = .next t ∧ fcuBut (span (csaEa (pcx s.pcxi)).toNat 4) s t) ∧
    (stuck s →
      (∀ i : Instr, (∃ l a, callForm s i = some (l, a)) ∨ i = .svlcx ∨
          (s.supervisor = true ∧ ((∃ k, i = .bisr k) ∨ ∃ k, i = .bisr16 k)) ∨ (∃ k, i = .syscall k) →
        ∃ t, exec i s = .next t ∧ fcu s t) ∧
      (∀ cls tin ra, fcu s (s.takeTrap cls tin ra)) ∧ (∀ pipn, fcu s (s.takeInterrupt pipn))) ∧
    (s.guest = true →
      let h := s.setCvmn 0
      stuck h →
      (∀ cls hvtin ra, fcu h (s.takeHvTrap cls hvtin ra) ∧ (s.takeHvTrap cls hvtin ra).cvmn = 0) ∧
      (∀ cls tin ra, fcu h (s.takeTrapInHv cls tin ra) ∧ (s.takeTrapInHv cls tin ra).cvmn = 0) ∧
      (∀ pipn, fcu h (s.takeHvInterrupt pipn) ∧ (s.takeHvInterrupt pipn).cvmn = 0) ∧
      (∀ n, fcu h (s.takeHvInt n) ∧ (s.takeHvInt n).cvmn = 0))

/-- The asynchronous traps in their order: NMI, DAE, CAE, TAE, DIE, each clearing its request, with the next
instruction as the return address; TAE is class 4 TIN 7, sets TPS_CON.TTRAP and clears TPEND (60 R850, R853, R913). Of
a guest DAE and DIE, and NMI where VCON0.NMI is 1, go to the hypervisor, the others and NMI where it is 0 to the guest
(46 R737, R738). A boundary where nothing is scheduled, no FCD is due and no external event waits takes them, and FCD
goes before everything else: after a save that used the CSA of LCX, CORECON.FCDSF is set and the trap is taken with the
pc reached as the return address (60 R832, 41 R407). DIE also records the address of its error (`trap_entry`); that it
is asynchronous is notes/assumptions/40.md; that the request counts as taken, and TTRAP and FCDSF are set, also where a
level-2 trap on the guest's CSA replaces the entry is notes/assumptions/52.md. -/
def Obligations.asynchronous_traps_in_order : Prop :=
  ∀ s : State,
    let tpsCon := s.getRep s.res .tpsCon
    let tae := bit tpsCon 17
    let nmiInHv := bit (s.eff .hv (.sys .vcon0) .irq) 1 = true
    let takes := fun (u : State) (hv : Prop) (cls : BitVec 3) (tin : Byte) =>
      (s.guest = true → hv → s.asyncTrap = some (u.takeTrapInHv cls tin s.pc)) ∧
        (¬ (s.guest = true ∧ hv) → s.asyncTrap = some (u.takeTrap cls tin s.pc))
    (s.pendNmi = true → takes { s with pendNmi := false } nmiInHv 7 0) ∧
    (s.pendNmi = false → s.pendDae = true → takes { s with pendDae := false } True 4 3) ∧
    (s.pendNmi = false → s.pendDae = false → s.pendCae = true → takes { s with pendCae := false } False 4 4) ∧
    (s.pendNmi = false → s.pendDae = false → s.pendCae = false → tae = true →
      ∃ u, u.getRep s.res .tpsCon = setBit (setBit tpsCon 16 true) 17 false ∧
        (∀ r, r ≠ s.res → u.getRep r .tpsCon = s.getRep r .tpsCon) ∧ Kept s u [] [] [.rep .tpsCon] ∧ KeepsMemory s u ∧
        takes u False 4 7) ∧
    (s.pendNmi = false → s.pendDae = false → s.pendCae = false → tae = false → ∀ a, s.pendDie = some a →
      s.asyncTrap = some ({ s with pendDie := none }.takeDie a)) ∧
    (s.pendNmi = false → s.pendDae = false → s.pendCae = false → tae = false → s.pendDie = none →
      s.asyncTrap = none) ∧
    (s.schedule = [] → s.halted = false →
      (s.fcdPending = false → s.breakIn = false →
        ∀ t, s.asyncTrap = some t → step s = .next (t.nextDraw s.draws)) ∧
      (s.fcdPending = true →
        ∃ u, u.getRep s.res .corecon = setBit (s.getRep s.res .corecon) 0 true ∧
          (∀ r, r ≠ s.res → u.getRep r .corecon = s.getRep r .corecon) ∧ u.fcdPending = false ∧
          Kept (s.withFcd u) u [] [] [.rep .corecon] ∧ KeepsMemory s u ∧
          step s = .next ((u.takeTrap 3 1 s.pc).nextDraw s.draws)))

/-- A running timer counts down by one each cycle; from one to zero it sets its TEXP, and TPEND unless TTRAP is set
(60 R912, R913; decisions D35 and D37 of 92_eei_decisions). While a counter counts, CE set and in task mode the gate
open (R921), CCNT gains one in each cycle, ICNT one for each instruction that completes and none for one that ends in
an entry, modulo 2^31 with bit 31 sticky (R922, R923); else they stay. That a step is one cycle is
notes/assumptions/10.md, that an entry does not count is the model's reading of R923. -/
def Obligations.timers_and_counters : Prop :=
  ∀ s : State,
    (∀ x : Fin 3, bit (s.ctl (.rep .corecon) .count) 2 = true → s.getRep s.res (.tpsTimer x) ≠ 0 →
      let v := s.getRep s.res (.tpsTimer x)
      let con := s.getRep s.res .tpsCon
      let t := s.tickTimer x
      t.getRep s.res (.tpsTimer x) = v - 1 ∧
        (v = 1 → bit (t.getRep s.res .tpsCon) x.val = true ∧
          bit (t.getRep s.res .tpsCon) 17 = (bit con 17 || !bit con 16)) ∧
        (v ≠ 1 → t.getRep s.res .tpsCon = con)) ∧
    (s.window = [] →
      let cctrl := s.getRep s.res .cctrl
      let counts := bit cctrl 1 = true ∧ (bit cctrl 0 = true → s.taskGate = true)
      Counted (s.getRep s.res .ccnt) ((s.tick).getRep s.res .ccnt) (if counts then 1 else 0) ∧
        (∀ (i : Instr) (u : State), Counted (s.getRep s.res .icnt) ((u.finish i s).getRep s.res .icnt)
          (if counts ∧ s.entered = false then 1 else 0)))

/-! ## The FPU -/

/-- Every floating-point instruction completes where its unit is present and no trap of it is due: the result, the
flags of R551, nothing else. What the result is, the table of forms says in the model's own operations of a precision
(44 R561); that these round and compute as the spec says is stated in `rounding`, `float_arithmetic`,
`comparisons_and_seeds` and `float_conversions`. UPDFL has no result: PSW[31:24] takes D[a][7:0] under the mask
D[a][15:8] (R586). Operand roles, the layout of CMP and the conversions are marked 'from general knowledge' in the spec
and are no sentence of the manual (notes/assumptions/1.md); QSEED is notes/assumptions/29.md; the readings of ABS, NEG,
MIN, MAX and of FTOHP are decisions D21 and D22 of 92_eei_decisions; that a flag which UPDFL sets to 1 under its mask
counts as asserted for the traps is the model's reading (notes/assumptions/30.md). -/
def Obligations.floating_point : Prop :=
  ∀ s : State,
    (∀ (i : Instr) (f : FpuForm), fpuForm s i = some f → i.wellFormed = true → s.fpuPresent f.dp = true →
      s.fpuSyncDue f.result = false → s.fpuAsyncDue f.result = false →
      ∃ t, exec i s = .next t ∧ t.pc = s.pc + 4 ∧
        (∀ k n, f.dest.dataRegs[k]? = some n → t.getD n = BitVec.ofNat 32 (f.result.value / 2 ^ (32 * k))) ∧
        FpuFlagsSet s.psw t.psw f.result ∧ t.pswUndef = s.pswUndef ∧ KeepsMemory s t ∧
        Kept s t f.dest.dataRegs [] [.pc, .psw]) ∧
    (∀ a : Reg, s.fpuPresent false = true →
      let v := s.getD a
      let due := raisedFlags v
      s.fpuSyncDue due = false → s.fpuAsyncDue due = false →
      ∃ t, exec (.updfl a) s = .next t ∧ t.pc = s.pc + 4 ∧ FlagsUpdated v s.psw t.psw ∧ t.pswUndef = s.pswUndef ∧
        KeepsMemory s t ∧ Kept s t [] [] [.pc, .psw])

/-- The traps of the floating-point instructions: a core without the unit takes UOPC; an enabled synchronous exception
with nothing captured takes CSE before anything is written but its own capture: flags, rounding mode, opcode and
destination; an enabled asynchronous one completes the instruction, requests CAE, and captures flags, rounding mode,
the pc, opcode and destination, and the operands (44 R520, R561 to R563, R590 to R600, 60 R828). UPDFL takes them as
the flags that it sets to 1 under its mask, and its destination field holds any value (R586: the model's reading,
notes/assumptions/30.md). The operand roles of the table of forms, and with them which operand SRC1, SRC2 and SRC3 are,
are marked 'from general knowledge' in the spec (notes/assumptions/1.md). -/
def Obligations.floating_point_traps : Prop :=
  ∀ (s : State) (i : Instr),
    (∀ f c, fpuForm s i = some f → captureForm s i = some c → i.wellFormed = true →
      (s.fpuPresent f.dp = false → exec i s = .next (s.takeTrap 2 2 s.pc)) ∧
      (s.fpuPresent f.dp = true → s.fpuSyncDue f.result = true →
        ∃ u, exec i s = .next (u.takeTrap 2 6 s.pc) ∧ CapturedSync s u f.dp c.opcode f.result ∧
          field (u.getRep s.res .fpuSyncOpc) 16 4 = c.dest) ∧
      (s.fpuPresent f.dp = true → s.fpuSyncDue f.result = false → s.fpuAsyncDue f.result = true →
        ∃ t, exec i s = .next t ∧ t.pc = s.pc + 4 ∧
          (∀ k n, f.dest.dataRegs[k]? = some n → t.getD n = BitVec.ofNat 32 (f.result.value / 2 ^ (32 * k))) ∧
          FpuFlagsSet s.psw t.psw f.result ∧ t.pswUndef = s.pswUndef ∧
          CapturedAsync s t f.dp c.opcode c.sources f.result ∧ field (t.getRep s.res .fpuTrapOpc) 16 4 = c.dest ∧
          KeepsMemory s t ∧ Kept s { t with pendCae := s.pendCae } f.dest.dataRegs [] ([.pc, .psw] ++ asyncCapture))) ∧
    (∀ f, fpuForm s i = some f → (captureForm s i).isSome = true) ∧
    (∀ a, i = .updfl a →
      let v := s.getD a
      let due := raisedFlags v
      (s.fpuPresent false = false → exec i s = .next (s.takeTrap 2 2 s.pc)) ∧
      (s.fpuPresent false = true → s.fpuSyncDue due = true →
        ∃ u, exec i s = .next (u.takeTrap 2 6 s.pc) ∧ CapturedSync s u false (some (true, 0x0C)) due) ∧
      (s.fpuPresent false = true → s.fpuSyncDue due = false → s.fpuAsyncDue due = true →
        ∃ t, exec i s = .next t ∧ t.pc = s.pc + 4 ∧ FlagsUpdated v s.psw t.psw ∧ t.pswUndef = s.pswUndef ∧
          CapturedAsync s t false (some (true, 0x0C)) [some v.toNat, none, none] due ∧ KeepsMemory s t ∧
          Kept s { t with pendCae := s.pendCae } [] [] ([.pc, .psw] ++ asyncCapture)))

/-- A NaN operand gives the quiet NaN, and FI exactly if an operand is a signaling NaN, in every arithmetic operation
of both precisions: the addend of a multiply-add alone too, and QSEED (44 R526, R530). That ABS, NEG, MIN and MAX do
the same is decision D21 of 92_eei_decisions. -/
def Obligations.nan_operands : Prop :=
  ∀ (p : Precision) (rm : BitVec 2) (d x y approx : Nat) (inexact : Bool), p = .single ∨ p = .double →
    let f := p.fmt
    let quiet := fun (r : FpResult) (xs : List Nat) =>
      r = { value := p.qnan, fi := xs.any f.isSnan }
    (f.isNan x = true ∨ f.isNan y = true →
      quiet (p.add rm x y) [x, y] ∧ quiet (p.sub rm x y) [x, y] ∧ quiet (p.mul rm x y) [x, y] ∧
        quiet (p.div rm x y) [x, y] ∧ quiet (p.min x y) [x, y] ∧ quiet (p.max x y) [x, y]) ∧
    (f.isNan d = true ∨ f.isNan x = true ∨ f.isNan y = true →
      quiet (p.madd rm d x y) [d, x, y] ∧ quiet (p.msub rm d x y) [d, x, y]) ∧
    (f.isNan x = true → quiet (p.abs x) [x] ∧ quiet (p.negate x) [x] ∧ quiet (p.qseed x approx inexact) [x])

/-- Rounding an exact result, in both precisions. A result that is 0 is the zero of its sign, without a flag; which
sign that is the operations say (part 6 of 44_fpu, from general knowledge: notes/assumptions/1.md). Another result:
without an overflow the datum that the mode names, with the sign of the result, inexact exactly where its value
differs; an overflow exactly where the rounded result would exceed the largest finite number, with the value that the
mode gives it (44 R540, R542, R543, R555, R558). Single precision then replaces a subnormal datum by the zero of its
sign, and underflows, inexactly, exactly where the exact result is below the smallest normal number (R527, R528, R544,
R545); double precision keeps it, and underflows where it is also inexact (R531). -/
def Obligations.rounding : Prop :=
  ∀ (p : Precision) (rm : BitVec 2) (x : Exact), p = .single ∨ p = .double → x.den ≠ 0 →
    let f := p.fmt
    let r := x.real
    let q := f.round rm x
    let z := p.round rm x
    (x.num = 0 → z = { value := f.withSign x.neg 0 }) ∧
    (x.num ≠ 0 →
      (q.fv = true ↔ f.Overflows rm r) ∧
      (q.fv = false → f.Rounded rm r q.value ∧ f.neg q.value = x.neg ∧ (q.fx = true ↔ f.real q.value ≠ r)) ∧
      (q.fv = true → q.value = f.overflowValue rm x.neg ∧ q.fx = true) ∧
      z.fv = q.fv ∧ z.fi = false ∧ z.fz = false ∧
      (p = .single → z.value = (if f.isSub q.value then f.withSign x.neg 0 else q.value) ∧
        (z.fu = true ↔ magnitude r < pow2 (-126)) ∧ z.fx = (q.fx || z.fu)) ∧
      (p = .double → z.value = q.value ∧ (z.fu = true ↔ magnitude r < pow2 (-1022) ∧ q.fx = true) ∧ z.fx = q.fx))

/-- Arithmetic without a NaN, in both precisions, subnormal operands of single precision replaced by zeros first (44
R527). Finite operands: the exact sum, difference, product, quotient or fused multiply-add, with one rounding (R541,
R564 to R569, R601 to R606). Infinities and zeros: the invalid operations give their quiet NaN with FI, a finite number
divided by zero the infinity with FZ, everything else is exact (R553, R554, R556). The signs of exact zeros are marked
'from general knowledge' in part 6 of 44_fpu (notes/assumptions/1.md). -/
def Obligations.float_arithmetic : Prop :=
  ∀ (p : Precision) (rm : BitVec 2) (d x y : Nat), p = .single ∨ p = .double →
    let f := p.fmt
    let v := fun a => f.real (p.ftz a)
    let zero := fun a => f.isZero (p.ftz a) = true
    let inf := fun a => f.isInf a = true
    let numeric := fun a => a < 2 ^ (1 + f.expBits + f.fracBits) ∧ f.isNan a = false
    let s := f.neg x != f.neg y
    let rounds := fun (q : FpResult) (r : Rat) (zeroNeg : Bool) =>
      ∃ e : Exact, e.den ≠ 0 ∧ e.real = r ∧ (e.num = 0 → e.neg = zeroNeg) ∧ q = p.round rm e
    let sumSign := fun a b : Bool => if a = b then a else rm == 2
    let invalid := fun (q : FpResult) (origin : Nat) => q = { value := p.qnan + origin, fi := true }
    let exactly := fun (q : FpResult) (value : Nat) => q = { value := value }
    numeric d → numeric x → numeric y →
    (f.finite x → f.finite y →
      rounds (p.add rm x y) (v x + v y) (sumSign (f.neg x) (f.neg y)) ∧
        rounds (p.sub rm x y) (v x - v y) (sumSign (f.neg x) (!f.neg y)) ∧
        rounds (p.mul rm x y) (v x * v y) s ∧ (¬ zero y → rounds (p.div rm x y) (v x / v y) s) ∧
        (zero y → ¬ zero x → p.div rm x y = { value := f.inf s, fz := true }) ∧
        (f.finite d → rounds (p.madd rm d x y) (v d + v x * v y) (sumSign (f.neg d) s) ∧
          rounds (p.msub rm d x y) (v d - v x * v y) (sumSign (f.neg d) (!s))) ∧
        (inf d → exactly (p.madd rm d x y) d ∧ exactly (p.msub rm d x y) d)) ∧
    (inf x → inf y → (f.neg x = f.neg y → exactly (p.add rm x y) x ∧ invalid (p.sub rm x y) 1) ∧
      (f.neg x ≠ f.neg y → invalid (p.add rm x y) 1 ∧ exactly (p.sub rm x y) x) ∧ invalid (p.div rm x y) 8) ∧
    (inf x → f.finite y → exactly (p.add rm x y) x ∧ exactly (p.sub rm x y) x ∧ exactly (p.div rm x y) (f.inf s)) ∧
    (f.finite x → inf y → exactly (p.add rm x y) y ∧ exactly (p.sub rm x y) (f.flip y) ∧
      exactly (p.div rm x y) (f.withSign s 0)) ∧
    (zero x → zero y → invalid (p.div rm x y) 8) ∧
    ((zero x ∧ inf y) ∨ (inf x ∧ zero y) →
      invalid (p.mul rm x y) 2 ∧ invalid (p.madd rm d x y) 2 ∧ invalid (p.msub rm d x y) 2) ∧
    ((inf x ∧ ¬ zero y) ∨ (¬ zero x ∧ inf y) → exactly (p.mul rm x y) (f.inf s) ∧
      (inf d ∧ f.neg d ≠ s → invalid (p.madd rm d x y) 1) ∧
      (¬ (inf d ∧ f.neg d ≠ s) → exactly (p.madd rm d x y) (f.inf s)) ∧
      (inf d ∧ f.neg d = s → invalid (p.msub rm d x y) 1) ∧
      (¬ (inf d ∧ f.neg d = s) → exactly (p.msub rm d x y) (f.inf (!s))))

/-- The comparisons, and what stands outside the arithmetic, in both precisions, subnormal operands as they are. CMP
tells less, equal, greater, unordered, and which operands are subnormal, in bits 0 to 5, with FI exactly for a
signaling NaN (44 R570, R607). Without a NaN: MIN and MAX give the smaller and the larger operand, of two equal ones -0
and +0 (R574, R575), ABS and NEG change the sign alone (R572, R573), none with a flag; QSEED gives the infinity of the
sign of a zero, a subnormal operand of single precision counting as one, the quiet NaN that tells a negative operand
with FI, +0 for +infinity, and else the implementation's approximation, which may be inexact (R571, R608,
notes/assumptions/29.md). The readings of ABS, NEG, MIN and MAX are decision D21 of 92_eei_decisions; the layout of CMP
and QSEED of +infinity are marked 'from general knowledge' (notes/assumptions/1.md). -/
def Obligations.comparisons_and_seeds : Prop :=
  ∀ (p : Precision) (x y approx : Nat) (inexact : Bool), p = .single ∨ p = .double →
    let f := p.fmt
    let sign := 2 ^ (f.expBits + f.fracBits)
    let nan := fun a => f.isNan a = true
    let exactly := fun (q : FpResult) (value : Nat) => q = { value := value }
    let zero := fun a => f.isZero (p.ftz a) = true
    let q := p.cmp x y
    x < 2 * sign → y < 2 * sign →
    (q = { value := q.value, fi := f.isSnan x || f.isSnan y } ∧ q.value < 64 ∧
        (q.value.testBit 0 = true ↔ ¬ nan x ∧ ¬ nan y ∧ f.Below x y) ∧
        (q.value.testBit 1 = true ↔ ¬ nan x ∧ ¬ nan y ∧ ¬ f.Below x y ∧ ¬ f.Below y x) ∧
        (q.value.testBit 2 = true ↔ ¬ nan x ∧ ¬ nan y ∧ f.Below y x) ∧
        (q.value.testBit 3 = true ↔ nan x ∨ nan y) ∧ q.value.testBit 4 = f.isSub x ∧ q.value.testBit 5 = f.isSub y) ∧
    (¬ nan x → ¬ nan y →
      (f.Below x y → exactly (p.min x y) x ∧ exactly (p.max x y) y) ∧
      (f.Below y x → exactly (p.min x y) y ∧ exactly (p.max x y) x) ∧
      (¬ f.Below x y → ¬ f.Below y x →
        exactly (p.min x y) (if sign ≤ x then x else y) ∧ exactly (p.max x y) (if sign ≤ x then y else x))) ∧
    (¬ nan x → exactly (p.abs x) (if sign ≤ x then x - sign else x) ∧
      exactly (p.negate x) (if sign ≤ x then x - sign else x + sign)) ∧
    (¬ nan x →
      (zero x → exactly (p.qseed x approx inexact) (f.withSign (decide (sign ≤ x)) (f.top * 2 ^ f.fracBits))) ∧
      (¬ zero x → sign ≤ x → p.qseed x approx inexact = { value := p.qnan + 4, fi := true }) ∧
      (¬ zero x → x < sign → f.isInf x = true → exactly (p.qseed x approx inexact) 0) ∧
      (¬ zero x → x < sign → f.isInf x = false → p.qseed x approx inexact = { value := approx, fx := inexact }))

/-- The conversions. To an integer, signed and unsigned, of 32 and 64 bits, from both precisions, and to a Q31 fraction
scaled by the exponent in D[b][8:0]: the value rounded in the mode, saturated with FI, 0 with FI for a NaN (44 R576 to
R582, R609 to R617). From an integer or a Q31 fraction: the exact value, which `rounding` rounds; 0 gives +0 (R583 to
R585, R618). From half precision: the same value, exact; to half precision: the datum of the mode, with the quiet NaN
of half precision and FI on overflow and for a NaN, and FU where a result below the smallest normal number is inexact
(R587, R588, decision D22 of 92_eei_decisions). That an infinity becomes the infinity of half precision without a flag
is notes/assumptions/50.md; what the spec marks 'from general knowledge' in these rules is no sentence of the manual
(notes/assumptions/1.md). -/
def Obligations.float_conversions : Prop :=
  ∀ (rm : BitVec 2) (x : Nat),
    let h := FloatFmt.half
    let f := FloatFmt.single
    (∀ p : Precision, p = .single ∨ p = .double →
      ConvertsToInt p rm 0 (-2 ^ 31) (2 ^ 31 - 1) 32 x (p.toI32 rm x) ∧
      ConvertsToInt p rm 0 0 (2 ^ 32 - 1) 32 x (p.toU32 rm x) ∧
      ConvertsToInt p rm 0 (-2 ^ 63) (2 ^ 63 - 1) 64 x (p.toI64 rm x) ∧
      ConvertsToInt p rm 0 0 (2 ^ 64 - 1) 64 x (p.toU64 rm x) ∧
      ∀ k, p.round rm (Exact.ofInt 0 k) = { value := 0 }) ∧
    (∀ (s : State) (a b : Reg), s.q31Exp b = ((s.getD b).extractLsb' 0 9).toInt ∧
      ConvertsToInt .single rm (31 - s.q31Exp b) (-2 ^ 31) (2 ^ 31 - 1) 32 (s.getD a).toNat (s.toQ31 rm a b)) ∧
    (∀ i k : Int, (Exact.ofInt i k).den ≠ 0 ∧ (Exact.ofInt i k).real = i * pow2 k ∧
      (Exact.ofInt i k).neg = decide (i < 0)) ∧
    (x < 2 ^ 16 →
      (h.isNan x = true → halfToSingle x = { value := 0x7FC00000, fi := h.isSnan x }) ∧
      (h.isInf x = true → halfToSingle x = { value := f.withSign (h.neg x) 0x7F800000 }) ∧
      (h.finite x → ∃ v, halfToSingle x = { value := v } ∧ f.finite v ∧ f.real v = h.real x ∧ f.neg v = h.neg x)) ∧
    (x < 2 ^ 32 →
      (f.isNan x = true → singleToHalf rm x = { value := 0x7FE0, fi := f.isSnan x }) ∧
      (f.isInf x = true → singleToHalf rm x = { value := h.withSign (f.neg x) 0x7C00 }) ∧
      (f.finite x →
        let r := f.real x
        let q := singleToHalf rm x
        (h.Overflows rm r → q = { value := 0x7FE0, fi := true }) ∧
        (¬ h.Overflows rm r → h.Rounded rm r q.value ∧ h.neg q.value = f.neg x ∧ (q.fx = true ↔ h.real q.value ≠ r) ∧
          (q.fu = true ↔ magnitude r < pow2 (-14) ∧ q.fx = true) ∧ q.fi = false ∧ q.fv = false ∧ q.fz = false)))

end Statements
end

