-- ==== Sys2Proof/Laws/State.lean ====
section
/-! SUPPORT. The updates of a state, field by field: what each leaves alone, and what it writes. -/

namespace Sys2Proof.Machine

variable (s : State)

/-! ## A data register -/

@[simp] theorem State.setD_cfg (n : Reg) (v : Word) : (s.setD n v).cfg = s.cfg := rfl
@[simp] theorem State.setD_pc (n : Reg) (v : Word) : (s.setD n v).pc = s.pc := rfl
@[simp] theorem State.setD_psw (n : Reg) (v : Word) : (s.setD n v).psw = s.psw := rfl
@[simp] theorem State.setD_pswUndef (n : Reg) (v : Word) : (s.setD n v).pswUndef = s.pswUndef := rfl
@[simp] theorem State.setD_pcxi (n : Reg) (v : Word) : (s.setD n v).pcxi = s.pcxi := rfl
@[simp] theorem State.setD_pprs (n : Reg) (v : Word) : (s.setD n v).pprs = s.pprs := rfl
@[simp] theorem State.setD_ca (n : Reg) (v : Word) : (s.setD n v).ca = s.ca := rfl
@[simp] theorem State.setD_hv (n : Reg) (v : Word) : (s.setD n v).hv = s.hv := rfl
@[simp] theorem State.setD_hra (n : Reg) (v : Word) : (s.setD n v).hra = s.hra := rfl
@[simp] theorem State.setD_hrb (n : Reg) (v : Word) : (s.setD n v).hrb = s.hrb := rfl
@[simp] theorem State.setD_sys (n : Reg) (v : Word) : (s.setD n v).sys = s.sys := rfl
@[simp] theorem State.setD_pendNmi (n : Reg) (v : Word) : (s.setD n v).pendNmi = s.pendNmi := rfl
@[simp] theorem State.setD_pendDae (n : Reg) (v : Word) : (s.setD n v).pendDae = s.pendDae := rfl
@[simp] theorem State.setD_pendCae (n : Reg) (v : Word) : (s.setD n v).pendCae = s.pendCae := rfl
@[simp] theorem State.setD_pendDie (n : Reg) (v : Word) : (s.setD n v).pendDie = s.pendDie := rfl
@[simp] theorem State.setD_breakIn (n : Reg) (v : Word) : (s.setD n v).breakIn = s.breakIn := rfl
@[simp] theorem State.setD_taskGate (n : Reg) (v : Word) : (s.setD n v).taskGate = s.taskGate := rfl
@[simp] theorem State.setD_vcon0Written (n : Reg) (v : Word) : (s.setD n v).vcon0Written = s.vcon0Written := rfl
@[simp] theorem State.setD_endinitOpen (n : Reg) (v : Word) : (s.setD n v).endinitOpen = s.endinitOpen := rfl
@[simp] theorem State.setD_safetyOpen (n : Reg) (v : Word) : (s.setD n v).safetyOpen = s.safetyOpen := rfl
@[simp] theorem State.setD_fcdPending (n : Reg) (v : Word) : (s.setD n v).fcdPending = s.fcdPending := rfl
@[simp] theorem State.setD_fetchError (n : Reg) (v : Word) : (s.setD n v).fetchError = s.fetchError := rfl
@[simp] theorem State.setD_mem (n : Reg) (v : Word) : (s.setD n v).mem = s.mem := rfl
@[simp] theorem State.setD_window (n : Reg) (v : Word) : (s.setD n v).window = s.window := rfl
@[simp] theorem State.setD_draws (n : Reg) (v : Word) : (s.setD n v).draws = s.draws := rfl
@[simp] theorem State.setD_schedule (n : Reg) (v : Word) : (s.setD n v).schedule = s.schedule := rfl
@[simp] theorem State.setD_out (n : Reg) (v : Word) : (s.setD n v).out = s.out := rfl
@[simp] theorem State.setD_entered (n : Reg) (v : Word) : (s.setD n v).entered = s.entered := rfl
@[simp] theorem State.setD_evt (n : Reg) (v : Word) : (s.setD n v).evt = s.evt := rfl

/-! ## The pc past an instruction -/

@[simp] theorem State.advance_cfg (n : Nat) : (s.advance n).cfg = s.cfg := rfl
@[simp] theorem State.advance_psw (n : Nat) : (s.advance n).psw = s.psw := rfl
@[simp] theorem State.advance_pswUndef (n : Nat) : (s.advance n).pswUndef = s.pswUndef := rfl
@[simp] theorem State.advance_pcxi (n : Nat) : (s.advance n).pcxi = s.pcxi := rfl
@[simp] theorem State.advance_pprs (n : Nat) : (s.advance n).pprs = s.pprs := rfl
@[simp] theorem State.advance_d (n : Nat) : (s.advance n).d = s.d := rfl
@[simp] theorem State.advance_ca (n : Nat) : (s.advance n).ca = s.ca := rfl
@[simp] theorem State.advance_hv (n : Nat) : (s.advance n).hv = s.hv := rfl
@[simp] theorem State.advance_hra (n : Nat) : (s.advance n).hra = s.hra := rfl
@[simp] theorem State.advance_hrb (n : Nat) : (s.advance n).hrb = s.hrb := rfl
@[simp] theorem State.advance_sys (n : Nat) : (s.advance n).sys = s.sys := rfl
@[simp] theorem State.advance_pendNmi (n : Nat) : (s.advance n).pendNmi = s.pendNmi := rfl
@[simp] theorem State.advance_pendDae (n : Nat) : (s.advance n).pendDae = s.pendDae := rfl
@[simp] theorem State.advance_pendCae (n : Nat) : (s.advance n).pendCae = s.pendCae := rfl
@[simp] theorem State.advance_pendDie (n : Nat) : (s.advance n).pendDie = s.pendDie := rfl
@[simp] theorem State.advance_breakIn (n : Nat) : (s.advance n).breakIn = s.breakIn := rfl
@[simp] theorem State.advance_taskGate (n : Nat) : (s.advance n).taskGate = s.taskGate := rfl
@[simp] theorem State.advance_vcon0Written (n : Nat) : (s.advance n).vcon0Written = s.vcon0Written := rfl
@[simp] theorem State.advance_endinitOpen (n : Nat) : (s.advance n).endinitOpen = s.endinitOpen := rfl
@[simp] theorem State.advance_safetyOpen (n : Nat) : (s.advance n).safetyOpen = s.safetyOpen := rfl
@[simp] theorem State.advance_fcdPending (n : Nat) : (s.advance n).fcdPending = s.fcdPending := rfl
@[simp] theorem State.advance_fetchError (n : Nat) : (s.advance n).fetchError = s.fetchError := rfl
@[simp] theorem State.advance_mem (n : Nat) : (s.advance n).mem = s.mem := rfl
@[simp] theorem State.advance_window (n : Nat) : (s.advance n).window = s.window := rfl
@[simp] theorem State.advance_draws (n : Nat) : (s.advance n).draws = s.draws := rfl
@[simp] theorem State.advance_schedule (n : Nat) : (s.advance n).schedule = s.schedule := rfl
@[simp] theorem State.advance_out (n : Nat) : (s.advance n).out = s.out := rfl
@[simp] theorem State.advance_entered (n : Nat) : (s.advance n).entered = s.entered := rfl
@[simp] theorem State.advance_evt (n : Nat) : (s.advance n).evt = s.evt := rfl

/-! ## The pc at a target -/

@[simp] theorem State.jump_cfg (a : Word) : (s.jump a).cfg = s.cfg := rfl
@[simp] theorem State.jump_psw (a : Word) : (s.jump a).psw = s.psw := rfl
@[simp] theorem State.jump_pswUndef (a : Word) : (s.jump a).pswUndef = s.pswUndef := rfl
@[simp] theorem State.jump_pcxi (a : Word) : (s.jump a).pcxi = s.pcxi := rfl
@[simp] theorem State.jump_pprs (a : Word) : (s.jump a).pprs = s.pprs := rfl
@[simp] theorem State.jump_d (a : Word) : (s.jump a).d = s.d := rfl
@[simp] theorem State.jump_ca (a : Word) : (s.jump a).ca = s.ca := rfl
@[simp] theorem State.jump_hv (a : Word) : (s.jump a).hv = s.hv := rfl
@[simp] theorem State.jump_hra (a : Word) : (s.jump a).hra = s.hra := rfl
@[simp] theorem State.jump_hrb (a : Word) : (s.jump a).hrb = s.hrb := rfl
@[simp] theorem State.jump_sys (a : Word) : (s.jump a).sys = s.sys := rfl
@[simp] theorem State.jump_pendNmi (a : Word) : (s.jump a).pendNmi = s.pendNmi := rfl
@[simp] theorem State.jump_pendDae (a : Word) : (s.jump a).pendDae = s.pendDae := rfl
@[simp] theorem State.jump_pendCae (a : Word) : (s.jump a).pendCae = s.pendCae := rfl
@[simp] theorem State.jump_pendDie (a : Word) : (s.jump a).pendDie = s.pendDie := rfl
@[simp] theorem State.jump_breakIn (a : Word) : (s.jump a).breakIn = s.breakIn := rfl
@[simp] theorem State.jump_taskGate (a : Word) : (s.jump a).taskGate = s.taskGate := rfl
@[simp] theorem State.jump_vcon0Written (a : Word) : (s.jump a).vcon0Written = s.vcon0Written := rfl
@[simp] theorem State.jump_endinitOpen (a : Word) : (s.jump a).endinitOpen = s.endinitOpen := rfl
@[simp] theorem State.jump_safetyOpen (a : Word) : (s.jump a).safetyOpen = s.safetyOpen := rfl
@[simp] theorem State.jump_fcdPending (a : Word) : (s.jump a).fcdPending = s.fcdPending := rfl
@[simp] theorem State.jump_fetchError (a : Word) : (s.jump a).fetchError = s.fetchError := rfl
@[simp] theorem State.jump_mem (a : Word) : (s.jump a).mem = s.mem := rfl
@[simp] theorem State.jump_window (a : Word) : (s.jump a).window = s.window := rfl
@[simp] theorem State.jump_draws (a : Word) : (s.jump a).draws = s.draws := rfl
@[simp] theorem State.jump_schedule (a : Word) : (s.jump a).schedule = s.schedule := rfl
@[simp] theorem State.jump_out (a : Word) : (s.jump a).out = s.out := rfl
@[simp] theorem State.jump_entered (a : Word) : (s.jump a).entered = s.entered := rfl
@[simp] theorem State.jump_evt (a : Word) : (s.jump a).evt = s.evt := rfl

/-! ## A word to the host -/

@[simp] theorem State.emit_cfg (e : OutEvent) : (s.emit e).cfg = s.cfg := rfl
@[simp] theorem State.emit_pc (e : OutEvent) : (s.emit e).pc = s.pc := rfl
@[simp] theorem State.emit_psw (e : OutEvent) : (s.emit e).psw = s.psw := rfl
@[simp] theorem State.emit_pswUndef (e : OutEvent) : (s.emit e).pswUndef = s.pswUndef := rfl
@[simp] theorem State.emit_pcxi (e : OutEvent) : (s.emit e).pcxi = s.pcxi := rfl
@[simp] theorem State.emit_pprs (e : OutEvent) : (s.emit e).pprs = s.pprs := rfl
@[simp] theorem State.emit_d (e : OutEvent) : (s.emit e).d = s.d := rfl
@[simp] theorem State.emit_ca (e : OutEvent) : (s.emit e).ca = s.ca := rfl
@[simp] theorem State.emit_hv (e : OutEvent) : (s.emit e).hv = s.hv := rfl
@[simp] theorem State.emit_hra (e : OutEvent) : (s.emit e).hra = s.hra := rfl
@[simp] theorem State.emit_hrb (e : OutEvent) : (s.emit e).hrb = s.hrb := rfl
@[simp] theorem State.emit_sys (e : OutEvent) : (s.emit e).sys = s.sys := rfl
@[simp] theorem State.emit_pendNmi (e : OutEvent) : (s.emit e).pendNmi = s.pendNmi := rfl
@[simp] theorem State.emit_pendDae (e : OutEvent) : (s.emit e).pendDae = s.pendDae := rfl
@[simp] theorem State.emit_pendCae (e : OutEvent) : (s.emit e).pendCae = s.pendCae := rfl
@[simp] theorem State.emit_pendDie (e : OutEvent) : (s.emit e).pendDie = s.pendDie := rfl
@[simp] theorem State.emit_breakIn (e : OutEvent) : (s.emit e).breakIn = s.breakIn := rfl
@[simp] theorem State.emit_taskGate (e : OutEvent) : (s.emit e).taskGate = s.taskGate := rfl
@[simp] theorem State.emit_vcon0Written (e : OutEvent) : (s.emit e).vcon0Written = s.vcon0Written := rfl
@[simp] theorem State.emit_endinitOpen (e : OutEvent) : (s.emit e).endinitOpen = s.endinitOpen := rfl
@[simp] theorem State.emit_safetyOpen (e : OutEvent) : (s.emit e).safetyOpen = s.safetyOpen := rfl
@[simp] theorem State.emit_fcdPending (e : OutEvent) : (s.emit e).fcdPending = s.fcdPending := rfl
@[simp] theorem State.emit_fetchError (e : OutEvent) : (s.emit e).fetchError = s.fetchError := rfl
@[simp] theorem State.emit_mem (e : OutEvent) : (s.emit e).mem = s.mem := rfl
@[simp] theorem State.emit_window (e : OutEvent) : (s.emit e).window = s.window := rfl
@[simp] theorem State.emit_draws (e : OutEvent) : (s.emit e).draws = s.draws := rfl
@[simp] theorem State.emit_schedule (e : OutEvent) : (s.emit e).schedule = s.schedule := rfl
@[simp] theorem State.emit_entered (e : OutEvent) : (s.emit e).entered = s.entered := rfl
@[simp] theorem State.emit_evt (e : OutEvent) : (s.emit e).evt = s.evt := rfl

/-! ## The end of the update window -/

@[simp] theorem State.sync_cfg : (s.sync).cfg = s.cfg := rfl
@[simp] theorem State.sync_pc : (s.sync).pc = s.pc := rfl
@[simp] theorem State.sync_psw : (s.sync).psw = s.psw := rfl
@[simp] theorem State.sync_pswUndef : (s.sync).pswUndef = s.pswUndef := rfl
@[simp] theorem State.sync_pcxi : (s.sync).pcxi = s.pcxi := rfl
@[simp] theorem State.sync_pprs : (s.sync).pprs = s.pprs := rfl
@[simp] theorem State.sync_d : (s.sync).d = s.d := rfl
@[simp] theorem State.sync_ca : (s.sync).ca = s.ca := rfl
@[simp] theorem State.sync_hv : (s.sync).hv = s.hv := rfl
@[simp] theorem State.sync_hra : (s.sync).hra = s.hra := rfl
@[simp] theorem State.sync_hrb : (s.sync).hrb = s.hrb := rfl
@[simp] theorem State.sync_sys : (s.sync).sys = s.sys := rfl
@[simp] theorem State.sync_pendNmi : (s.sync).pendNmi = s.pendNmi := rfl
@[simp] theorem State.sync_pendDae : (s.sync).pendDae = s.pendDae := rfl
@[simp] theorem State.sync_pendCae : (s.sync).pendCae = s.pendCae := rfl
@[simp] theorem State.sync_pendDie : (s.sync).pendDie = s.pendDie := rfl
@[simp] theorem State.sync_breakIn : (s.sync).breakIn = s.breakIn := rfl
@[simp] theorem State.sync_taskGate : (s.sync).taskGate = s.taskGate := rfl
@[simp] theorem State.sync_vcon0Written : (s.sync).vcon0Written = s.vcon0Written := rfl
@[simp] theorem State.sync_endinitOpen : (s.sync).endinitOpen = s.endinitOpen := rfl
@[simp] theorem State.sync_safetyOpen : (s.sync).safetyOpen = s.safetyOpen := rfl
@[simp] theorem State.sync_fcdPending : (s.sync).fcdPending = s.fcdPending := rfl
@[simp] theorem State.sync_fetchError : (s.sync).fetchError = s.fetchError := rfl
@[simp] theorem State.sync_mem : (s.sync).mem = s.mem := rfl
@[simp] theorem State.sync_draws : (s.sync).draws = s.draws := rfl
@[simp] theorem State.sync_schedule : (s.sync).schedule = s.schedule := rfl
@[simp] theorem State.sync_out : (s.sync).out = s.out := rfl
@[simp] theorem State.sync_entered : (s.sync).entered = s.entered := rfl
@[simp] theorem State.sync_evt : (s.sync).evt = s.evt := rfl

/-! ## A word of memory -/

@[simp] theorem State.putWord_cfg (a v : Word) : (s.putWord a v).cfg = s.cfg := rfl
@[simp] theorem State.putWord_pc (a v : Word) : (s.putWord a v).pc = s.pc := rfl
@[simp] theorem State.putWord_psw (a v : Word) : (s.putWord a v).psw = s.psw := rfl
@[simp] theorem State.putWord_pswUndef (a v : Word) : (s.putWord a v).pswUndef = s.pswUndef := rfl
@[simp] theorem State.putWord_pcxi (a v : Word) : (s.putWord a v).pcxi = s.pcxi := rfl
@[simp] theorem State.putWord_pprs (a v : Word) : (s.putWord a v).pprs = s.pprs := rfl
@[simp] theorem State.putWord_d (a v : Word) : (s.putWord a v).d = s.d := rfl
@[simp] theorem State.putWord_ca (a v : Word) : (s.putWord a v).ca = s.ca := rfl
@[simp] theorem State.putWord_hv (a v : Word) : (s.putWord a v).hv = s.hv := rfl
@[simp] theorem State.putWord_hra (a v : Word) : (s.putWord a v).hra = s.hra := rfl
@[simp] theorem State.putWord_hrb (a v : Word) : (s.putWord a v).hrb = s.hrb := rfl
@[simp] theorem State.putWord_sys (a v : Word) : (s.putWord a v).sys = s.sys := rfl
@[simp] theorem State.putWord_pendNmi (a v : Word) : (s.putWord a v).pendNmi = s.pendNmi := rfl
@[simp] theorem State.putWord_pendDae (a v : Word) : (s.putWord a v).pendDae = s.pendDae := rfl
@[simp] theorem State.putWord_pendCae (a v : Word) : (s.putWord a v).pendCae = s.pendCae := rfl
@[simp] theorem State.putWord_pendDie (a v : Word) : (s.putWord a v).pendDie = s.pendDie := rfl
@[simp] theorem State.putWord_breakIn (a v : Word) : (s.putWord a v).breakIn = s.breakIn := rfl
@[simp] theorem State.putWord_taskGate (a v : Word) : (s.putWord a v).taskGate = s.taskGate := rfl
@[simp] theorem State.putWord_vcon0Written (a v : Word) : (s.putWord a v).vcon0Written = s.vcon0Written := rfl
@[simp] theorem State.putWord_endinitOpen (a v : Word) : (s.putWord a v).endinitOpen = s.endinitOpen := rfl
@[simp] theorem State.putWord_safetyOpen (a v : Word) : (s.putWord a v).safetyOpen = s.safetyOpen := rfl
@[simp] theorem State.putWord_fcdPending (a v : Word) : (s.putWord a v).fcdPending = s.fcdPending := rfl
@[simp] theorem State.putWord_fetchError (a v : Word) : (s.putWord a v).fetchError = s.fetchError := rfl
@[simp] theorem State.putWord_window (a v : Word) : (s.putWord a v).window = s.window := rfl
@[simp] theorem State.putWord_draws (a v : Word) : (s.putWord a v).draws = s.draws := rfl
@[simp] theorem State.putWord_schedule (a v : Word) : (s.putWord a v).schedule = s.schedule := rfl
@[simp] theorem State.putWord_out (a v : Word) : (s.putWord a v).out = s.out := rfl
@[simp] theorem State.putWord_entered (a v : Word) : (s.putWord a v).entered = s.entered := rfl
@[simp] theorem State.putWord_evt (a v : Word) : (s.putWord a v).evt = s.evt := rfl

/-! ## Bytes of memory -/

@[simp] theorem State.writeAt_cfg (addrs : List Nat) (v : Nat) : (s.writeAt addrs v).cfg = s.cfg := rfl
@[simp] theorem State.writeAt_pc (addrs : List Nat) (v : Nat) : (s.writeAt addrs v).pc = s.pc := rfl
@[simp] theorem State.writeAt_psw (addrs : List Nat) (v : Nat) : (s.writeAt addrs v).psw = s.psw := rfl
@[simp] theorem State.writeAt_pswUndef (addrs : List Nat) (v : Nat) : (s.writeAt addrs v).pswUndef = s.pswUndef := rfl
@[simp] theorem State.writeAt_pcxi (addrs : List Nat) (v : Nat) : (s.writeAt addrs v).pcxi = s.pcxi := rfl
@[simp] theorem State.writeAt_pprs (addrs : List Nat) (v : Nat) : (s.writeAt addrs v).pprs = s.pprs := rfl
@[simp] theorem State.writeAt_d (addrs : List Nat) (v : Nat) : (s.writeAt addrs v).d = s.d := rfl
@[simp] theorem State.writeAt_ca (addrs : List Nat) (v : Nat) : (s.writeAt addrs v).ca = s.ca := rfl
@[simp] theorem State.writeAt_hv (addrs : List Nat) (v : Nat) : (s.writeAt addrs v).hv = s.hv := rfl
@[simp] theorem State.writeAt_hra (addrs : List Nat) (v : Nat) : (s.writeAt addrs v).hra = s.hra := rfl
@[simp] theorem State.writeAt_hrb (addrs : List Nat) (v : Nat) : (s.writeAt addrs v).hrb = s.hrb := rfl
@[simp] theorem State.writeAt_sys (addrs : List Nat) (v : Nat) : (s.writeAt addrs v).sys = s.sys := rfl
@[simp] theorem State.writeAt_pendNmi (addrs : List Nat) (v : Nat) : (s.writeAt addrs v).pendNmi = s.pendNmi := rfl
@[simp] theorem State.writeAt_pendDae (addrs : List Nat) (v : Nat) : (s.writeAt addrs v).pendDae = s.pendDae := rfl
@[simp] theorem State.writeAt_pendCae (addrs : List Nat) (v : Nat) : (s.writeAt addrs v).pendCae = s.pendCae := rfl
@[simp] theorem State.writeAt_pendDie (addrs : List Nat) (v : Nat) : (s.writeAt addrs v).pendDie = s.pendDie := rfl
@[simp] theorem State.writeAt_breakIn (addrs : List Nat) (v : Nat) : (s.writeAt addrs v).breakIn = s.breakIn := rfl
@[simp] theorem State.writeAt_taskGate (addrs : List Nat) (v : Nat) : (s.writeAt addrs v).taskGate = s.taskGate := rfl
@[simp] theorem State.writeAt_vcon0Written (addrs : List Nat) (v : Nat) : (s.writeAt addrs v).vcon0Written = s.vcon0Written := rfl
@[simp] theorem State.writeAt_endinitOpen (addrs : List Nat) (v : Nat) : (s.writeAt addrs v).endinitOpen = s.endinitOpen := rfl
@[simp] theorem State.writeAt_safetyOpen (addrs : List Nat) (v : Nat) : (s.writeAt addrs v).safetyOpen = s.safetyOpen := rfl
@[simp] theorem State.writeAt_fcdPending (addrs : List Nat) (v : Nat) : (s.writeAt addrs v).fcdPending = s.fcdPending := rfl
@[simp] theorem State.writeAt_fetchError (addrs : List Nat) (v : Nat) : (s.writeAt addrs v).fetchError = s.fetchError := rfl
@[simp] theorem State.writeAt_window (addrs : List Nat) (v : Nat) : (s.writeAt addrs v).window = s.window := rfl
@[simp] theorem State.writeAt_draws (addrs : List Nat) (v : Nat) : (s.writeAt addrs v).draws = s.draws := rfl
@[simp] theorem State.writeAt_schedule (addrs : List Nat) (v : Nat) : (s.writeAt addrs v).schedule = s.schedule := rfl
@[simp] theorem State.writeAt_out (addrs : List Nat) (v : Nat) : (s.writeAt addrs v).out = s.out := rfl
@[simp] theorem State.writeAt_entered (addrs : List Nat) (v : Nat) : (s.writeAt addrs v).entered = s.entered := rfl
@[simp] theorem State.writeAt_evt (addrs : List Nat) (v : Nat) : (s.writeAt addrs v).evt = s.evt := rfl

/-! ## The settling of one register -/

@[simp] theorem State.settle_cfg (r : Resource) (c : Csfr) : (s.settle r c).cfg = s.cfg := rfl
@[simp] theorem State.settle_pc (r : Resource) (c : Csfr) : (s.settle r c).pc = s.pc := rfl
@[simp] theorem State.settle_psw (r : Resource) (c : Csfr) : (s.settle r c).psw = s.psw := rfl
@[simp] theorem State.settle_pswUndef (r : Resource) (c : Csfr) : (s.settle r c).pswUndef = s.pswUndef := rfl
@[simp] theorem State.settle_pcxi (r : Resource) (c : Csfr) : (s.settle r c).pcxi = s.pcxi := rfl
@[simp] theorem State.settle_pprs (r : Resource) (c : Csfr) : (s.settle r c).pprs = s.pprs := rfl
@[simp] theorem State.settle_d (r : Resource) (c : Csfr) : (s.settle r c).d = s.d := rfl
@[simp] theorem State.settle_ca (r : Resource) (c : Csfr) : (s.settle r c).ca = s.ca := rfl
@[simp] theorem State.settle_hv (r : Resource) (c : Csfr) : (s.settle r c).hv = s.hv := rfl
@[simp] theorem State.settle_hra (r : Resource) (c : Csfr) : (s.settle r c).hra = s.hra := rfl
@[simp] theorem State.settle_hrb (r : Resource) (c : Csfr) : (s.settle r c).hrb = s.hrb := rfl
@[simp] theorem State.settle_sys (r : Resource) (c : Csfr) : (s.settle r c).sys = s.sys := rfl
@[simp] theorem State.settle_pendNmi (r : Resource) (c : Csfr) : (s.settle r c).pendNmi = s.pendNmi := rfl
@[simp] theorem State.settle_pendDae (r : Resource) (c : Csfr) : (s.settle r c).pendDae = s.pendDae := rfl
@[simp] theorem State.settle_pendCae (r : Resource) (c : Csfr) : (s.settle r c).pendCae = s.pendCae := rfl
@[simp] theorem State.settle_pendDie (r : Resource) (c : Csfr) : (s.settle r c).pendDie = s.pendDie := rfl
@[simp] theorem State.settle_breakIn (r : Resource) (c : Csfr) : (s.settle r c).breakIn = s.breakIn := rfl
@[simp] theorem State.settle_taskGate (r : Resource) (c : Csfr) : (s.settle r c).taskGate = s.taskGate := rfl
@[simp] theorem State.settle_vcon0Written (r : Resource) (c : Csfr) : (s.settle r c).vcon0Written = s.vcon0Written := rfl
@[simp] theorem State.settle_endinitOpen (r : Resource) (c : Csfr) : (s.settle r c).endinitOpen = s.endinitOpen := rfl
@[simp] theorem State.settle_safetyOpen (r : Resource) (c : Csfr) : (s.settle r c).safetyOpen = s.safetyOpen := rfl
@[simp] theorem State.settle_fcdPending (r : Resource) (c : Csfr) : (s.settle r c).fcdPending = s.fcdPending := rfl
@[simp] theorem State.settle_fetchError (r : Resource) (c : Csfr) : (s.settle r c).fetchError = s.fetchError := rfl
@[simp] theorem State.settle_mem (r : Resource) (c : Csfr) : (s.settle r c).mem = s.mem := rfl
@[simp] theorem State.settle_draws (r : Resource) (c : Csfr) : (s.settle r c).draws = s.draws := rfl
@[simp] theorem State.settle_schedule (r : Resource) (c : Csfr) : (s.settle r c).schedule = s.schedule := rfl
@[simp] theorem State.settle_out (r : Resource) (c : Csfr) : (s.settle r c).out = s.out := rfl
@[simp] theorem State.settle_entered (r : Resource) (c : Csfr) : (s.settle r c).entered = s.entered := rfl
@[simp] theorem State.settle_evt (r : Resource) (c : Csfr) : (s.settle r c).evt = s.evt := rfl

/-! ## A resource -/

@[simp] theorem State.setHr_cfg (r : Resource) (h : HrSet) : (s.setHr r h).cfg = s.cfg := by cases r <;> rfl
@[simp] theorem State.setHr_pc (r : Resource) (h : HrSet) : (s.setHr r h).pc = s.pc := by cases r <;> rfl
@[simp] theorem State.setHr_psw (r : Resource) (h : HrSet) : (s.setHr r h).psw = s.psw := by cases r <;> rfl
@[simp] theorem State.setHr_pswUndef (r : Resource) (h : HrSet) : (s.setHr r h).pswUndef = s.pswUndef := by cases r <;> rfl
@[simp] theorem State.setHr_pcxi (r : Resource) (h : HrSet) : (s.setHr r h).pcxi = s.pcxi := by cases r <;> rfl
@[simp] theorem State.setHr_pprs (r : Resource) (h : HrSet) : (s.setHr r h).pprs = s.pprs := by cases r <;> rfl
@[simp] theorem State.setHr_d (r : Resource) (h : HrSet) : (s.setHr r h).d = s.d := by cases r <;> rfl
@[simp] theorem State.setHr_ca (r : Resource) (h : HrSet) : (s.setHr r h).ca = s.ca := by cases r <;> rfl
@[simp] theorem State.setHr_sys (r : Resource) (h : HrSet) : (s.setHr r h).sys = s.sys := by cases r <;> rfl
@[simp] theorem State.setHr_pendNmi (r : Resource) (h : HrSet) : (s.setHr r h).pendNmi = s.pendNmi := by cases r <;> rfl
@[simp] theorem State.setHr_pendDae (r : Resource) (h : HrSet) : (s.setHr r h).pendDae = s.pendDae := by cases r <;> rfl
@[simp] theorem State.setHr_pendCae (r : Resource) (h : HrSet) : (s.setHr r h).pendCae = s.pendCae := by cases r <;> rfl
@[simp] theorem State.setHr_pendDie (r : Resource) (h : HrSet) : (s.setHr r h).pendDie = s.pendDie := by cases r <;> rfl
@[simp] theorem State.setHr_breakIn (r : Resource) (h : HrSet) : (s.setHr r h).breakIn = s.breakIn := by cases r <;> rfl
@[simp] theorem State.setHr_taskGate (r : Resource) (h : HrSet) : (s.setHr r h).taskGate = s.taskGate := by cases r <;> rfl
@[simp] theorem State.setHr_vcon0Written (r : Resource) (h : HrSet) : (s.setHr r h).vcon0Written = s.vcon0Written := by cases r <;> rfl
@[simp] theorem State.setHr_endinitOpen (r : Resource) (h : HrSet) : (s.setHr r h).endinitOpen = s.endinitOpen := by cases r <;> rfl
@[simp] theorem State.setHr_safetyOpen (r : Resource) (h : HrSet) : (s.setHr r h).safetyOpen = s.safetyOpen := by cases r <;> rfl
@[simp] theorem State.setHr_fcdPending (r : Resource) (h : HrSet) : (s.setHr r h).fcdPending = s.fcdPending := by cases r <;> rfl
@[simp] theorem State.setHr_fetchError (r : Resource) (h : HrSet) : (s.setHr r h).fetchError = s.fetchError := by cases r <;> rfl
@[simp] theorem State.setHr_mem (r : Resource) (h : HrSet) : (s.setHr r h).mem = s.mem := by cases r <;> rfl
@[simp] theorem State.setHr_window (r : Resource) (h : HrSet) : (s.setHr r h).window = s.window := by cases r <;> rfl
@[simp] theorem State.setHr_draws (r : Resource) (h : HrSet) : (s.setHr r h).draws = s.draws := by cases r <;> rfl
@[simp] theorem State.setHr_schedule (r : Resource) (h : HrSet) : (s.setHr r h).schedule = s.schedule := by cases r <;> rfl
@[simp] theorem State.setHr_out (r : Resource) (h : HrSet) : (s.setHr r h).out = s.out := by cases r <;> rfl
@[simp] theorem State.setHr_entered (r : Resource) (h : HrSet) : (s.setHr r h).entered = s.entered := by cases r <;> rfl
@[simp] theorem State.setHr_evt (r : Resource) (h : HrSet) : (s.setHr r h).evt = s.evt := by cases r <;> rfl

/-! ## An address register -/

@[simp] theorem State.setA_cfg (n : Reg) (v : Word) : (s.setA n v).cfg = s.cfg := by
  unfold State.setA; split <;> simp
@[simp] theorem State.setA_pc (n : Reg) (v : Word) : (s.setA n v).pc = s.pc := by
  unfold State.setA; split <;> simp
@[simp] theorem State.setA_psw (n : Reg) (v : Word) : (s.setA n v).psw = s.psw := by
  unfold State.setA; split <;> simp
@[simp] theorem State.setA_pswUndef (n : Reg) (v : Word) : (s.setA n v).pswUndef = s.pswUndef := by
  unfold State.setA; split <;> simp
@[simp] theorem State.setA_pcxi (n : Reg) (v : Word) : (s.setA n v).pcxi = s.pcxi := by
  unfold State.setA; split <;> simp
@[simp] theorem State.setA_pprs (n : Reg) (v : Word) : (s.setA n v).pprs = s.pprs := by
  unfold State.setA; split <;> simp
@[simp] theorem State.setA_d (n : Reg) (v : Word) : (s.setA n v).d = s.d := by
  unfold State.setA; split <;> simp
@[simp] theorem State.setA_sys (n : Reg) (v : Word) : (s.setA n v).sys = s.sys := by
  unfold State.setA; split <;> simp
@[simp] theorem State.setA_pendNmi (n : Reg) (v : Word) : (s.setA n v).pendNmi = s.pendNmi := by
  unfold State.setA; split <;> simp
@[simp] theorem State.setA_pendDae (n : Reg) (v : Word) : (s.setA n v).pendDae = s.pendDae := by
  unfold State.setA; split <;> simp
@[simp] theorem State.setA_pendCae (n : Reg) (v : Word) : (s.setA n v).pendCae = s.pendCae := by
  unfold State.setA; split <;> simp
@[simp] theorem State.setA_pendDie (n : Reg) (v : Word) : (s.setA n v).pendDie = s.pendDie := by
  unfold State.setA; split <;> simp
@[simp] theorem State.setA_breakIn (n : Reg) (v : Word) : (s.setA n v).breakIn = s.breakIn := by
  unfold State.setA; split <;> simp
@[simp] theorem State.setA_taskGate (n : Reg) (v : Word) : (s.setA n v).taskGate = s.taskGate := by
  unfold State.setA; split <;> simp
@[simp] theorem State.setA_vcon0Written (n : Reg) (v : Word) : (s.setA n v).vcon0Written = s.vcon0Written := by
  unfold State.setA; split <;> simp
@[simp] theorem State.setA_endinitOpen (n : Reg) (v : Word) : (s.setA n v).endinitOpen = s.endinitOpen := by
  unfold State.setA; split <;> simp
@[simp] theorem State.setA_safetyOpen (n : Reg) (v : Word) : (s.setA n v).safetyOpen = s.safetyOpen := by
  unfold State.setA; split <;> simp
@[simp] theorem State.setA_fcdPending (n : Reg) (v : Word) : (s.setA n v).fcdPending = s.fcdPending := by
  unfold State.setA; split <;> simp
@[simp] theorem State.setA_fetchError (n : Reg) (v : Word) : (s.setA n v).fetchError = s.fetchError := by
  unfold State.setA; split <;> simp
@[simp] theorem State.setA_mem (n : Reg) (v : Word) : (s.setA n v).mem = s.mem := by
  unfold State.setA; split <;> simp
@[simp] theorem State.setA_window (n : Reg) (v : Word) : (s.setA n v).window = s.window := by
  unfold State.setA; split <;> simp
@[simp] theorem State.setA_draws (n : Reg) (v : Word) : (s.setA n v).draws = s.draws := by
  unfold State.setA; split <;> simp
@[simp] theorem State.setA_schedule (n : Reg) (v : Word) : (s.setA n v).schedule = s.schedule := by
  unfold State.setA; split <;> simp
@[simp] theorem State.setA_out (n : Reg) (v : Word) : (s.setA n v).out = s.out := by
  unfold State.setA; split <;> simp
@[simp] theorem State.setA_entered (n : Reg) (v : Word) : (s.setA n v).entered = s.entered := by
  unfold State.setA; split <;> simp
@[simp] theorem State.setA_evt (n : Reg) (v : Word) : (s.setA n v).evt = s.evt := by
  unfold State.setA; split <;> simp

/-! ## A hardware update of PSW -/

@[simp] theorem State.hwPsw_cfg (r : Resource) (f : Word → Word) : (s.hw r .psw f).cfg = s.cfg := rfl
@[simp] theorem State.hwPsw_pc (r : Resource) (f : Word → Word) : (s.hw r .psw f).pc = s.pc := rfl
@[simp] theorem State.hwPsw_pswUndef (r : Resource) (f : Word → Word) : (s.hw r .psw f).pswUndef = s.pswUndef := rfl
@[simp] theorem State.hwPsw_pcxi (r : Resource) (f : Word → Word) : (s.hw r .psw f).pcxi = s.pcxi := rfl
@[simp] theorem State.hwPsw_pprs (r : Resource) (f : Word → Word) : (s.hw r .psw f).pprs = s.pprs := rfl
@[simp] theorem State.hwPsw_d (r : Resource) (f : Word → Word) : (s.hw r .psw f).d = s.d := rfl
@[simp] theorem State.hwPsw_ca (r : Resource) (f : Word → Word) : (s.hw r .psw f).ca = s.ca := rfl
@[simp] theorem State.hwPsw_hv (r : Resource) (f : Word → Word) : (s.hw r .psw f).hv = s.hv := rfl
@[simp] theorem State.hwPsw_hra (r : Resource) (f : Word → Word) : (s.hw r .psw f).hra = s.hra := rfl
@[simp] theorem State.hwPsw_hrb (r : Resource) (f : Word → Word) : (s.hw r .psw f).hrb = s.hrb := rfl
@[simp] theorem State.hwPsw_sys (r : Resource) (f : Word → Word) : (s.hw r .psw f).sys = s.sys := rfl
@[simp] theorem State.hwPsw_pendNmi (r : Resource) (f : Word → Word) : (s.hw r .psw f).pendNmi = s.pendNmi := rfl
@[simp] theorem State.hwPsw_pendDae (r : Resource) (f : Word → Word) : (s.hw r .psw f).pendDae = s.pendDae := rfl
@[simp] theorem State.hwPsw_pendCae (r : Resource) (f : Word → Word) : (s.hw r .psw f).pendCae = s.pendCae := rfl
@[simp] theorem State.hwPsw_pendDie (r : Resource) (f : Word → Word) : (s.hw r .psw f).pendDie = s.pendDie := rfl
@[simp] theorem State.hwPsw_breakIn (r : Resource) (f : Word → Word) : (s.hw r .psw f).breakIn = s.breakIn := rfl
@[simp] theorem State.hwPsw_taskGate (r : Resource) (f : Word → Word) : (s.hw r .psw f).taskGate = s.taskGate := rfl
@[simp] theorem State.hwPsw_vcon0Written (r : Resource) (f : Word → Word) : (s.hw r .psw f).vcon0Written = s.vcon0Written := rfl
@[simp] theorem State.hwPsw_endinitOpen (r : Resource) (f : Word → Word) : (s.hw r .psw f).endinitOpen = s.endinitOpen := rfl
@[simp] theorem State.hwPsw_safetyOpen (r : Resource) (f : Word → Word) : (s.hw r .psw f).safetyOpen = s.safetyOpen := rfl
@[simp] theorem State.hwPsw_fcdPending (r : Resource) (f : Word → Word) : (s.hw r .psw f).fcdPending = s.fcdPending := rfl
@[simp] theorem State.hwPsw_fetchError (r : Resource) (f : Word → Word) : (s.hw r .psw f).fetchError = s.fetchError := rfl
@[simp] theorem State.hwPsw_mem (r : Resource) (f : Word → Word) : (s.hw r .psw f).mem = s.mem := rfl
@[simp] theorem State.hwPsw_draws (r : Resource) (f : Word → Word) : (s.hw r .psw f).draws = s.draws := rfl
@[simp] theorem State.hwPsw_schedule (r : Resource) (f : Word → Word) : (s.hw r .psw f).schedule = s.schedule := rfl
@[simp] theorem State.hwPsw_out (r : Resource) (f : Word → Word) : (s.hw r .psw f).out = s.out := rfl
@[simp] theorem State.hwPsw_entered (r : Resource) (f : Word → Word) : (s.hw r .psw f).entered = s.entered := rfl
@[simp] theorem State.hwPsw_evt (r : Resource) (f : Word → Word) : (s.hw r .psw f).evt = s.evt := rfl

/-! ## A hardware update of PCXI -/

@[simp] theorem State.hwPcxi_cfg (r : Resource) (f : Word → Word) : (s.hw r .pcxi f).cfg = s.cfg := rfl
@[simp] theorem State.hwPcxi_pc (r : Resource) (f : Word → Word) : (s.hw r .pcxi f).pc = s.pc := rfl
@[simp] theorem State.hwPcxi_psw (r : Resource) (f : Word → Word) : (s.hw r .pcxi f).psw = s.psw := rfl
@[simp] theorem State.hwPcxi_pswUndef (r : Resource) (f : Word → Word) : (s.hw r .pcxi f).pswUndef = s.pswUndef := rfl
@[simp] theorem State.hwPcxi_pprs (r : Resource) (f : Word → Word) : (s.hw r .pcxi f).pprs = s.pprs := rfl
@[simp] theorem State.hwPcxi_d (r : Resource) (f : Word → Word) : (s.hw r .pcxi f).d = s.d := rfl
@[simp] theorem State.hwPcxi_ca (r : Resource) (f : Word → Word) : (s.hw r .pcxi f).ca = s.ca := rfl
@[simp] theorem State.hwPcxi_hv (r : Resource) (f : Word → Word) : (s.hw r .pcxi f).hv = s.hv := rfl
@[simp] theorem State.hwPcxi_hra (r : Resource) (f : Word → Word) : (s.hw r .pcxi f).hra = s.hra := rfl
@[simp] theorem State.hwPcxi_hrb (r : Resource) (f : Word → Word) : (s.hw r .pcxi f).hrb = s.hrb := rfl
@[simp] theorem State.hwPcxi_sys (r : Resource) (f : Word → Word) : (s.hw r .pcxi f).sys = s.sys := rfl
@[simp] theorem State.hwPcxi_pendNmi (r : Resource) (f : Word → Word) : (s.hw r .pcxi f).pendNmi = s.pendNmi := rfl
@[simp] theorem State.hwPcxi_pendDae (r : Resource) (f : Word → Word) : (s.hw r .pcxi f).pendDae = s.pendDae := rfl
@[simp] theorem State.hwPcxi_pendCae (r : Resource) (f : Word → Word) : (s.hw r .pcxi f).pendCae = s.pendCae := rfl
@[simp] theorem State.hwPcxi_pendDie (r : Resource) (f : Word → Word) : (s.hw r .pcxi f).pendDie = s.pendDie := rfl
@[simp] theorem State.hwPcxi_breakIn (r : Resource) (f : Word → Word) : (s.hw r .pcxi f).breakIn = s.breakIn := rfl
@[simp] theorem State.hwPcxi_taskGate (r : Resource) (f : Word → Word) : (s.hw r .pcxi f).taskGate = s.taskGate := rfl
@[simp] theorem State.hwPcxi_vcon0Written (r : Resource) (f : Word → Word) : (s.hw r .pcxi f).vcon0Written = s.vcon0Written := rfl
@[simp] theorem State.hwPcxi_endinitOpen (r : Resource) (f : Word → Word) : (s.hw r .pcxi f).endinitOpen = s.endinitOpen := rfl
@[simp] theorem State.hwPcxi_safetyOpen (r : Resource) (f : Word → Word) : (s.hw r .pcxi f).safetyOpen = s.safetyOpen := rfl
@[simp] theorem State.hwPcxi_fcdPending (r : Resource) (f : Word → Word) : (s.hw r .pcxi f).fcdPending = s.fcdPending := rfl
@[simp] theorem State.hwPcxi_fetchError (r : Resource) (f : Word → Word) : (s.hw r .pcxi f).fetchError = s.fetchError := rfl
@[simp] theorem State.hwPcxi_mem (r : Resource) (f : Word → Word) : (s.hw r .pcxi f).mem = s.mem := rfl
@[simp] theorem State.hwPcxi_draws (r : Resource) (f : Word → Word) : (s.hw r .pcxi f).draws = s.draws := rfl
@[simp] theorem State.hwPcxi_schedule (r : Resource) (f : Word → Word) : (s.hw r .pcxi f).schedule = s.schedule := rfl
@[simp] theorem State.hwPcxi_out (r : Resource) (f : Word → Word) : (s.hw r .pcxi f).out = s.out := rfl
@[simp] theorem State.hwPcxi_entered (r : Resource) (f : Word → Word) : (s.hw r .pcxi f).entered = s.entered := rfl
@[simp] theorem State.hwPcxi_evt (r : Resource) (f : Word → Word) : (s.hw r .pcxi f).evt = s.evt := rfl

/-! ## A hardware update of PPRS -/

@[simp] theorem State.hwPprs_cfg (r : Resource) (f : Word → Word) : (s.hw r .pprs f).cfg = s.cfg := rfl
@[simp] theorem State.hwPprs_pc (r : Resource) (f : Word → Word) : (s.hw r .pprs f).pc = s.pc := rfl
@[simp] theorem State.hwPprs_psw (r : Resource) (f : Word → Word) : (s.hw r .pprs f).psw = s.psw := rfl
@[simp] theorem State.hwPprs_pswUndef (r : Resource) (f : Word → Word) : (s.hw r .pprs f).pswUndef = s.pswUndef := rfl
@[simp] theorem State.hwPprs_pcxi (r : Resource) (f : Word → Word) : (s.hw r .pprs f).pcxi = s.pcxi := rfl
@[simp] theorem State.hwPprs_d (r : Resource) (f : Word → Word) : (s.hw r .pprs f).d = s.d := rfl
@[simp] theorem State.hwPprs_ca (r : Resource) (f : Word → Word) : (s.hw r .pprs f).ca = s.ca := rfl
@[simp] theorem State.hwPprs_hv (r : Resource) (f : Word → Word) : (s.hw r .pprs f).hv = s.hv := rfl
@[simp] theorem State.hwPprs_hra (r : Resource) (f : Word → Word) : (s.hw r .pprs f).hra = s.hra := rfl
@[simp] theorem State.hwPprs_hrb (r : Resource) (f : Word → Word) : (s.hw r .pprs f).hrb = s.hrb := rfl
@[simp] theorem State.hwPprs_sys (r : Resource) (f : Word → Word) : (s.hw r .pprs f).sys = s.sys := rfl
@[simp] theorem State.hwPprs_pendNmi (r : Resource) (f : Word → Word) : (s.hw r .pprs f).pendNmi = s.pendNmi := rfl
@[simp] theorem State.hwPprs_pendDae (r : Resource) (f : Word → Word) : (s.hw r .pprs f).pendDae = s.pendDae := rfl
@[simp] theorem State.hwPprs_pendCae (r : Resource) (f : Word → Word) : (s.hw r .pprs f).pendCae = s.pendCae := rfl
@[simp] theorem State.hwPprs_pendDie (r : Resource) (f : Word → Word) : (s.hw r .pprs f).pendDie = s.pendDie := rfl
@[simp] theorem State.hwPprs_breakIn (r : Resource) (f : Word → Word) : (s.hw r .pprs f).breakIn = s.breakIn := rfl
@[simp] theorem State.hwPprs_taskGate (r : Resource) (f : Word → Word) : (s.hw r .pprs f).taskGate = s.taskGate := rfl
@[simp] theorem State.hwPprs_vcon0Written (r : Resource) (f : Word → Word) : (s.hw r .pprs f).vcon0Written = s.vcon0Written := rfl
@[simp] theorem State.hwPprs_endinitOpen (r : Resource) (f : Word → Word) : (s.hw r .pprs f).endinitOpen = s.endinitOpen := rfl
@[simp] theorem State.hwPprs_safetyOpen (r : Resource) (f : Word → Word) : (s.hw r .pprs f).safetyOpen = s.safetyOpen := rfl
@[simp] theorem State.hwPprs_fcdPending (r : Resource) (f : Word → Word) : (s.hw r .pprs f).fcdPending = s.fcdPending := rfl
@[simp] theorem State.hwPprs_fetchError (r : Resource) (f : Word → Word) : (s.hw r .pprs f).fetchError = s.fetchError := rfl
@[simp] theorem State.hwPprs_mem (r : Resource) (f : Word → Word) : (s.hw r .pprs f).mem = s.mem := rfl
@[simp] theorem State.hwPprs_draws (r : Resource) (f : Word → Word) : (s.hw r .pprs f).draws = s.draws := rfl
@[simp] theorem State.hwPprs_schedule (r : Resource) (f : Word → Word) : (s.hw r .pprs f).schedule = s.schedule := rfl
@[simp] theorem State.hwPprs_out (r : Resource) (f : Word → Word) : (s.hw r .pprs f).out = s.out := rfl
@[simp] theorem State.hwPprs_entered (r : Resource) (f : Word → Word) : (s.hw r .pprs f).entered = s.entered := rfl
@[simp] theorem State.hwPprs_evt (r : Resource) (f : Word → Word) : (s.hw r .pprs f).evt = s.evt := rfl

/-! ## A hardware update of ICR -/

@[simp] theorem State.hwIcr_cfg (r : Resource) (f : Word → Word) : (s.hw r .icr f).cfg = s.cfg := rfl
@[simp] theorem State.hwIcr_pc (r : Resource) (f : Word → Word) : (s.hw r .icr f).pc = s.pc := rfl
@[simp] theorem State.hwIcr_psw (r : Resource) (f : Word → Word) : (s.hw r .icr f).psw = s.psw := rfl
@[simp] theorem State.hwIcr_pswUndef (r : Resource) (f : Word → Word) : (s.hw r .icr f).pswUndef = s.pswUndef := rfl
@[simp] theorem State.hwIcr_pcxi (r : Resource) (f : Word → Word) : (s.hw r .icr f).pcxi = s.pcxi := rfl
@[simp] theorem State.hwIcr_pprs (r : Resource) (f : Word → Word) : (s.hw r .icr f).pprs = s.pprs := rfl
@[simp] theorem State.hwIcr_d (r : Resource) (f : Word → Word) : (s.hw r .icr f).d = s.d := rfl
@[simp] theorem State.hwIcr_ca (r : Resource) (f : Word → Word) : (s.hw r .icr f).ca = s.ca := rfl
@[simp] theorem State.hwIcr_hv (r : Resource) (f : Word → Word) : (s.hw r .icr f).hv = s.hv := rfl
@[simp] theorem State.hwIcr_hra (r : Resource) (f : Word → Word) : (s.hw r .icr f).hra = s.hra := rfl
@[simp] theorem State.hwIcr_hrb (r : Resource) (f : Word → Word) : (s.hw r .icr f).hrb = s.hrb := rfl
@[simp] theorem State.hwIcr_pendNmi (r : Resource) (f : Word → Word) : (s.hw r .icr f).pendNmi = s.pendNmi := rfl
@[simp] theorem State.hwIcr_pendDae (r : Resource) (f : Word → Word) : (s.hw r .icr f).pendDae = s.pendDae := rfl
@[simp] theorem State.hwIcr_pendCae (r : Resource) (f : Word → Word) : (s.hw r .icr f).pendCae = s.pendCae := rfl
@[simp] theorem State.hwIcr_pendDie (r : Resource) (f : Word → Word) : (s.hw r .icr f).pendDie = s.pendDie := rfl
@[simp] theorem State.hwIcr_breakIn (r : Resource) (f : Word → Word) : (s.hw r .icr f).breakIn = s.breakIn := rfl
@[simp] theorem State.hwIcr_taskGate (r : Resource) (f : Word → Word) : (s.hw r .icr f).taskGate = s.taskGate := rfl
@[simp] theorem State.hwIcr_vcon0Written (r : Resource) (f : Word → Word) : (s.hw r .icr f).vcon0Written = s.vcon0Written := rfl
@[simp] theorem State.hwIcr_endinitOpen (r : Resource) (f : Word → Word) : (s.hw r .icr f).endinitOpen = s.endinitOpen := rfl
@[simp] theorem State.hwIcr_safetyOpen (r : Resource) (f : Word → Word) : (s.hw r .icr f).safetyOpen = s.safetyOpen := rfl
@[simp] theorem State.hwIcr_fcdPending (r : Resource) (f : Word → Word) : (s.hw r .icr f).fcdPending = s.fcdPending := rfl
@[simp] theorem State.hwIcr_fetchError (r : Resource) (f : Word → Word) : (s.hw r .icr f).fetchError = s.fetchError := rfl
@[simp] theorem State.hwIcr_mem (r : Resource) (f : Word → Word) : (s.hw r .icr f).mem = s.mem := rfl
@[simp] theorem State.hwIcr_draws (r : Resource) (f : Word → Word) : (s.hw r .icr f).draws = s.draws := rfl
@[simp] theorem State.hwIcr_schedule (r : Resource) (f : Word → Word) : (s.hw r .icr f).schedule = s.schedule := rfl
@[simp] theorem State.hwIcr_out (r : Resource) (f : Word → Word) : (s.hw r .icr f).out = s.out := rfl
@[simp] theorem State.hwIcr_entered (r : Resource) (f : Word → Word) : (s.hw r .icr f).entered = s.entered := rfl
@[simp] theorem State.hwIcr_evt (r : Resource) (f : Word → Word) : (s.hw r .icr f).evt = s.evt := rfl

/-! ## A hardware update of a single-copy register -/

@[simp] theorem State.hwSys_cfg (r : Resource) (x : SysReg) (f : Word → Word) : (s.hw r (.sys x) f).cfg = s.cfg := rfl
@[simp] theorem State.hwSys_pc (r : Resource) (x : SysReg) (f : Word → Word) : (s.hw r (.sys x) f).pc = s.pc := rfl
@[simp] theorem State.hwSys_psw (r : Resource) (x : SysReg) (f : Word → Word) : (s.hw r (.sys x) f).psw = s.psw := rfl
@[simp] theorem State.hwSys_pswUndef (r : Resource) (x : SysReg) (f : Word → Word) : (s.hw r (.sys x) f).pswUndef = s.pswUndef := rfl
@[simp] theorem State.hwSys_pcxi (r : Resource) (x : SysReg) (f : Word → Word) : (s.hw r (.sys x) f).pcxi = s.pcxi := rfl
@[simp] theorem State.hwSys_pprs (r : Resource) (x : SysReg) (f : Word → Word) : (s.hw r (.sys x) f).pprs = s.pprs := rfl
@[simp] theorem State.hwSys_d (r : Resource) (x : SysReg) (f : Word → Word) : (s.hw r (.sys x) f).d = s.d := rfl
@[simp] theorem State.hwSys_ca (r : Resource) (x : SysReg) (f : Word → Word) : (s.hw r (.sys x) f).ca = s.ca := rfl
@[simp] theorem State.hwSys_hv (r : Resource) (x : SysReg) (f : Word → Word) : (s.hw r (.sys x) f).hv = s.hv := rfl
@[simp] theorem State.hwSys_hra (r : Resource) (x : SysReg) (f : Word → Word) : (s.hw r (.sys x) f).hra = s.hra := rfl
@[simp] theorem State.hwSys_hrb (r : Resource) (x : SysReg) (f : Word → Word) : (s.hw r (.sys x) f).hrb = s.hrb := rfl
@[simp] theorem State.hwSys_pendNmi (r : Resource) (x : SysReg) (f : Word → Word) : (s.hw r (.sys x) f).pendNmi = s.pendNmi := rfl
@[simp] theorem State.hwSys_pendDae (r : Resource) (x : SysReg) (f : Word → Word) : (s.hw r (.sys x) f).pendDae = s.pendDae := rfl
@[simp] theorem State.hwSys_pendCae (r : Resource) (x : SysReg) (f : Word → Word) : (s.hw r (.sys x) f).pendCae = s.pendCae := rfl
@[simp] theorem State.hwSys_pendDie (r : Resource) (x : SysReg) (f : Word → Word) : (s.hw r (.sys x) f).pendDie = s.pendDie := rfl
@[simp] theorem State.hwSys_breakIn (r : Resource) (x : SysReg) (f : Word → Word) : (s.hw r (.sys x) f).breakIn = s.breakIn := rfl
@[simp] theorem State.hwSys_taskGate (r : Resource) (x : SysReg) (f : Word → Word) : (s.hw r (.sys x) f).taskGate = s.taskGate := rfl
@[simp] theorem State.hwSys_vcon0Written (r : Resource) (x : SysReg) (f : Word → Word) : (s.hw r (.sys x) f).vcon0Written = s.vcon0Written := rfl
@[simp] theorem State.hwSys_endinitOpen (r : Resource) (x : SysReg) (f : Word → Word) : (s.hw r (.sys x) f).endinitOpen = s.endinitOpen := rfl
@[simp] theorem State.hwSys_safetyOpen (r : Resource) (x : SysReg) (f : Word → Word) : (s.hw r (.sys x) f).safetyOpen = s.safetyOpen := rfl
@[simp] theorem State.hwSys_fcdPending (r : Resource) (x : SysReg) (f : Word → Word) : (s.hw r (.sys x) f).fcdPending = s.fcdPending := rfl
@[simp] theorem State.hwSys_fetchError (r : Resource) (x : SysReg) (f : Word → Word) : (s.hw r (.sys x) f).fetchError = s.fetchError := rfl
@[simp] theorem State.hwSys_mem (r : Resource) (x : SysReg) (f : Word → Word) : (s.hw r (.sys x) f).mem = s.mem := rfl
@[simp] theorem State.hwSys_draws (r : Resource) (x : SysReg) (f : Word → Word) : (s.hw r (.sys x) f).draws = s.draws := rfl
@[simp] theorem State.hwSys_schedule (r : Resource) (x : SysReg) (f : Word → Word) : (s.hw r (.sys x) f).schedule = s.schedule := rfl
@[simp] theorem State.hwSys_out (r : Resource) (x : SysReg) (f : Word → Word) : (s.hw r (.sys x) f).out = s.out := rfl
@[simp] theorem State.hwSys_entered (r : Resource) (x : SysReg) (f : Word → Word) : (s.hw r (.sys x) f).entered = s.entered := rfl
@[simp] theorem State.hwSys_evt (r : Resource) (x : SysReg) (f : Word → Word) : (s.hw r (.sys x) f).evt = s.evt := rfl

/-! ## A hardware update of a replicated register -/

@[simp] theorem State.hwRep_cfg (r : Resource) (x : RepReg) (f : Word → Word) : (s.hw r (.rep x) f).cfg = s.cfg := by
  simp [State.hw, State.setRaw]
@[simp] theorem State.hwRep_pc (r : Resource) (x : RepReg) (f : Word → Word) : (s.hw r (.rep x) f).pc = s.pc := by
  simp [State.hw, State.setRaw]
@[simp] theorem State.hwRep_psw (r : Resource) (x : RepReg) (f : Word → Word) : (s.hw r (.rep x) f).psw = s.psw := by
  simp [State.hw, State.setRaw]
@[simp] theorem State.hwRep_pswUndef (r : Resource) (x : RepReg) (f : Word → Word) : (s.hw r (.rep x) f).pswUndef = s.pswUndef := by
  simp [State.hw, State.setRaw]
@[simp] theorem State.hwRep_pcxi (r : Resource) (x : RepReg) (f : Word → Word) : (s.hw r (.rep x) f).pcxi = s.pcxi := by
  simp [State.hw, State.setRaw]
@[simp] theorem State.hwRep_pprs (r : Resource) (x : RepReg) (f : Word → Word) : (s.hw r (.rep x) f).pprs = s.pprs := by
  simp [State.hw, State.setRaw]
@[simp] theorem State.hwRep_d (r : Resource) (x : RepReg) (f : Word → Word) : (s.hw r (.rep x) f).d = s.d := by
  simp [State.hw, State.setRaw]
@[simp] theorem State.hwRep_ca (r : Resource) (x : RepReg) (f : Word → Word) : (s.hw r (.rep x) f).ca = s.ca := by
  simp [State.hw, State.setRaw]
@[simp] theorem State.hwRep_sys (r : Resource) (x : RepReg) (f : Word → Word) : (s.hw r (.rep x) f).sys = s.sys := by
  simp [State.hw, State.setRaw]
@[simp] theorem State.hwRep_pendNmi (r : Resource) (x : RepReg) (f : Word → Word) : (s.hw r (.rep x) f).pendNmi = s.pendNmi := by
  simp [State.hw, State.setRaw]
@[simp] theorem State.hwRep_pendDae (r : Resource) (x : RepReg) (f : Word → Word) : (s.hw r (.rep x) f).pendDae = s.pendDae := by
  simp [State.hw, State.setRaw]
@[simp] theorem State.hwRep_pendCae (r : Resource) (x : RepReg) (f : Word → Word) : (s.hw r (.rep x) f).pendCae = s.pendCae := by
  simp [State.hw, State.setRaw]
@[simp] theorem State.hwRep_pendDie (r : Resource) (x : RepReg) (f : Word → Word) : (s.hw r (.rep x) f).pendDie = s.pendDie := by
  simp [State.hw, State.setRaw]
@[simp] theorem State.hwRep_breakIn (r : Resource) (x : RepReg) (f : Word → Word) : (s.hw r (.rep x) f).breakIn = s.breakIn := by
  simp [State.hw, State.setRaw]
@[simp] theorem State.hwRep_taskGate (r : Resource) (x : RepReg) (f : Word → Word) : (s.hw r (.rep x) f).taskGate = s.taskGate := by
  simp [State.hw, State.setRaw]
@[simp] theorem State.hwRep_vcon0Written (r : Resource) (x : RepReg) (f : Word → Word) : (s.hw r (.rep x) f).vcon0Written = s.vcon0Written := by
  simp [State.hw, State.setRaw]
@[simp] theorem State.hwRep_endinitOpen (r : Resource) (x : RepReg) (f : Word → Word) : (s.hw r (.rep x) f).endinitOpen = s.endinitOpen := by
  simp [State.hw, State.setRaw]
@[simp] theorem State.hwRep_safetyOpen (r : Resource) (x : RepReg) (f : Word → Word) : (s.hw r (.rep x) f).safetyOpen = s.safetyOpen := by
  simp [State.hw, State.setRaw]
@[simp] theorem State.hwRep_fcdPending (r : Resource) (x : RepReg) (f : Word → Word) : (s.hw r (.rep x) f).fcdPending = s.fcdPending := by
  simp [State.hw, State.setRaw]
@[simp] theorem State.hwRep_fetchError (r : Resource) (x : RepReg) (f : Word → Word) : (s.hw r (.rep x) f).fetchError = s.fetchError := by
  simp [State.hw, State.setRaw]
@[simp] theorem State.hwRep_mem (r : Resource) (x : RepReg) (f : Word → Word) : (s.hw r (.rep x) f).mem = s.mem := by
  simp [State.hw, State.setRaw]
@[simp] theorem State.hwRep_draws (r : Resource) (x : RepReg) (f : Word → Word) : (s.hw r (.rep x) f).draws = s.draws := by
  simp [State.hw, State.setRaw]
@[simp] theorem State.hwRep_schedule (r : Resource) (x : RepReg) (f : Word → Word) : (s.hw r (.rep x) f).schedule = s.schedule := by
  simp [State.hw, State.setRaw]
@[simp] theorem State.hwRep_out (r : Resource) (x : RepReg) (f : Word → Word) : (s.hw r (.rep x) f).out = s.out := by
  simp [State.hw, State.setRaw]
@[simp] theorem State.hwRep_entered (r : Resource) (x : RepReg) (f : Word → Word) : (s.hw r (.rep x) f).entered = s.entered := by
  simp [State.hw, State.setRaw]
@[simp] theorem State.hwRep_evt (r : Resource) (x : RepReg) (f : Word → Word) : (s.hw r (.rep x) f).evt = s.evt := by
  simp [State.hw, State.setRaw]

/-! ## What an update writes -/

@[simp] theorem State.advance_pc (n : Nat) : (s.advance n).pc = s.pc + BitVec.ofNat 32 n := rfl
@[simp] theorem State.jump_pc (a : Word) : (s.jump a).pc = a := rfl
@[simp] theorem State.emit_out (e : OutEvent) : (s.emit e).out = e :: s.out := rfl
@[simp] theorem State.sync_window : s.sync.window = [] := rfl
@[simp] theorem State.hwPsw_psw (r : Resource) (f : Word → Word) : (s.hw r .psw f).psw = f s.psw := rfl
@[simp] theorem State.hwPcxi_pcxi (r : Resource) (f : Word → Word) : (s.hw r .pcxi f).pcxi = f s.pcxi := rfl
@[simp] theorem State.hwPprs_pprs (r : Resource) (f : Word → Word) : (s.hw r .pprs f).pprs = f s.pprs := rfl
@[simp] theorem State.hwSys_sys (r : Resource) (x : SysReg) (f : Word → Word) :
    (s.hw r (.sys x) f).sys = s.sys.set x.index (f (s.getSys x)) := rfl
@[simp] theorem State.setHr_hr (r : Resource) (h : HrSet) : (s.setHr r h).hr r = h := by cases r <;> rfl
theorem State.setHr_hr_ne {r q : Resource} (hne : q ≠ r) (h : HrSet) : (s.setHr r h).hr q = s.hr q := by
  cases r <;> cases q <;> first | rfl | exact absurd rfl hne

end Sys2Proof.Machine
end

