-- ==== Sys2Proof/Laws/Registers.lean ====
section
/-! SUPPORT. Reading a register after an update: the general registers, the banks, the running resource and the update
window. -/

namespace Sys2Proof.Machine

variable (s : State)

/-- `Vector.get` in the spelling of the library's lemmas. -/
theorem vector_get {α : Type} {n : Nat} (v : Vector α n) (i : Fin n) : v.get i = v[i.val] := rfl

/-! ## Data registers -/

@[simp] theorem State.getD_setD_same (n : Reg) (v : Word) : (s.setD n v).getD n = v := by
  simp [State.getD, State.setD, vector_get]

theorem State.getD_setD_ne {m n : Reg} (h : m ≠ n) (v : Word) : (s.setD n v).getD m = s.getD m := by
  have hne : n.toNat ≠ m.toNat := fun e => h (BitVec.eq_of_toNat_eq e.symm)
  simp [State.getD, State.setD, vector_get, hne]

theorem State.getD_of_d {s t : State} (h : t.d = s.d) (n : Reg) : t.getD n = s.getD n := by
  simp [State.getD, h]

@[simp] theorem State.getD_setA (m n : Reg) (v : Word) : (s.setA n v).getD m = s.getD m :=
  State.getD_of_d (by simp) m

/-! ## Resources -/

theorem State.cvmn_of_sys {s t : State} (h : t.sys = s.sys) : t.cvmn = s.cvmn := by
  simp [State.cvmn, State.getSys, h]

theorem State.res_of_sys {s t : State} (hc : t.cfg = s.cfg) (h : t.sys = s.sys) : t.res = s.res := by
  simp [State.res, hc, State.cvmn_of_sys h]

@[simp] theorem State.res_setHr (r : Resource) (h : HrSet) : (s.setHr r h).res = s.res :=
  State.res_of_sys (by simp) (by simp)

@[simp] theorem State.res_setD (n : Reg) (v : Word) : (s.setD n v).res = s.res := rfl

@[simp] theorem State.res_setA (n : Reg) (v : Word) : (s.setA n v).res = s.res :=
  State.res_of_sys (by simp) (by simp)

/-! ## Address registers -/

theorem State.getA_of_eq {s t : State} (hca : t.ca = s.ca) (hhr : t.hr t.res = s.hr s.res) (n : Reg) :
    t.getA n = s.getA n := by
  simp [State.getA, hca, hhr]

@[simp] theorem State.getA_setD (m n : Reg) (v : Word) : (s.setD n v).getA m = s.getA m := rfl

@[simp] theorem State.getA_setA_same (n : Reg) (v : Word) : (s.setA n v).getA n = v := by
  unfold State.setA State.getA
  cases h : aHome n with
  | ga i => simp [vector_get]
  | ctx i => simp [vector_get]

/-- Two numbers name one address register only if they are equal. -/
theorem aHome_injective : ∀ m n : Reg, aHome m = aHome n → m = n := by decide

theorem State.getA_setA_ne {m n : Reg} (h : m ≠ n) (v : Word) : (s.setA n v).getA m = s.getA m := by
  unfold State.setA State.getA
  cases hn : aHome n with
  | ga i =>
    cases hm : aHome m with
    | ga j =>
      have hij : i ≠ j := fun e => h (aHome_injective m n (by rw [hm, hn, e]))
      have hv : i.val ≠ j.val := fun e => hij (Fin.ext e)
      simp [vector_get, hv]
    | ctx j => simp
  | ctx i =>
    cases hm : aHome m with
    | ga j => rfl
    | ctx j =>
      have hij : i ≠ j := fun e => h (aHome_injective m n (by rw [hm, hn, e]))
      have hv : i.val ≠ j.val := fun e => hij (Fin.ext e)
      simp [vector_get, hv]

/-! ## The general registers and the running resource after updates that do not touch them -/

@[simp] theorem State.getD_advance (n : Nat) (m : Reg) : (s.advance n).getD m = s.getD m := rfl
@[simp] theorem State.getA_advance (n : Nat) (m : Reg) : (s.advance n).getA m = s.getA m := rfl
@[simp] theorem State.res_advance (n : Nat) : (s.advance n).res = s.res := rfl
@[simp] theorem State.getD_jump (a : Word) (m : Reg) : (s.jump a).getD m = s.getD m := rfl
@[simp] theorem State.getA_jump (a : Word) (m : Reg) : (s.jump a).getA m = s.getA m := rfl
@[simp] theorem State.res_jump (a : Word) : (s.jump a).res = s.res := rfl
@[simp] theorem State.getD_emit (e : OutEvent) (m : Reg) : (s.emit e).getD m = s.getD m := rfl
@[simp] theorem State.getA_emit (e : OutEvent) (m : Reg) : (s.emit e).getA m = s.getA m := rfl
@[simp] theorem State.res_emit (e : OutEvent) : (s.emit e).res = s.res := rfl
@[simp] theorem State.getD_sync (m : Reg) : (s.sync).getD m = s.getD m := rfl
@[simp] theorem State.getA_sync (m : Reg) : (s.sync).getA m = s.getA m := rfl
@[simp] theorem State.res_sync : (s.sync).res = s.res := rfl
@[simp] theorem State.getD_putWord (a v : Word) (m : Reg) : (s.putWord a v).getD m = s.getD m := rfl
@[simp] theorem State.getA_putWord (a v : Word) (m : Reg) : (s.putWord a v).getA m = s.getA m := rfl
@[simp] theorem State.res_putWord (a v : Word) : (s.putWord a v).res = s.res := rfl

/-! ## The banks and the window -/

/-- The register at a place of the bank: `RepReg.index` undone. -/
def RepReg.ofIndex (i : Nat) : RepReg :=
  if i < 40 then
    List.getD [.fcx, .lcx, .isp, .biv, .btv, .corecon, .compat, .smacon, .pstr, .dstr, .datr, .deadd, .pietr, .piear,
      .dietr, .diear, .pma0, .pma1, .pma2, .pcon0, .pcon1, .pcon2, .dcon0, .dcon1, .dcon2, .tpsCon, .cctrl, .ccnt,
      .icnt, .fpuTrapCon, .fpuTrapPc, .fpuTrapOpc, .fpuSrc1L, .fpuSrc1U, .fpuSrc2L, .fpuSrc2U, .fpuSrc3L,
      .fpuSrc3U, .fpuSyncCon, .fpuSyncOpc] i .fcx
  else if i < 43 then .tpsTimer (Fin.ofNat 3 (i - 40))
  else if i < 46 then .mcnt (Fin.ofNat 3 (i - 43))
  else if i < 54 then .dpre (Fin.ofNat 8 (i - 46))
  else if i < 62 then .dpwe (Fin.ofNat 8 (i - 54))
  else if i < 70 then .cpxe (Fin.ofNat 8 (i - 62))
  else if i < 102 then .dprL (Fin.ofNat 32 (i - 70))
  else if i < 134 then .dprU (Fin.ofNat 32 (i - 102))
  else if i < 166 then .cprL (Fin.ofNat 32 (i - 134))
  else .cprU (Fin.ofNat 32 (i - 166))

theorem RepReg.ofIndex_index (x : RepReg) : RepReg.ofIndex x.index.val = x := by
  cases x with
  | tpsTimer n => revert n; decide
  | mcnt n => revert n; decide
  | dpre n => revert n; decide
  | dpwe n => revert n; decide
  | cpxe n => revert n; decide
  | dprL n => revert n; decide
  | dprU n => revert n; decide
  | cprL n => revert n; decide
  | cprU n => revert n; decide
  | _ => rfl

theorem RepReg.index_injective (x y : RepReg) (h : x.index = y.index) : x = y := by
  rw [← x.ofIndex_index, ← y.ofIndex_index, h]

/-- The register at a place of the bank: `SysReg.index` undone. -/
def SysReg.ofIndex (i : Nat) : SysReg :=
  if i < 19 then
    List.getD [.vcon0, .vcon1, .vcon2, .bhv, .bootcon, .ccon, .dbgsr, .exevt, .crevt, .swevt, .dbgact, .trigAcc, .dms, .dcx,
      .dbgtcr, .dbgcfg, .trccfg, .trcflt, .trclim] i .vcon0
  else if i < 27 then .vmIcr (Fin.ofNat 8 (i - 19))
  else if i < 35 then .vmPeThresh (Fin.ofNat 8 (i - 27))
  else if i < 43 then .trEvt (Fin.ofNat 8 (i - 35))
  else .trAdr (Fin.ofNat 8 (i - 43))

theorem SysReg.ofIndex_index (x : SysReg) : SysReg.ofIndex x.index.val = x := by
  cases x with
  | vmIcr n => revert n; decide
  | vmPeThresh n => revert n; decide
  | trEvt n => revert n; decide
  | trAdr n => revert n; decide
  | _ => rfl

theorem SysReg.index_injective (x y : SysReg) (h : x.index = y.index) : x = y := by
  rw [← x.ofIndex_index, ← y.ofIndex_index, h]

@[simp] theorem State.getSys_setD (n : Reg) (v : Word) (x : SysReg) : (s.setD n v).getSys x = s.getSys x := rfl

theorem State.getSys_hw_same (r : Resource) (x : SysReg) (f : Word → Word) :
    (s.hw r (.sys x) f).getSys x = f (s.getSys x) := by
  simp [State.getSys, vector_get]

theorem State.getSys_hw_ne {x y : SysReg} (h : y ≠ x) (r : Resource) (f : Word → Word) :
    (s.hw r (.sys x) f).getSys y = s.getSys y := by
  have hv : x.index.val ≠ y.index.val := fun e => h (SysReg.index_injective y x (Fin.ext e.symm))
  simp [State.getSys, vector_get, hv]

/-! ## The banks after updates that do not touch them -/

@[simp] theorem State.getRep_setD (n : Reg) (v : Word) (q : Resource) (x : RepReg) : (s.setD n v).getRep q x = s.getRep q x := rfl
@[simp] theorem State.getRep_advance (n : Nat) (q : Resource) (x : RepReg) : (s.advance n).getRep q x = s.getRep q x := rfl
@[simp] theorem State.getSys_advance (n : Nat) (x : SysReg) : (s.advance n).getSys x = s.getSys x := rfl
@[simp] theorem State.getRep_jump (a : Word) (q : Resource) (x : RepReg) : (s.jump a).getRep q x = s.getRep q x := rfl
@[simp] theorem State.getSys_jump (a : Word) (x : SysReg) : (s.jump a).getSys x = s.getSys x := rfl
@[simp] theorem State.getRep_emit (e : OutEvent) (q : Resource) (x : RepReg) : (s.emit e).getRep q x = s.getRep q x := rfl
@[simp] theorem State.getSys_emit (e : OutEvent) (x : SysReg) : (s.emit e).getSys x = s.getSys x := rfl
@[simp] theorem State.getRep_sync (q : Resource) (x : RepReg) : (s.sync).getRep q x = s.getRep q x := rfl
@[simp] theorem State.getSys_sync (x : SysReg) : (s.sync).getSys x = s.getSys x := rfl
@[simp] theorem State.getRep_putWord (a v : Word) (q : Resource) (x : RepReg) : (s.putWord a v).getRep q x = s.getRep q x := rfl
@[simp] theorem State.getSys_putWord (a v : Word) (x : SysReg) : (s.putWord a v).getSys x = s.getSys x := rfl

/-! ## What a hardware update leaves readable -/

@[simp] theorem State.getD_hwPsw (r : Resource) (f : Word → Word) (m : Reg) : (s.hw r .psw f).getD m = s.getD m := rfl
@[simp] theorem State.getA_hwPsw (r : Resource) (f : Word → Word) (m : Reg) : (s.hw r .psw f).getA m = s.getA m := rfl
@[simp] theorem State.res_hwPsw (r : Resource) (f : Word → Word) : (s.hw r .psw f).res = s.res := rfl
@[simp] theorem State.vm_hwPsw (r : Resource) (f : Word → Word) : (s.hw r .psw f).vm = s.vm := rfl
@[simp] theorem State.getRep_hwPsw (r : Resource) (f : Word → Word) (q : Resource) (x : RepReg) : (s.hw r .psw f).getRep q x = s.getRep q x := rfl
@[simp] theorem State.getSys_hwPsw (r : Resource) (f : Word → Word) (x : SysReg) : (s.hw r .psw f).getSys x = s.getSys x := rfl
@[simp] theorem State.getD_hwPcxi (r : Resource) (f : Word → Word) (m : Reg) : (s.hw r .pcxi f).getD m = s.getD m := rfl
@[simp] theorem State.getA_hwPcxi (r : Resource) (f : Word → Word) (m : Reg) : (s.hw r .pcxi f).getA m = s.getA m := rfl
@[simp] theorem State.res_hwPcxi (r : Resource) (f : Word → Word) : (s.hw r .pcxi f).res = s.res := rfl
@[simp] theorem State.vm_hwPcxi (r : Resource) (f : Word → Word) : (s.hw r .pcxi f).vm = s.vm := rfl
@[simp] theorem State.getRep_hwPcxi (r : Resource) (f : Word → Word) (q : Resource) (x : RepReg) : (s.hw r .pcxi f).getRep q x = s.getRep q x := rfl
@[simp] theorem State.getSys_hwPcxi (r : Resource) (f : Word → Word) (x : SysReg) : (s.hw r .pcxi f).getSys x = s.getSys x := rfl
@[simp] theorem State.getD_hwPprs (r : Resource) (f : Word → Word) (m : Reg) : (s.hw r .pprs f).getD m = s.getD m := rfl
@[simp] theorem State.getA_hwPprs (r : Resource) (f : Word → Word) (m : Reg) : (s.hw r .pprs f).getA m = s.getA m := rfl
@[simp] theorem State.res_hwPprs (r : Resource) (f : Word → Word) : (s.hw r .pprs f).res = s.res := rfl
@[simp] theorem State.vm_hwPprs (r : Resource) (f : Word → Word) : (s.hw r .pprs f).vm = s.vm := rfl
@[simp] theorem State.getRep_hwPprs (r : Resource) (f : Word → Word) (q : Resource) (x : RepReg) : (s.hw r .pprs f).getRep q x = s.getRep q x := rfl
@[simp] theorem State.getSys_hwPprs (r : Resource) (f : Word → Word) (x : SysReg) : (s.hw r .pprs f).getSys x = s.getSys x := rfl

/-- With no update open a register governs with its stored value (70_reset R950). -/
theorem State.eff_of_window_nil (h : s.window = []) (r : Resource) (c : Csfr) (u : Use) : s.eff r c u = s.raw r c := by
  simp [State.eff, State.stale, h]

theorem State.ctl_of_window_nil (h : s.window = []) (c : Csfr) (u : Use) : s.ctl c u = s.raw s.res c :=
  s.eff_of_window_nil h s.res c u

end Sys2Proof.Machine
end

