-- ==== Sys2Proof/Laws/Memory.lean ====
section
/-! SUPPORT. Memory: a read after a write, and that every memory operation keeps the canonical form. -/

namespace Sys2Proof.Machine

/-! ## The canonical form -/

theorem Memory.wfFrom_mono {lo lo' : Nat} (h : lo' ≤ lo) : ∀ {m : List Host.Cell}, Memory.wfFrom lo m → Memory.wfFrom lo' m
  | [], _ => rfl
  | (a, v) :: rest, hm => by
    simp only [Memory.wfFrom, Bool.and_eq_true, decide_eq_true_eq] at hm ⊢
    exact ⟨⟨⟨le_trans h hm.1.1.1, hm.1.1.2⟩, hm.1.2⟩, hm.2⟩

theorem Memory.wfFrom_erase (a : Nat) : ∀ {lo : Nat} {m : List Host.Cell}, Memory.wfFrom lo m →
    Memory.wfFrom lo (Memory.erase m a)
  | _, [], _ => rfl
  | lo, (b, v) :: rest, hm => by
    simp only [Memory.wfFrom, Bool.and_eq_true, decide_eq_true_eq] at hm
    have ih := Memory.wfFrom_erase a hm.2
    by_cases hb : b = a
    · simp only [Memory.erase, List.filter_cons, hb, bne_self_eq_false] at ih ⊢
      exact Memory.wfFrom_mono (by omega) ih
    · have hne : (b != a) = true := by simp [hb]
      simp only [Memory.erase, List.filter_cons, hne, if_true, Memory.wfFrom, Bool.and_eq_true, decide_eq_true_eq]
      exact ⟨hm.1, ih⟩

theorem Memory.wfFrom_insert {a : Nat} {v : Byte} (ha : a < 2 ^ 32) (hv : v ≠ Memory.unlisted) :
    ∀ {lo : Nat} {m : List Host.Cell}, lo ≤ a → Memory.wfFrom lo m → (∀ c ∈ m, c.1 ≠ a) →
      Memory.wfFrom lo (Memory.insert a v m)
  | lo, [], hlo, _, _ => by
    simp only [Memory.insert, Memory.wfFrom, Bool.and_eq_true, decide_eq_true_eq, bne_iff_ne]
    exact ⟨⟨⟨hlo, ha⟩, hv⟩, trivial⟩
  | lo, (b, w) :: rest, hlo, hm, hne => by
    simp only [Memory.wfFrom, Bool.and_eq_true, decide_eq_true_eq] at hm
    have hb : b ≠ a := hne (b, w) (by simp)
    by_cases h : a < b
    · simp only [Memory.insert, h, if_true, Memory.wfFrom, Bool.and_eq_true, decide_eq_true_eq, bne_iff_ne]
      exact ⟨⟨⟨hlo, ha⟩, hv⟩, ⟨⟨by omega, hm.1.1.2⟩, bne_iff_ne.mp hm.1.2⟩, hm.2⟩
    · have hab : b < a := by omega
      simp only [Memory.insert, h, if_false, Memory.wfFrom, Bool.and_eq_true, decide_eq_true_eq]
      exact ⟨hm.1, Memory.wfFrom_insert ha hv (by omega) hm.2 fun c hc => hne c (by simp [hc])⟩

/-- A write keeps the canonical form. -/
theorem Memory.write_wf {m : List Host.Cell} {a : Nat} {v : Byte} (ha : a < 2 ^ 32) (hm : Memory.wf m) :
    Memory.wf (Memory.write m a v) := by
  unfold Memory.write Memory.wf
  split
  · exact Memory.wfFrom_erase a hm
  · rename_i hv
    refine Memory.wfFrom_insert ha hv (Nat.zero_le a) (Memory.wfFrom_erase a hm) fun c hc => ?_
    simpa using (List.mem_filter.mp hc).2

/-- Stores of several bytes keep the canonical form. -/
theorem Memory.scatter_wf : ∀ {addrs : List Nat} {m : List Host.Cell} {v : Nat}, (∀ a ∈ addrs, a < 2 ^ 32) →
    Memory.wf m → Memory.wf (Memory.scatter m v addrs)
  | [], _, _, _, hm => hm
  | a :: rest, m, v, h, hm =>
    Memory.scatter_wf (m := Memory.write m a (BitVec.ofNat 8 v)) (v := v / 256) (fun b hb => h b (by simp [hb])) (Memory.write_wf (h a (by simp)) hm)

/-! ## Read after write -/

theorem Memory.read_erase_ne {a b : Nat} (h : a ≠ b) : ∀ m : List Host.Cell,
    Memory.read (Memory.erase m b) a = Memory.read m a
  | [] => rfl
  | (c, w) :: rest => by
    have ih := Memory.read_erase_ne h rest
    by_cases hc : c = b
    · have hac : a ≠ c := fun e => h (e.trans hc)
      simp only [Memory.erase, List.filter_cons, hc, bne_self_eq_false, Memory.read] at ih ⊢
      simpa [h] using ih
    · have hne : (c != b) = true := by simp [hc]
      simp only [Memory.erase, List.filter_cons, hne, if_true, Memory.read] at ih ⊢
      rw [ih]

theorem Memory.read_erase_same (a : Nat) : ∀ m : List Host.Cell, Memory.read (Memory.erase m a) a = Memory.unlisted
  | [] => rfl
  | (c, w) :: rest => by
    have ih := Memory.read_erase_same a rest
    by_cases hc : c = a
    · simpa [Memory.erase, hc] using ih
    · have hne : (c != a) = true := by simp [hc]
      simp only [Memory.erase, List.filter_cons, hne, if_true, Memory.read] at ih ⊢
      simpa [Ne.symm hc] using ih

theorem Memory.read_insert_same (a : Nat) (v : Byte) : ∀ {m : List Host.Cell}, (∀ c ∈ m, c.1 ≠ a) →
    Memory.read (Memory.insert a v m) a = v
  | [], _ => by simp [Memory.insert, Memory.read]
  | (b, w) :: rest, h => by
    have hb : b ≠ a := h (b, w) (by simp)
    by_cases hab : a < b
    · simp [Memory.insert, hab, Memory.read]
    · simp only [Memory.insert, hab, if_false, Memory.read, Ne.symm hb]
      exact Memory.read_insert_same a v fun c hc => h c (by simp [hc])

theorem Memory.read_insert_ne {a b : Nat} (h : a ≠ b) (v : Byte) : ∀ m : List Host.Cell,
    Memory.read (Memory.insert b v m) a = Memory.read m a
  | [] => by simp [Memory.insert, Memory.read, h]
  | (c, w) :: rest => by
    by_cases hbc : b < c
    · simp [Memory.insert, hbc, Memory.read, h]
    · simp only [Memory.insert, hbc, if_false, Memory.read, Memory.read_insert_ne h v rest]

/-- A byte written is the byte read. -/
theorem Memory.read_write_same (m : List Host.Cell) (a : Nat) (v : Byte) : Memory.read (Memory.write m a v) a = v := by
  unfold Memory.write
  split
  · rename_i hv
    rw [Memory.read_erase_same, hv]
  · exact Memory.read_insert_same a v fun c hc => by simpa using (List.mem_filter.mp hc).2

/-- A write leaves every other byte alone. -/
theorem Memory.read_write_ne {a b : Nat} (h : a ≠ b) (m : List Host.Cell) (v : Byte) :
    Memory.read (Memory.write m b v) a = Memory.read m a := by
  unfold Memory.write
  split
  · exact Memory.read_erase_ne h m
  · rw [Memory.read_insert_ne h, Memory.read_erase_ne h]

/-- A store leaves every byte outside its addresses alone. -/
theorem Memory.read_scatter_outside {a : Nat} : ∀ {addrs : List Nat} (m : List Host.Cell) (v : Nat), a ∉ addrs →
    Memory.read (Memory.scatter m v addrs) a = Memory.read m a
  | [], _, _, _ => rfl
  | b :: rest, m, v, h => by
    have hab : a ≠ b := fun e => h (by simp [e])
    have har : a ∉ rest := fun hr => h (by simp [hr])
    rw [Memory.scatter, Memory.read_scatter_outside _ _ har, Memory.read_write_ne hab]

/-- What a store put at distinct addresses is gathered again. -/
theorem Memory.gather_scatter : ∀ {addrs : List Nat} (m : List Host.Cell) (v : Nat), addrs.Nodup →
    Memory.gather (Memory.scatter m v addrs) addrs = v % 256 ^ addrs.length
  | [], _, v, _ => by simp [Memory.gather, Nat.mod_one]
  | a :: rest, m, v, h => by
    have hn := List.nodup_cons.mp h
    have hread : Memory.read (Memory.scatter (Memory.write m a (BitVec.ofNat 8 v)) (v / 256) rest) a =
        BitVec.ofNat 8 v := by
      rw [Memory.read_scatter_outside _ _ hn.1, Memory.read_write_same]
    rw [Memory.scatter, Memory.gather, hread, Memory.gather_scatter _ _ hn.2, BitVec.toNat_ofNat, List.length_cons,
      Nat.pow_succ' (n := rest.length), Nat.mod_mul]

/-! ## Cells (20_memory R224) -/

variable {s t : State}

theorem State.cell_of_cfg (h : t.cfg = s.cfg) (a : Nat) : t.cell a = s.cell a := by simp only [State.cell, h]

theorem State.byteAt_of_mem (hc : t.cfg = s.cfg) (hm : t.mem = s.mem) (a : Nat) : t.byteAt a = s.byteAt a := by
  simp only [State.byteAt, State.cell_of_cfg hc, hm]

/-- The cell of an address: the address itself, or an address in segment CH or DH. -/
theorem State.cell_cases (s : State) (a : Nat) : s.cell a = a ∨
    (a / 2 ^ 28 ≤ 7 ∧ ∃ w : ScratchImage, ∃ g, (g = 0xC ∧ w = s.cfg.psprImage ∨ g = 0xD ∧ w = s.cfg.dsprImage) ∧
      w.offset ≤ a % 2 ^ 28 ∧ s.cell a = g * 2 ^ 28 + (a % 2 ^ 28 - w.offset)) := by
  unfold State.cell
  dsimp only
  generalize a % 2 ^ 28 = o
  split
  · by_cases hp : s.cfg.psprImage.offset ≤ o ∧ o < s.cfg.psprImage.offset + s.cfg.psprImage.size
    · exact .inr ⟨by omega, _, 0xC, .inl ⟨rfl, rfl⟩, hp.1, by simp [imageOf, hp]⟩
    · by_cases hd : s.cfg.dsprImage.offset ≤ o ∧ o < s.cfg.dsprImage.offset + s.cfg.dsprImage.size
      · exact .inr ⟨by omega, _, 0xD, .inr ⟨rfl, rfl⟩, hd.1, by simp [imageOf, hp, hd]⟩
      · exact .inl (by simp [imageOf, hp, hd])
  · exact .inl rfl

/-- The cell of an address of the 32-bit space lies in it. -/
theorem State.cell_lt {a : Nat} (h : a < 2 ^ 32) : s.cell a < 2 ^ 32 := by
  rcases s.cell_cases a with e | ⟨-, w, g, hg, -, e⟩
  · omega
  · rw [e]; rcases hg with ⟨rfl, -⟩ | ⟨rfl, -⟩ <;> omega

/-- Two addresses of one segment share no cell. -/
theorem State.cell_inj {a b : Nat} (hs : a / 2 ^ 28 = b / 2 ^ 28) (h : s.cell a = s.cell b) : a = b := by
  rcases s.cell_cases a with ea | ⟨ha, w, g, hg, hw, ea⟩ <;> rcases s.cell_cases b with eb | ⟨hb, v, k, hk, hv, eb⟩
  · omega
  · rw [ea, eb] at h
    rcases hk with ⟨rfl, -⟩ | ⟨rfl, -⟩ <;> omega
  · rw [ea, eb] at h
    rcases hg with ⟨rfl, -⟩ | ⟨rfl, -⟩ <;> omega
  · rw [ea, eb] at h
    rcases hg with ⟨rfl, rfl⟩ | ⟨rfl, rfl⟩ <;> rcases hk with ⟨rfl, rfl⟩ | ⟨rfl, rfl⟩ <;> omega

theorem State.cells_lt {addrs : List Nat} (h : ∀ a ∈ addrs, a < 2 ^ 32) : ∀ c ∈ addrs.map s.cell, c < 2 ^ 32 := by
  intro c hc
  obtain ⟨a, ha, rfl⟩ := List.mem_map.mp hc
  exact State.cell_lt (h a ha)

/-- Distinct addresses of one segment have distinct cells. -/
theorem State.cells_nodup {addrs : List Nat} (h : addrs.Nodup)
    (hs : ∀ a ∈ addrs, ∀ b ∈ addrs, a / 2 ^ 28 = b / 2 ^ 28) : (addrs.map s.cell).Nodup :=
  h.map_on fun a ha b hb e => State.cell_inj (hs a ha b hb) e

/-- A store leaves every byte outside its addresses alone. -/
theorem State.byteAt_writeAt_outside {addrs : List Nat} {a : Nat} (v : Nat) (h : s.cell a ∉ addrs.map s.cell) :
    (s.writeAt addrs v).byteAt a = s.byteAt a := by
  unfold State.byteAt
  rw [State.cell_of_cfg (s := s) (by simp)]
  exact Memory.read_scatter_outside _ _ h

/-- What a store put is read again. -/
theorem State.readAt_writeAt {addrs : List Nat} (v : Nat) (h : (addrs.map s.cell).Nodup) :
    (s.writeAt addrs v).readAt addrs = v % 256 ^ addrs.length := by
  have hc : (s.writeAt addrs v).cell = s.cell := funext fun a => State.cell_of_cfg (by simp) a
  rw [State.readAt, hc]
  exact (Memory.gather_scatter s.mem v h).trans (by rw [List.length_map])

theorem State.writeAt_wf {addrs : List Nat} (v : Nat) (ha : ∀ a ∈ addrs, a < 2 ^ 32) (h : Memory.wf s.mem) :
    Memory.wf (s.writeAt addrs v).mem :=
  Memory.scatter_wf (State.cells_lt ha) h

/-! ## The addresses of an access -/

theorem mem_span {a n b : Nat} : b ∈ span a n ↔ a ≤ b ∧ b < a + n := by
  simp only [span, List.mem_map, List.mem_range]
  constructor
  · rintro ⟨k, hk, rfl⟩; omega
  · intro h; exact ⟨b - a, by omega, by omega⟩

theorem span_nodup (a n : Nat) : (span a n).Nodup :=
  List.Nodup.map (fun i j h => by simpa using h) List.nodup_range

theorem span_lt {a : Word} (h : a.toNat % 4 = 0) : ∀ b ∈ span a.toNat 4, b < 2 ^ 32 := by
  intro b hb
  rw [mem_span] at hb
  have := a.isLt
  omega

theorem Access.addrs_lt (x : Access) : ∀ a ∈ x.addrs, a < 2 ^ 32 := by
  intro a ha
  obtain ⟨k, _, rfl⟩ := List.mem_map.mp ha
  exact (x.addr k).isLt

/-- Memory after reset lists nothing and so is in canonical form. -/
theorem reset_memory_wf : Memory.wf State.reset.mem = true := rfl

theorem State.putWord_wf {a : Word} (v : Word) (ha : a.toNat % 4 = 0) (h : Memory.wf s.mem) :
    Memory.wf (s.putWord a v).mem :=
  State.writeAt_wf _ (span_lt ha) h

theorem State.store_wf (x : Access) (v : Nat) (h : Memory.wf s.mem) : Memory.wf (s.store x v).mem := by
  have hw : Memory.wf (s.writeAt x.addrs v).mem = true := State.writeAt_wf v x.addrs_lt h
  unfold State.store
  dsimp only
  split <;> split <;> first | exact h | exact hw

end Sys2Proof.Machine
end

