-- ==== Sys2Proof/Laws/Frames.lean ====
section
/-! SUPPORT. Frames: what each update of a state keeps (`Kept`), and how frames compose. -/

namespace Sys2Proof.Machine

variable {s t u : State}

/-! ## Composition -/

theorem Kept.refl (s : State) : Kept s s [] [] [] :=
  ⟨fun _ _ => rfl, fun _ _ => rfl, fun _ _ _ _ => rfl, fun _ _ _ => rfl, fun _ => rfl, rfl, rfl⟩

theorem Kept.mono {ds as ds' as' : List Reg} {cs cs' : List Csfr} (h : Kept s t ds as cs)
    (hd : ds ⊆ ds') (ha : as ⊆ as') (hc : cs ⊆ cs') : Kept s t ds' as' cs' :=
  ⟨fun r hr => h.data r fun hm => hr (hd hm), fun r hr => h.addr r fun hm => hr (ha hm),
    fun r c hcs => h.csfr r c fun hm => hcs (hc hm), fun r c hcs => h.openUpdates r c fun hm => hcs (hc hm),
    fun hp => h.undef fun hm => hp (hc hm), h.hidden, h.fixed⟩

/-- Frames compose where the running resource stays the same. -/
theorem Kept.trans {ds as ds' as' : List Reg} {cs cs' : List Csfr} (h : Kept s t ds as cs) (h' : Kept t u ds' as' cs')
    (hr : t.res = s.res) : Kept s u (ds ++ ds') (as ++ as') (cs ++ cs') := by
  refine ⟨fun r hm => ?_, fun r hm => ?_, fun r c hm hg => ?_, fun r c hm => ?_, fun hm => ?_, ?_, ?_⟩
  · rw [h'.data r fun x => hm (by simp [x]), h.data r fun x => hm (by simp [x])]
  · rw [h'.addr r fun x => hm (by simp [x]), h.addr r fun x => hm (by simp [x])]
  · rw [h'.csfr r c (fun x => hm (by simp [x])) (fun n e => hr ▸ hg n e), h.csfr r c (fun x => hm (by simp [x])) hg]
  · rw [h'.openUpdates r c fun x => hm (by simp [x]), h.openUpdates r c fun x => hm (by simp [x])]
  · rw [h'.undef fun x => hm (by simp [x]), h.undef fun x => hm (by simp [x])]
  · rw [h'.hidden, h.hidden]
  · rw [h'.fixed, h.fixed]

/-- Frames after a context save, whose FCD request is left aside. -/
theorem Kept.transFcd {ds as ds' as' : List Reg} {cs cs' : List Csfr} (h : Kept s (t.withFcd s) ds as cs)
    (h' : Kept t u ds' as' cs') (hr : t.res = s.res) : Kept s (u.withFcd s) (ds ++ ds') (as ++ as') (cs ++ cs') := by
  refine h.trans ⟨h'.data, h'.addr, h'.csfr, h'.openUpdates, h'.undef, ?_, h'.fixed⟩ hr
  have e := h'.hidden
  simp only [Prod.mk.injEq] at e
  simp [State.withFcd, e]

/-- A state whose registers, hidden state and windows are the same keeps everything. -/
theorem Kept.of_eq (hcfg : t.cfg = s.cfg) (hpc : t.pc = s.pc) (hpsw : t.psw = s.psw) (hu : t.pswUndef = s.pswUndef)
    (hpcxi : t.pcxi = s.pcxi) (hpprs : t.pprs = s.pprs) (hd : t.d = s.d) (hca : t.ca = s.ca) (hhv : t.hv = s.hv)
    (hra : t.hra = s.hra) (hrb : t.hrb = s.hrb) (hsys : t.sys = s.sys) (hw : t.window = s.window)
    (hdr : t.draws = s.draws)
    (hh : (t.pendNmi, t.pendDae, t.pendCae, t.pendDie, t.breakIn, t.taskGate, t.vcon0Written, t.endinitOpen,
        t.safetyOpen, t.fcdPending, t.fetchError, t.out) =
      (s.pendNmi, s.pendDae, s.pendCae, s.pendDie, s.breakIn, s.taskGate, s.vcon0Written, s.endinitOpen,
        s.safetyOpen, s.fcdPending, s.fetchError, s.out)) : Kept s t [] [] [] := by
  have hhr : ∀ r, t.hr r = s.hr r := fun r => by cases r <;> simp [State.hr, hhv, hra, hrb]
  have hcv := State.cvmn_of_sys hsys
  have hres := State.res_of_sys hcfg hsys
  have hicr : ∀ r, t.icrVm r = s.icrVm r := fun r => by
    simp [State.icrVm, hres, State.vm, hcfg, hcv, State.freeW, hdr]
  refine ⟨fun r _ => State.getD_of_d hd r, fun r _ => State.getA_of_eq hca (by rw [hres, hhr]) r, fun r c _ _ => ?_,
    fun r c _ => by simp [State.stale, hw], fun _ => hu, hh, by rw [hcfg, hdr]⟩
  cases c <;>
    simp [State.raw, State.getRep, State.getSys, hhr, hsys, hpcxi, hpsw, hpc, hpprs, hcfg, hicr, State.coreIdWord,
      State.tcconWord, State.virtEnabled, hcv]

/-! ## The updates -/

theorem Kept.mem (m : List Host.Cell) : Kept s { s with mem := m } [] [] [] := Kept.of_eq rfl rfl rfl rfl rfl rfl rfl
  rfl rfl rfl rfl rfl rfl rfl rfl

theorem Kept.marks (entered evt : Bool) : Kept s { s with entered := entered, evt := evt } [] [] [] :=
  Kept.of_eq rfl rfl rfl rfl rfl rfl rfl rfl rfl rfl rfl rfl rfl rfl rfl

theorem Kept.setD (n : Reg) (v : Word) : Kept s (s.setD n v) [n] [] [] :=
  ⟨fun _ hr => s.getD_setD_ne (by simpa using hr) v, fun _ _ => rfl, fun _ c _ _ => by cases c <;> rfl,
    fun _ _ _ => rfl, fun _ => rfl, rfl, rfl⟩

theorem Kept.pc (a : Word) : Kept s { s with pc := a } [] [] [.pc] :=
  ⟨fun _ _ => rfl, fun _ _ => rfl, fun _ c hc _ => by cases c <;> first | rfl | simp at hc, fun _ _ _ => rfl,
    fun _ => rfl, rfl, rfl⟩

theorem Kept.advance (n : Nat) : Kept s (s.advance n) [] [] [.pc] := Kept.pc _

theorem Kept.jump (a : Word) : Kept s (s.jump a) [] [] [.pc] := Kept.pc _

@[simp] theorem State.getRep_setA (n : Reg) (v : Word) (r : Resource) (x : RepReg) : (s.setA n v).getRep r x = s.getRep r x := by
  unfold State.setA State.getRep
  split
  · by_cases hr : r = s.res
    · subst hr; simp
    · rw [State.setHr_hr_ne _ hr]
  · rfl

@[simp] theorem State.getSys_setA (n : Reg) (v : Word) (x : SysReg) : (s.setA n v).getSys x = s.getSys x := by
  simp [State.getSys]

theorem State.icrVm_of_sys (hcfg : t.cfg = s.cfg) (hsys : t.sys = s.sys) (hdr : t.draws = s.draws) (r : Resource) :
    t.icrVm r = s.icrVm r := by
  simp [State.icrVm, State.res_of_sys hcfg hsys, State.vm, hcfg, State.cvmn_of_sys hsys, State.freeW, hdr]

theorem Kept.setA (n : Reg) (v : Word) : Kept s (s.setA n v) [] [n] [] := by
  refine ⟨fun r _ => s.getD_setA r n v, fun r hr => s.getA_setA_ne (by simpa using hr) v, fun r c _ hg => ?_,
    fun r c _ => by simp [State.stale], fun _ => by simp, by simp, by simp⟩
  have hicr := State.icrVm_of_sys (s := s) (t := s.setA n v) (by simp) (by simp) (by simp) r
  cases c with
  | rep x => exact State.getRep_setA n v r x
  | ga m =>
    have hr : r ≠ s.res := hg m rfl
    have h : (s.setA n v).hr r = s.hr r := by
      unfold State.setA
      cases aHome n with
      | ga i => exact State.setHr_hr_ne _ hr _
      | ctx i => rfl
    simp only [State.raw, h]
  | icr => simp [State.raw, State.getSys, hicr]
  | _ => simp [State.raw, State.getSys, State.coreIdWord, State.tcconWord, State.virtEnabled, State.cvmn]

/-- A hardware update of one register touches the open updates of that register alone. -/
theorem State.stale_hw (q : Resource) (k : Csfr) (f : Word → Word) {r : Resource} {c : Csfr}
    (h : c ≠ s.canon q k) : (s.hw q k f).stale r c = s.stale r c := by
  have hw : (s.hw q k f).window =
      s.window.map fun e => if e.res = (s.canon q k).home q && e.reg = s.canon q k then { e with old := f e.old } else e := by
    simp only [State.hw]
    cases k <;> simp [State.setRaw]
  simp only [State.stale, hw]
  induction s.window with
  | nil => rfl
  | cons e rest ih =>
    by_cases he : (e.res = (s.canon q k).home q && e.reg = s.canon q k) = true
    · have hne : (e.res = c.home r && e.reg = c) = false := by
        simp only [Bool.and_eq_true, decide_eq_true_eq] at he
        have : e.reg ≠ c := fun x => h (x ▸ he.2)
        simp [this]
      simp only [List.map_cons, he, if_true, List.filter_cons, hne] at ih ⊢
      simpa using ih
    · simp only [List.map_cons, he, List.filter_cons] at ih ⊢
      by_cases hc : (e.res = c.home r && e.reg = c) = true
      · simpa [hc] using ih
      · simpa [hc] using ih

theorem Kept.hwPsw (q : Resource) (f : Word → Word) : Kept s (s.hw q .psw f) [] [] [.psw] :=
  ⟨fun _ _ => rfl, fun _ _ => rfl, fun _ c hc _ => by cases c <;> first | rfl | simp at hc,
    fun _ _ hc => State.stale_hw q .psw f (by simpa [State.canon] using hc), fun _ => rfl, rfl, rfl⟩

theorem Kept.modPsw (f : Word → Word) : Kept s (s.modPsw f) [] [] [.psw] := Kept.hwPsw _ f

theorem Kept.hwPcxi (q : Resource) (f : Word → Word) : Kept s (s.hw q .pcxi f) [] [] [.pcxi] :=
  ⟨fun _ _ => rfl, fun _ _ => rfl, fun _ c hc _ => by cases c <;> first | rfl | simp at hc,
    fun _ _ hc => State.stale_hw q .pcxi f (by simpa [State.canon] using hc), fun _ => rfl, rfl, rfl⟩

theorem Kept.hwPprs (q : Resource) (f : Word → Word) : Kept s (s.hw q .pprs f) [] [] [.pprs] :=
  ⟨fun _ _ => rfl, fun _ _ => rfl, fun _ c hc _ => by cases c <;> first | rfl | simp at hc,
    fun _ _ hc => State.stale_hw q .pprs f (by simpa [State.canon] using hc), fun _ => rfl, rfl, rfl⟩

@[simp] theorem State.res_hwRep (q : Resource) (x : RepReg) (f : Word → Word) : (s.hw q (.rep x) f).res = s.res :=
  State.res_of_sys (by simp) (by simp)

theorem State.hr_of_eq (h1 : t.hv = s.hv) (h2 : t.hra = s.hra) (h3 : t.hrb = s.hrb) (r : Resource) : t.hr r = s.hr r := by
  cases r <;> simp [State.hr, *]

@[simp] theorem State.res_modPsw (f : Word → Word) : (s.modPsw f).res = s.res := rfl

/-- The registers of a resource after a hardware update of a replicated register. -/
theorem State.hr_hwRep (q : Resource) (x : RepReg) (f : Word → Word) (r : Resource) :
    (s.hw q (.rep x) f).hr r =
      if r = q then { s.hr q with regs := (s.hr q).regs.set x.index (f (s.getRep q x)) } else s.hr r := by
  have h : (s.hw q (.rep x) f).hr r =
      (s.setHr q { s.hr q with regs := (s.hr q).regs.set x.index (f (s.getRep q x)) }).hr r := by
    cases r <;> simp [State.hw, State.setRaw, State.raw, State.hr]
  rw [h]
  split
  · rename_i e; subst e; simp
  · rename_i hne; exact State.setHr_hr_ne _ hne _

theorem State.getRep_hwRep_same (q : Resource) (x : RepReg) (f : Word → Word) :
    (s.hw q (.rep x) f).getRep q x = f (s.getRep q x) := by
  simp [State.getRep, State.hr_hwRep, vector_get]

theorem State.getRep_hwRep_ne {q r : Resource} {x y : RepReg} (h : r ≠ q ∨ y ≠ x) (f : Word → Word) :
    (s.hw q (.rep x) f).getRep r y = s.getRep r y := by
  unfold State.getRep
  rw [State.hr_hwRep]
  split
  · rename_i e; subst e
    have hne : x.index.val ≠ y.index.val := fun e =>
      (h.resolve_left fun n => n rfl) (RepReg.index_injective _ _ (Fin.ext e.symm))
    simp [vector_get, hne]
  · rfl

theorem State.ga_hwRep (q r : Resource) (x : RepReg) (f : Word → Word) : ((s.hw q (.rep x) f).hr r).ga = (s.hr r).ga := by
  rw [State.hr_hwRep]
  split
  · rename_i e; subst e; rfl
  · rfl

theorem Kept.hwRep (q : Resource) (x : RepReg) (f : Word → Word) : Kept s (s.hw q (.rep x) f) [] [] [.rep x] := by
  have hres := State.res_of_sys (s := s) (t := s.hw q (.rep x) f) (by simp) (by simp)
  have hicr := State.icrVm_of_sys (s := s) (t := s.hw q (.rep x) f) (by simp) (by simp) (by simp)
  refine ⟨fun r _ => State.getD_of_d (by simp) r, fun r _ => ?_, fun r c hc _ => ?_,
    fun _ _ hc => State.stale_hw q (.rep x) f (by simpa [State.canon] using hc), fun _ => by simp, by simp, by simp⟩
  · simp [State.getA, hres, State.ga_hwRep]
  · cases c with
    | rep y => exact State.getRep_hwRep_ne (.inr fun e => hc (by simp [e])) f
    | ga n => simp [State.raw, State.ga_hwRep]
    | icr => simp [State.raw, State.getSys, hicr]
    | _ => simp [State.raw, State.getSys, State.coreIdWord, State.tcconWord, State.virtEnabled, State.cvmn]

theorem Kept.hwCurRep (x : RepReg) (f : Word → Word) : Kept s (s.hwCur (.rep x) f) [] [] [.rep x] := Kept.hwRep _ x f

/-- An update of a single-copy register that does not select the running machine or virtualization. -/
theorem Kept.hwSys {x : SysReg} (hv1 : x ≠ .vcon1) (hv0 : x ≠ .vcon0) (q : Resource) (f : Word → Word) :
    Kept s (s.hw q (.sys x) f) [] [] (.sys x :: if (∃ n, x = .vmIcr n) then [.icr] else []) := by
  have hcv : (s.hw q (.sys x) f).cvmn = s.cvmn := by
    unfold State.cvmn; rw [State.getSys_hw_ne _ (Ne.symm hv1)]
  have hres : (s.hw q (.sys x) f).res = s.res := by simp [State.res, hcv]
  have hv : (s.hw q (.sys x) f).virtEnabled = s.virtEnabled := by
    unfold State.virtEnabled; rw [State.getSys_hw_ne _ (Ne.symm hv0)]; rfl
  have hicr : ∀ r, (s.hw q (.sys x) f).icrVm r = s.icrVm r := fun r => by
    simp [State.icrVm, hres, State.vm, hcv, State.freeW]
  refine ⟨fun r _ => rfl, fun r _ => ?_, fun r c hc _ => ?_,
    fun _ c hc => State.stale_hw q (.sys x) f (fun e => hc (by simp [e, State.canon])), fun _ => rfl, rfl, rfl⟩
  · simp only [State.getA, hres]; rfl
  · cases c with
    | sys y => exact s.getSys_hw_ne (fun e => hc (by simp [e])) q f
    | icr =>
      have hne : icrOf (s.icrVm r) ≠ x := by
        intro e
        exact hc (by simp [← e, icrOf])
      simp only [State.raw, hicr]
      exact s.getSys_hw_ne hne q f
    | coreId => simp [State.raw, State.coreIdWord, hcv, hv]
    | tccon => simp [State.raw, State.tcconWord, hv]
    | _ => rfl

/-- An update of ICR is one of the running machine's VMn_ICR. -/
theorem State.hw_icr_eq (q : Resource) (f : Word → Word) : s.hw q .icr f = s.hw q (.sys (icrOf (s.icrVm q))) f := rfl

theorem State.icrVm_res : s.icrVm s.res = s.vm := by simp [State.icrVm]

theorem Kept.hwCurIcr (f : Word → Word) : Kept s (s.hwCur .icr f) [] [] [.sys (icrOf s.vm), .icr] := by
  have h := Kept.hwSys (s := s) (x := icrOf s.vm) (by simp [icrOf]) (by simp [icrOf]) s.res f
  have e : s.hwCur .icr f = s.hw s.res (.sys (icrOf s.vm)) f := by
    simp [State.hwCur, State.hw_icr_eq, State.icrVm_res]
  rw [e]
  exact h.mono (by simp) (by simp) (by simp [icrOf])

/-! ## ICR -/

/-- ICR depends on the single-copy registers, the configuration and the count of draws alone. -/
theorem State.raw_icr_of_sys (hc : t.cfg = s.cfg) (hs : t.sys = s.sys) (hd : t.draws = s.draws) (r : Resource) :
    t.raw r .icr = s.raw r .icr := by
  simp only [State.raw, State.icrVm_of_sys hc hs hd, State.getSys, hs]

theorem icrOf_ne_vcon1 (vm : BitVec 3) : icrOf vm ≠ .vcon1 := by simp [icrOf]

@[simp] theorem State.cvmn_hwIcr (q : Resource) (f : Word → Word) : (s.hw q .icr f).cvmn = s.cvmn := by
  unfold State.cvmn
  rw [State.hw_icr_eq, State.getSys_hw_ne _ (Ne.symm (icrOf_ne_vcon1 _))]

@[simp] theorem State.res_hwIcr (q : Resource) (f : Word → Word) : (s.hw q .icr f).res = s.res := by simp [State.res]

@[simp] theorem State.vm_hwIcr (q : Resource) (f : Word → Word) : (s.hw q .icr f).vm = s.vm := by simp [State.vm]

@[simp] theorem State.getD_hwIcr (q : Resource) (f : Word → Word) (n : Reg) : (s.hw q .icr f).getD n = s.getD n := rfl

@[simp] theorem State.getRep_hwIcr (q : Resource) (f : Word → Word) (r : Resource) (x : RepReg) :
    (s.hw q .icr f).getRep r x = s.getRep r x := rfl

@[simp] theorem State.getA_hwIcr (q : Resource) (f : Word → Word) (n : Reg) : (s.hw q .icr f).getA n = s.getA n :=
  State.getA_of_eq (s := s) (t := s.hw q .icr f) rfl (by simp [State.hr]) n

theorem State.getSys_hwIcr_ne {q : Resource} {x : SysReg} (h : x ≠ icrOf (s.icrVm q)) (f : Word → Word) :
    (s.hw q .icr f).getSys x = s.getSys x := by rw [State.hw_icr_eq, State.getSys_hw_ne _ h]

theorem State.getSys_hwIcr_same (q : Resource) (f : Word → Word) :
    (s.hw q .icr f).getSys (icrOf (s.icrVm q)) = f (s.raw q .icr) := by
  rw [State.hw_icr_eq, State.getSys_hw_same]; rfl

/-- An update of the running machine's ICR. -/
theorem State.raw_icr_hwIcr (f : Word → Word) : (s.hw s.res .icr f).raw s.res .icr = f (s.raw s.res .icr) := by
  have h : (s.hw s.res .icr f).icrVm s.res = s.icrVm s.res := by simp [State.icrVm]
  simp only [State.raw, h]
  exact State.getSys_hwIcr_same s.res f

end Sys2Proof.Machine
end

