-- ==== Sys2Proof/Laws/Ops.lean ====
section
/-! SUPPORT. What each shared operation can do: verdicts, results in a register. -/

namespace Sys2Proof.Machine
variable {s t : State}

theorem Verdict.first_cons_go (vs : List Verdict) : Verdict.first (.go :: vs) = Verdict.first vs := rfl
theorem Verdict.first_eq_go : ∀ {vs : List Verdict}, Verdict.first vs = .go ↔ ∀ v ∈ vs, v = .go
  | [] => by simp [Verdict.first]
  | v :: rest => by
    cases v <;> simp [Verdict.first, Verdict.first_eq_go (vs := rest)]

@[simp] theorem Verdict.need_eq_go {b : Bool} {v : Verdict} : Verdict.need b v = .go ↔ b = true ∨ v = .go := by
  cases b <;> simp [Verdict.need]

theorem State.conclude_go {v : Verdict} (h : v = .go) (e : State) : s.conclude v e = .next e := by rw [h]; rfl

theorem Kept.setD_advance (n : Reg) (v : Word) (len : Nat) : Kept s ((s.setD n v).advance len) [n] [] [.pc] :=
  (Kept.setD n v).trans (Kept.advance len) rfl

theorem Kept.setA_advance (n : Reg) (v : Word) (len : Nat) : Kept s ((s.setA n v).advance len) [] [n] [.pc] :=
  (Kept.setA n v).trans (Kept.advance len) (by simp)

theorem KeepsMemory.of_mem (hc : t.cfg = s.cfg) (h : t.mem = s.mem) : KeepsMemory s t := State.byteAt_of_mem hc h

theorem State.writeD_spec (s : State) (len : Nat) (c : Reg) (v : Word) :
    ∃ t, s.writeD len c v = .next t ∧ t.getD c = v ∧ t.pc = s.pc + BitVec.ofNat 32 len ∧ KeepsMemory s t ∧
      Kept s t [c] [] [.pc] :=
  ⟨_, rfl, State.getD_setD_same s c v, rfl, fun _ => rfl, Kept.setD_advance c v len⟩

theorem writeD_of (s : State) (len : Nat) (c : Reg) {v v' : Word} (h : v = v') :
    ∃ t, s.writeD len c v = .next t ∧ t.getD c = v' ∧ t.pc = s.pc + BitVec.ofNat 32 len ∧ KeepsMemory s t ∧
      Kept s t [c] [] [.pc] := h ▸ s.writeD_spec len c v

end Sys2Proof.Machine
end

