-- ==== Sys2Proof/Laws/Contexts.lean ====
section
/-! SUPPORT. Context save areas: the words of a CSA, and all that `saveList` and `restoreList` do. -/

namespace Sys2Proof.Machine

variable {s t : State}

/-! ## Words of memory -/

/-- A state with another memory keeps the rest, by definition. -/
theorem State.putWords_eq (a : Word) (ws : List Word) : s.putWords a ws = { s with mem := (s.putWords a ws).mem } := by
  induction ws generalizing s a with
  | nil => rfl
  | cons w rest ih => rw [State.putWords, ih]; rfl

/-- The cells of addresses of one segment are distinct. -/
theorem State.span_cells_nodup {a n : Nat} (h : a % 2 ^ 28 + n ≤ 2 ^ 28) : ((span a n).map s.cell).Nodup :=
  State.cells_nodup (span_nodup a n) fun b hb c hc => by rw [mem_span] at hb hc; omega

/-- The word just stored. -/
theorem State.wordAt_putWord_same {a : Word} (v : Word) (h : a.toNat % 4 = 0) : (s.putWord a v).wordAt a = v := by
  rw [State.wordAt, State.putWord, State.readAt_writeAt _ (State.span_cells_nodup (by omega))]
  have : v.toNat % 256 ^ (span a.toNat 4).length = v.toNat := by
    rw [show (span a.toNat 4).length = 4 by simp [span]]
    exact Nat.mod_eq_of_lt (by have := v.isLt; omega)
  rw [this]; simp

theorem Memory.gather_congr {m m' : List Host.Cell} : ∀ {as : List Nat}, (∀ a ∈ as, Memory.read m' a = Memory.read m a) →
    Memory.gather m' as = Memory.gather m as
  | [], _ => rfl
  | a :: rest, h => by
    rw [Memory.gather, Memory.gather, h a (by simp), Memory.gather_congr fun b hb => h b (by simp [hb])]

/-- A number read from two memories through two cell maps that agree on its bytes. -/
theorem Memory.gather_map_congr {m m' : List Host.Cell} {f g : Nat → Nat} : ∀ {as : List Nat},
    (∀ a ∈ as, Memory.read m' (g a) = Memory.read m (f a)) → Memory.gather m' (as.map g) = Memory.gather m (as.map f)
  | [], _ => rfl
  | a :: rest, h => by
    rw [List.map_cons, List.map_cons, Memory.gather, Memory.gather, h a (by simp),
      Memory.gather_map_congr fun b hb => h b (by simp [hb])]

/-- A number whose bytes are kept is kept. -/
theorem State.readAt_congr {as : List Nat} (h : ∀ b ∈ as, t.byteAt b = s.byteAt b) : t.readAt as = s.readAt as :=
  Memory.gather_map_congr h

/-- A word whose bytes are kept is kept. -/
theorem State.wordAt_congr {a : Word} (h : ∀ b ∈ span a.toNat 4, t.byteAt b = s.byteAt b) : t.wordAt a = s.wordAt a := by
  rw [State.wordAt, State.wordAt, State.readAt_congr h]

theorem State.putWord_keeps (a v : Word) : KeepsMemoryBut s (s.putWord a v) (span a.toNat 4) :=
  fun _ hb => State.byteAt_writeAt_outside _ hb

/-- Words stored from a word-aligned address on, without leaving the address space. -/
theorem State.putWords_keeps {a : Word} {ws : List Word} (h : a.toNat + 4 * ws.length ≤ 2 ^ 32) :
    KeepsMemoryBut s (s.putWords a ws) (span a.toNat (4 * ws.length)) := by
  induction ws generalizing s a with
  | nil => exact fun _ _ => rfl
  | cons w rest ih =>
    intro b hb
    have hsub : ∀ {c n : Nat}, a.toNat ≤ c → c + n ≤ a.toNat + 4 * (w :: rest).length →
        s.cell b ∉ (span c n).map s.cell := fun hl hr hm => by
      obtain ⟨d, hd, e⟩ := List.mem_map.mp hm
      exact hb (List.mem_map.mpr ⟨d, by rw [mem_span] at hd ⊢; omega, e⟩)
    rw [List.length_cons] at h hsub
    rw [State.putWords]
    by_cases hr : rest = []
    · subst hr
      exact State.putWord_keeps a w b (hsub le_rfl (by simp))
    · have hl : 0 < rest.length := List.length_pos_iff.mpr hr
      have ha : (a + 4).toNat = a.toNat + 4 := by
        rw [BitVec.toNat_add]; exact Nat.mod_eq_of_lt (by simp; omega)
      rw [ih (s := s.putWord a w) (by omega) b (hsub (by omega) (by omega))]
      exact State.putWord_keeps a w b (hsub le_rfl (by omega))

/-- Words stored from a word-aligned address on, within one segment. -/
theorem State.putWords_holds {a : Word} {ws : List Word} (h4 : a.toNat % 4 = 0)
    (h : a.toNat % 2 ^ 28 + 4 * ws.length ≤ 2 ^ 28) : HoldsWords (s.putWords a ws) a ws := by
  induction ws generalizing s a with
  | nil => intro k w hk; simp at hk
  | cons w rest ih =>
    intro k x hk
    rw [List.length_cons] at h
    rw [State.putWords]
    by_cases hr : rest = []
    · subst hr
      cases k with
      | zero =>
        simp only [List.getElem?_cons_zero, Option.some.injEq] at hk
        subst hk
        simpa [State.putWords] using State.wordAt_putWord_same (s := s) w h4
      | succ j => simp at hk
    · have hl : 0 < rest.length := List.length_pos_iff.mpr hr
      have hlt := a.isLt
      have ha : (a + 4).toNat = a.toNat + 4 := by
        rw [BitVec.toNat_add]; exact Nat.mod_eq_of_lt (by simp; omega)
      cases k with
      | zero =>
        simp only [List.getElem?_cons_zero, Option.some.injEq] at hk
        subst hk
        rw [Nat.mul_zero, BitVec.add_zero]
        refine (State.wordAt_congr fun b hb => ?_).trans (State.wordAt_putWord_same (s := s) w h4)
        refine State.putWords_keeps (by omega) b fun x => ?_
        obtain ⟨d, hd, e⟩ := List.mem_map.mp x
        rw [mem_span] at hd hb
        have := State.cell_inj (by omega) e
        omega
      | succ j =>
        have := ih (s := s.putWord a w) (a := a + 4) (by omega) (by omega) j x (by simpa using hk)
        rw [← this]
        congr 1
        rw [Nat.mul_succ, Nat.add_comm, BitVec.ofNat_add, BitVec.add_assoc]
        rfl

/-! ## The address of a CSA -/

theorem csaEa_aligned (p : BitVec 20) : (csaEa p).toNat % 64 = 0 := by
  rw [csaEa, BitVec.toNat_append]
  simp [Nat.shiftLeft_eq]

theorem csaEa_room (p : BitVec 20) : (csaEa p).toNat + 64 ≤ 2 ^ 32 := by
  have := csaEa_aligned p
  have := (csaEa p).isLt
  omega

/-- A CSA lies in one segment. -/
theorem csaEa_segment (p : BitVec 20) : (csaEa p).toNat % 2 ^ 28 + 64 ≤ 2 ^ 28 := by
  have := csaEa_aligned p
  omega

/-! ## The lists -/

theorem Kept.putWords (a : Word) (ws : List Word) : Kept s (s.putWords a ws) [] [] [] := by
  rw [State.putWords_eq]; exact Kept.mem _

theorem State.saveCheck_fcx (h : s.saveCheck = .go) : s.fcx ≠ 0 := by
  rw [State.saveCheck, Verdict.first_eq_go] at h
  simpa using h (.need (s.fcx != 0) (.fcu .none)) (by simp)

/-- A context save but for the FCD request. -/
def State.linked (s : State) (ul : Bool) (block : List Word) : State :=
  ((s.putWords (csaEa s.fcx) (s.link :: block)).hw .hv .pcxi fun p =>
    pcxiSetInfo (pcxiSetLink p ul s.fcx) (icrIe (s.ctl .icr .context)) (icrCcpn (s.ctl .icr .context))).hw s.res (.rep .fcx)
      fun f => setField f 0 (field (s.wordAt (csaEa s.fcx)) 0 20)

@[simp] theorem State.res_putWords (a : Word) (ws : List Word) : (s.putWords a ws).res = s.res := by
  rw [State.putWords_eq]; rfl

theorem State.saveList_eq (ul : Bool) (block : List Word) :
    s.saveList ul block = { s.linked ul block with fcdPending := s.fcdPending || s.fcx == s.lcx } := by
  have h : (s.putWords (csaEa s.fcx) (s.link :: block)).fcdPending = s.fcdPending := by rw [State.putWords_eq]
  have h' : (s.linked ul block).fcdPending = s.fcdPending := by simp [State.linked, h]
  rw [← h']
  simp only [State.saveList, State.hwCur, State.res_hwPcxi, State.res_putWords]
  rfl

@[simp] theorem State.linked_mem (ul : Bool) (block : List Word) :
    (s.linked ul block).mem = (s.putWords (csaEa s.fcx) (s.link :: block)).mem := by simp [State.linked]

theorem State.linked_pcxi (ul : Bool) (block : List Word) : (s.linked ul block).pcxi =
    pcxiSetInfo (pcxiSetLink s.pcxi ul s.fcx) (icrIe (s.ctl .icr .context)) (icrCcpn (s.ctl .icr .context)) := by
  have : (s.putWords (csaEa s.fcx) (s.link :: block)).pcxi = s.pcxi := by rw [State.putWords_eq]
  simp [State.linked, this]

theorem State.linked_fcx (ul : Bool) (block : List Word) (r : Resource) : (s.linked ul block).getRep r .fcx =
    if r = s.res then setField (s.getRep r .fcx) 0 (field (s.wordAt (csaEa s.fcx)) 0 20) else s.getRep r .fcx := by
  have hg : (s.putWords (csaEa s.fcx) (s.link :: block)).getRep r .fcx = s.getRep r .fcx := by
    rw [State.putWords_eq]; rfl
  unfold State.linked
  split
  · rename_i h; subst h; rw [State.getRep_hwRep_same, State.getRep_hwPcxi, hg]
  · rename_i h; rw [State.getRep_hwRep_ne (.inl h), State.getRep_hwPcxi, hg]

theorem Kept.linked (ul : Bool) (block : List Word) : Kept s (s.linked ul block) [] [] [.pcxi, .rep .fcx] :=
  ((Kept.putWords _ _).trans (Kept.hwPcxi _ _) (State.res_putWords _ _)).trans (Kept.hwRep _ _ _)
    (by rw [State.res_hwPcxi, State.res_putWords])

/-- What a context save keeps. -/
theorem Kept.saveList (ul : Bool) (block : List Word) :
    Kept s ((s.saveList ul block).withFcd s) [] [] [.pcxi, .rep .fcx] := by
  have e : (s.saveList ul block).withFcd s = s.linked ul block := by
    have h : (s.putWords (csaEa s.fcx) (s.link :: block)).fcdPending = s.fcdPending := by rw [State.putWords_eq]
    have h' : (s.linked ul block).fcdPending = s.fcdPending := by simp [State.linked, h]
    rw [State.saveList_eq, State.withFcd, ← h']
  rw [e]; exact Kept.linked ul block

/-- All that a context save does (41 R392). -/
theorem State.saveList_spec (hw : s.window = []) (ul : Bool) {block : List Word} (hb : block.length = 15) :
    SavesContext s (s.saveList ul block) ul block := by
  have hl : s.link = s.pcxi := s.ctl_of_window_nil hw .pcxi .context
  have hi : s.ctl .icr .context = s.raw s.res .icr := s.ctl_of_window_nil hw .icr .context
  have hroom := csaEa_room s.fcx
  have hlen : (s.link :: block).length = 16 := by simp [hb]
  have hmem : (s.saveList ul block).mem = (s.putWords (csaEa s.fcx) (s.link :: block)).mem := by
    rw [State.saveList_eq, ← State.linked_mem]
  have hcfg : (s.saveList ul block).cfg = (s.putWords (csaEa s.fcx) (s.link :: block)).cfg := by
    rw [State.saveList_eq]; simp [State.linked]
  refine ⟨?_, ?_, ?_, ?_, ?_, ?_⟩
  · have h := State.putWords_holds (s := s) (a := csaEa s.fcx) (ws := s.link :: block)
      (by have := csaEa_aligned s.fcx; omega) (by have := csaEa_segment s.fcx; omega)
    intro k w hk
    rw [← hl] at hk
    rw [← h k w hk]
    exact State.wordAt_congr fun b _ => State.byteAt_of_mem hcfg hmem b
  · have h := State.putWords_keeps (s := s) (a := csaEa s.fcx) (ws := s.link :: block) (by omega)
    intro a ha
    rw [← h a (by rw [hlen]; exact ha)]
    exact State.byteAt_of_mem hcfg hmem a
  · rw [State.saveList_eq, ← hi]; exact State.linked_pcxi ul block
  · rw [State.saveList_eq]; exact (State.linked_fcx ul block s.res).trans (if_pos rfl)
  · intro r hr; rw [State.saveList_eq]; exact (State.linked_fcx ul block r).trans (if_neg hr)
  · rw [State.saveList_eq]

/-- A context restore's work on the lists: all that `restoreList` does (41 R393). -/
theorem State.restoreList_spec (hw : s.window = []) : RestoresList s s.restoreList := by
  have hl : s.link = s.pcxi := s.ctl_of_window_nil hw .pcxi .context
  have hf : s.ctl (.rep .fcx) .context = s.raw s.res (.rep .fcx) := s.ctl_of_window_nil hw _ _
  have hmem : s.restoreList.mem = (s.putWord (csaEa (pcx s.link)) (s.ctl (.rep .fcx) .context)).mem := by
    simp [State.restoreList, State.hwCur]
  have hcfg : s.restoreList.cfg = (s.putWord (csaEa (pcx s.link)) (s.ctl (.rep .fcx) .context)).cfg := by
    simp [State.restoreList, State.hwCur]
  refine ⟨?_, ?_, ?_, ?_⟩
  · simp [State.restoreList, State.linkWord]
  · simp only [State.restoreList, State.raw, State.hwCur, State.getRep_hwPcxi, State.res_putWord]
    rw [State.getRep_hwRep_same, hl]; rfl
  · rw [← hl, ← hf]
    have h4 := csaEa_aligned (pcx s.link)
    exact (State.wordAt_congr fun b _ => State.byteAt_of_mem hcfg hmem b).trans
      (State.wordAt_putWord_same (s := s) _ (by omega))
  · intro a ha
    rw [← hl] at ha
    rw [← State.putWord_keeps (s := s) (csaEa (pcx s.link)) (s.ctl (.rep .fcx) .context) a ha]
    exact State.byteAt_of_mem hcfg hmem a

/-- What a state says of the lists depends on memory, PCXI and FCX alone. -/
theorem RestoresList.congr {u : State} (h : RestoresList s t) (hc : u.cfg = t.cfg) (hm : u.mem = t.mem) (hp : u.pcxi = t.pcxi)
    (hf : u.raw s.res (.rep .fcx) = t.raw s.res (.rep .fcx)) : RestoresList s u := by
  have hb : ∀ a, u.byteAt a = t.byteAt a := State.byteAt_of_mem hc hm
  exact ⟨hp.trans h.pcxi, hf.trans h.fcx, (State.wordAt_congr fun b _ => hb b).trans h.word,
    fun a ha => (hb a).trans (h.memory a ha)⟩

theorem SavesContext.congr {u : State} {ul : Bool} {block : List Word} (h : SavesContext s t ul block)
    (hc : u.cfg = t.cfg) (hm : u.mem = t.mem) (hp : u.pcxi = t.pcxi) (hf : ∀ r, u.raw r (.rep .fcx) = t.raw r (.rep .fcx))
    (hd : u.fcdPending = t.fcdPending) : SavesContext s u ul block := by
  have hb : ∀ a, u.byteAt a = t.byteAt a := State.byteAt_of_mem hc hm
  exact ⟨fun k w hk => (State.wordAt_congr fun b _ => hb b).trans (h.words k w hk),
    fun a ha => (hb a).trans (h.memory a ha), hp.trans h.pcxi, (hf _).trans h.fcx,
    fun r hr => (hf r).trans (h.otherFcx r hr), hd.trans h.fcd⟩

/-- What a context restore's work on the lists keeps. -/
theorem Kept.restoreList : Kept s s.restoreList [] [] [.rep .fcx, .pcxi] :=
by
  have h1 := Kept.mem (s := s) (s.putWord (csaEa (pcx s.link)) (s.ctl (.rep .fcx) .context)).mem
  have h2 := h1.trans (Kept.hwRep s.res .fcx fun f => setField f 0 (pcx s.link)) rfl
  exact h2.trans (Kept.hwPcxi .hv fun _ => s.wordAt (csaEa (pcx s.link))) (State.res_hwRep ..)

end Sys2Proof.Machine
end

