-- ==== Sys2Proof/Laws/Blocks.lean ====
section
/-! SUPPORT. The registers of a context: what writing the upper or the lower block leaves, and what it holds. -/

namespace Sys2Proof.Machine

variable {s t : State}

/-- Frames of writes of general registers compose without a condition. -/
theorem Kept.andD {ds as : List Reg} {cs : List Csfr} (h : Kept s t ds as cs) (n : Reg) (v : Word) (hr : t.res = s.res) :
    Kept s (t.setD n v) (ds ++ [n]) as cs := by
  simpa using h.trans (Kept.setD n v) hr

theorem Kept.andA {ds as : List Reg} {cs : List Csfr} (h : Kept s t ds as cs) (n : Reg) (v : Word) (hr : t.res = s.res) :
    Kept s (t.setA n v) ds (as ++ [n]) cs := by
  simpa using h.trans (Kept.setA n v) hr

@[simp] theorem State.res_setUpper (w : Nat → Word) : (s.setUpper w).res = s.res := by simp [State.setUpper]
@[simp] theorem State.res_setLower (w : Nat → Word) : (s.setLower w).res = s.res := by simp [State.setLower]
@[simp] theorem State.res_scramble : s.scramble.res = s.res := by simp [State.scramble]
@[simp] theorem State.setUpper_mem (w : Nat → Word) : (s.setUpper w).mem = s.mem := by simp [State.setUpper]
@[simp] theorem State.setLower_mem (w : Nat → Word) : (s.setLower w).mem = s.mem := by simp [State.setLower]
@[simp] theorem State.scramble_mem : s.scramble.mem = s.mem := by simp [State.scramble]

/-- What writing the upper registers keeps. -/
theorem Kept.setUpper (w : Nat → Word) : Kept s (s.setUpper w) upperData upperAddr [] := by
  have h := ((((Kept.refl s).andA 10 (w 2) rfl).andA 11 (w 3) (by simp)).andD 8 (w 4) (by simp)).andD 9 (w 5) (by simp)
  have h := (((h.andD 10 (w 6) (by simp)).andD 11 (w 7) (by simp)).andA 12 (w 8) (by simp)).andA 13 (w 9) (by simp)
  have h := ((h.andA 14 (w 10) (by simp)).andA 15 (w 11) (by simp)).andD 12 (w 12) (by simp)
  have h := ((h.andD 13 (w 13) (by simp)).andD 14 (w 14) (by simp)).andD 15 (w 15) (by simp)
  exact h

/-- What writing the lower registers keeps. -/
theorem Kept.setLower (w : Nat → Word) : Kept s (s.setLower w) lowerData lowerAddr [] := by
  have h := ((((Kept.refl s).andA 11 (w 1) rfl).andA 2 (w 2) (by simp)).andA 3 (w 3) (by simp)).andD 0 (w 4) (by simp)
  have h := (((h.andD 1 (w 5) (by simp)).andD 2 (w 6) (by simp)).andD 3 (w 7) (by simp)).andA 4 (w 8) (by simp)
  have h := ((h.andA 5 (w 9) (by simp)).andA 6 (w 10) (by simp)).andA 7 (w 11) (by simp)
  have h := ((h.andD 4 (w 12) (by simp)).andD 5 (w 13) (by simp)).andD 6 (w 14) (by simp)
  exact (h.andD 7 (w 15) (by simp)).mono (by simp [lowerData]) (by simp [lowerAddr]) (by simp)

/-- What the free registers of a handler keep. -/
theorem Kept.scramble : Kept s s.scramble [8, 9, 10, 11, 12, 13, 14] [12, 13, 14, 15] [] := by
  let f := fun n => s.freeW (100 + n)
  have h := (((Kept.refl s).andA 12 (f 0) rfl).andA 13 (f 1) (by simp)).andA 14 (f 2) (by simp)
  have h := ((h.andA 15 (f 3) (by simp)).andD 8 (f 4) (by simp)).andD 9 (f 5) (by simp)
  have h := ((h.andD 10 (f 6) (by simp)).andD 11 (f 7) (by simp)).andD 12 (f 8) (by simp)
  exact (h.andD 13 (f 9) (by simp)).andD 14 (f 10) (by simp)

theorem State.getD_setUpper (w : Nat → Word) (n : Reg) : (s.setUpper w).getD n =
    if n = 8 then w 4 else if n = 9 then w 5 else if n = 10 then w 6 else if n = 11 then w 7 else if n = 12 then w 12
    else if n = 13 then w 13 else if n = 14 then w 14 else if n = 15 then w 15 else s.getD n := by
  unfold State.setUpper
  by_cases h : n ∈ upperData
  · simp only [upperData, List.mem_cons, List.not_mem_nil, or_false] at h
    rcases h with rfl | rfl | rfl | rfl | rfl | rfl | rfl | rfl <;> simp [State.getD_setD_ne]
  · simp only [upperData, List.mem_cons, List.not_mem_nil, or_false, not_or, BitVec.ofNat_eq_ofNat] at h
    simp [h, State.getD_setD_ne]

theorem State.getA_setUpper (w : Nat → Word) (n : Reg) : (s.setUpper w).getA n =
    if n = 10 then w 2 else if n = 11 then w 3 else if n = 12 then w 8 else if n = 13 then w 9 else if n = 14 then w 10
    else if n = 15 then w 11 else s.getA n := by
  unfold State.setUpper
  by_cases h : n ∈ upperAddr
  · simp only [upperAddr, List.mem_cons, List.not_mem_nil, or_false] at h
    rcases h with rfl | rfl | rfl | rfl | rfl | rfl <;> simp [State.getA_setA_ne]
  · simp only [upperAddr, List.mem_cons, List.not_mem_nil, or_false, not_or, BitVec.ofNat_eq_ofNat] at h
    simp [h, State.getA_setA_ne]

theorem State.getD_setLower (w : Nat → Word) (n : Reg) : (s.setLower w).getD n =
    if n = 0 then w 4 else if n = 1 then w 5 else if n = 2 then w 6 else if n = 3 then w 7 else if n = 4 then w 12
    else if n = 5 then w 13 else if n = 6 then w 14 else if n = 7 then w 15 else s.getD n := by
  unfold State.setLower
  by_cases h : n ∈ lowerData
  · simp only [lowerData, List.mem_cons, List.not_mem_nil, or_false] at h
    rcases h with rfl | rfl | rfl | rfl | rfl | rfl | rfl | rfl <;> simp [State.getD_setD_ne]
  · simp only [lowerData, List.mem_cons, List.not_mem_nil, or_false, not_or, BitVec.ofNat_eq_ofNat] at h
    simp [h, State.getD_setD_ne]

theorem State.getA_setLower (w : Nat → Word) (n : Reg) : (s.setLower w).getA n =
    if n = 11 then w 1 else if n = 2 then w 2 else if n = 3 then w 3 else if n = 4 then w 8 else if n = 5 then w 9
    else if n = 6 then w 10 else if n = 7 then w 11 else s.getA n := by
  unfold State.setLower
  by_cases h : n ∈ lowerAddr
  · simp only [lowerAddr, List.mem_cons, List.not_mem_nil, or_false] at h
    rcases h with rfl | rfl | rfl | rfl | rfl | rfl | rfl <;> simp [State.getA_setA_ne]
  · simp only [lowerAddr, List.mem_cons, List.not_mem_nil, or_false, not_or, BitVec.ofNat_eq_ofNat] at h
    simp [h, State.getA_setA_ne]

/-- The address registers of the two contexts do not depend on the running resource. -/
theorem State.getA_of_ca {s t : State} (h : t.ca = s.ca) {n : Reg} (hn : n ∈ upperAddr ∨ n ∈ lowerAddr) :
    t.getA n = s.getA n := by
  have hc : ∃ i, aHome n = .ctx i := by
    simp only [upperAddr, lowerAddr, List.mem_cons, List.not_mem_nil, or_false] at hn
    rcases hn with (rfl | rfl | rfl | rfl | rfl | rfl) | (rfl | rfl | rfl | rfl | rfl | rfl | rfl) <;> exact ⟨_, rfl⟩
  obtain ⟨i, hi⟩ := hc
  simp only [State.getA, hi, h]

end Sys2Proof.Machine
end

