-- ==== Sys2Proof/Laws/Access.lean ====
section
/-! SUPPORT. Loads, stores and read-modify-writes from ordinary memory: each as the one state it leads to. -/

namespace Sys2Proof.Machine

variable {s t : State}

/-! ## The addresses of an access are distinct -/

/-- An access that meets no trap has distinct addresses. -/
theorem Access.addrs_nodup {x : Access} (h : s.check x = .go) (hs : x.size ≤ 2 ^ 16)
    (hl : ∀ b i l, x.circ = some (b, i, l) → l < 2 ^ 16) : x.addrs.Nodup := by
  have ha : s.alnOk x = true := by
    rw [State.check, Verdict.first_eq_go] at h
    simpa using h (.need (s.alnOk x) (.trap 2 4)) (by simp)
  have inj : ∀ (b : Word) (j k : Nat), j < 2 ^ 32 → k < 2 ^ 32 →
      (b + BitVec.ofNat 32 j).toNat = (b + BitVec.ofNat 32 k).toNat → j = k := by
    intro b j k hj hk e
    have e2 : BitVec.ofNat 32 j = BitVec.ofNat 32 k := by simpa using BitVec.eq_of_toNat_eq e
    have e3 := congrArg BitVec.toNat e2
    simp only [BitVec.toNat_ofNat] at e3
    omega
  refine List.Nodup.map_on (fun j hj k hk e => ?_) List.nodup_range
  rw [List.mem_range] at hj hk
  unfold Access.addr at e
  cases hc : x.circ with
  | none =>
    simp only [hc] at e
    exact inj _ _ _ (by omega) (by omega) e
  | some c =>
    obtain ⟨b, i, l⟩ := c
    have hlt := hl b i l hc
    simp only [hc] at e
    simp only [State.alnOk, hc, Bool.and_eq_true, decide_eq_true_eq, beq_iff_eq] at ha
    obtain ⟨-, ⟨-, hdvd⟩, hil⟩ := ha
    have hle : x.size ≤ l := Nat.le_of_dvd (by omega) (Nat.dvd_of_mod_eq_zero hdvd)
    have h1 := Nat.mod_lt (i + j) (by omega : 0 < l)
    have h2 := Nat.mod_lt (i + k) (by omega : 0 < l)
    have e' := inj b _ _ (by omega) (by omega) e
    have hmod : (i + j) % l = if i + j < l then i + j else i + j - l := by
      split
      · exact Nat.mod_eq_of_lt (by assumption)
      · rw [Nat.mod_eq_sub_mod (by omega), Nat.mod_eq_of_lt (by omega)]
    have hmod' : (i + k) % l = if i + k < l then i + k else i + k - l := by
      split
      · exact Nat.mod_eq_of_lt (by assumption)
      · rw [Nat.mod_eq_sub_mod (by omega), Nat.mod_eq_of_lt (by omega)]
    rw [hmod, hmod'] at e'
    split at e' <;> split at e' <;> omega

/-- Addresses of one segment number lie in one segment. -/
theorem segment_eq_iff {a b : Word} : segment a = segment b ↔ a.toNat / 2 ^ 28 = b.toNat / 2 ^ 28 := by
  have h : ∀ w : Word, (segment w).toNat = w.toNat / 2 ^ 28 := fun w => by
    have := w.isLt
    simp only [segment, BitVec.extractLsb'_toNat, Nat.shiftRight_eq_div_pow]
    omega
  rw [← h, ← h]
  exact ⟨congrArg _, BitVec.eq_of_toNat_eq⟩

/-- An access that meets no trap has a cell of its own for each byte. -/
theorem Access.cells_nodup {x : Access} (h : s.check x = .go) (hs : x.size ≤ 2 ^ 16)
    (hl : ∀ b i l, x.circ = some (b, i, l) → l < 2 ^ 16) : (x.addrs.map s.cell).Nodup := by
  have hm : s.memOk x = true := by
    rw [State.check, Verdict.first_eq_go] at h
    simpa using h (.need (s.memOk x) (.trap 2 5)) (by simp)
  simp only [State.memOk, Bool.and_eq_true] at hm
  have hseg : ∀ a ∈ x.addrs, a / 2 ^ 28 = x.ea.toNat / 2 ^ 28 := by
    intro a ha
    obtain ⟨k, hk, rfl⟩ := List.mem_map.mp ha
    exact segment_eq_iff.mp (by simpa using List.all_eq_true.mp hm.1.1.2 k hk)
  exact State.cells_nodup (Access.addrs_nodup h hs hl) fun a ha b hb => (hseg a ha).trans (hseg b hb).symm

/-- The length of a circular buffer is a half-word. -/
theorem Resolved.circ_lt (s : State) (m : MemOp) (size align peri : Nat) (loads stores : Bool) :
    ∀ b i l, ((s.resolve m).access size align peri loads stores).circ = some (b, i, l) → l < 2 ^ 16 := by
  intro b i l h
  cases m <;> simp [State.resolve, Resolved.access] at h
  obtain ⟨-, -, rfl⟩ := h
  exact BitVec.isLt _

/-! ## Bytes of a stored datum -/

theorem Memory.read_scatter {m : List Host.Cell} : ∀ {addrs : List Nat} {v : Nat} {k a : Nat}, addrs.Nodup →
    addrs[k]? = some a → Memory.read (Memory.scatter m v addrs) a = byteOf v k
  | [], _, _, _, _, h => by simp at h
  | b :: rest, v, 0, a, hn, h => by
    simp only [List.getElem?_cons_zero, Option.some.injEq] at h
    subst h
    rw [Memory.scatter, Memory.read_scatter_outside _ _ (List.nodup_cons.mp hn).1, Memory.read_write_same]
    rfl
  | b :: rest, v, k + 1, a, hn, h => by
    rw [Memory.scatter, Memory.read_scatter (List.nodup_cons.mp hn).2 (by simpa using h)]
    simp only [byteOf, Nat.shiftRight_eq_div_pow, Nat.div_div_eq_div_mul]
    rw [Nat.mul_succ, Nat.pow_add, Nat.mul_comm (2 ^ (8 * k))]

/-- The byte of a store at an address whose cells are distinct. -/
theorem State.byteAt_writeAt {addrs : List Nat} {v k a : Nat} (hn : (addrs.map s.cell).Nodup) (h : addrs[k]? = some a) :
    (s.writeAt addrs v).byteAt a = byteOf v k := by
  unfold State.byteAt
  rw [State.cell_of_cfg (s := s) (by simp)]
  exact Memory.read_scatter hn (by simp [h])

theorem Access.getElem?_addrs {x : Access} {k : Nat} (h : k < x.size) : x.addrs[k]? = some (x.addr k).toNat := by
  simp [Access.addrs, h]

/-- A number gathered from `n` bytes. -/
theorem Memory.gather_lt (m : List Host.Cell) : ∀ as : List Nat, Memory.gather m as < 256 ^ as.length
  | [] => by simp [Memory.gather]
  | a :: rest => by
    have := Memory.gather_lt m rest
    have := (Memory.read m a).isLt
    rw [Memory.gather, List.length_cons, Nat.pow_succ]
    omega

/-- A number read from memory. -/
theorem State.readAt_lt (s : State) (as : List Nat) : s.readAt as < 256 ^ as.length := by
  have h := Memory.gather_lt s.mem (as.map s.cell)
  rwa [List.length_map] at h

/-! ## Accesses and the host (60_exceptions R902, R905) -/

theorem State.load_ram {x : Access} (hk : s.kindOf x.addrs = some .ram) : s.load x = s.readAt x.addrs := by
  simp [State.load, hk]

/-- A datum fits in the bytes it is read from. -/
theorem State.load_lt (s : State) (x : Access) : s.load x < 256 ^ x.size := by
  unfold State.load
  split
  · simpa [Access.addrs] using s.readAt_lt x.addrs
  · exact Nat.mod_lt _ (Nat.pow_pos (by omega))

theorem State.loaded_unseen {x : Access} (h : s.seen x = false) : s.loaded x = s := by simp [State.loaded, h]

theorem State.loaded_seen {x : Access} (h : s.seen x = true) :
    s.loaded x = s.emit (.busRead x.ea.toNat x.size s.presentsSupervisor s.presentsSafe) := by simp [State.loaded, h]

/-- A read tells the host and changes nothing else. -/
theorem State.loaded_eq (s : State) (x : Access) : s.loaded x = { s with out := (s.loaded x).out } := by
  unfold State.loaded
  split <;> rfl

/-- A store to ordinary memory that the host does not see. -/
theorem State.store_ram {x : Access} (hk : s.kindOf x.addrs = some .ram) (h : s.seen x = false) (v : Nat) :
    s.store x v = s.writeAt x.addrs v := by
  simp [State.store, hk, h]

/-- A store to where nothing is, in a segment that is not peripheral. -/
theorem State.store_nowhere {x : Access} (hk : s.kindOf x.addrs = none) (h : s.seen x = false) (v : Nat) :
    s.store x v = { s with pendDae := true } := by
  simp [State.store, hk, h]

/-! ## The updates of an addressing mode -/

theorem State.updateCheck_go {r : Resolved} (h : ∀ n w, r.update = some (n, w) → s.globalCheck n = .go) :
    s.updateCheck r = .go := by
  unfold State.updateCheck
  cases hu : r.update with
  | none => rfl
  | some p => exact h p.1 p.2 hu

@[simp] theorem State.applyUpdate_mem (r : Resolved) : (s.applyUpdate r).mem = s.mem := by
  unfold State.applyUpdate; split <;> simp

@[simp] theorem State.applyUpdate_cfg (r : Resolved) : (s.applyUpdate r).cfg = s.cfg := by
  unfold State.applyUpdate; split <;> simp

@[simp] theorem State.applyUpdate_out (r : Resolved) : (s.applyUpdate r).out = s.out := by
  unfold State.applyUpdate; split <;> simp

@[simp] theorem State.applyUpdate_pc (r : Resolved) : (s.applyUpdate r).pc = s.pc := by
  unfold State.applyUpdate; split <;> simp

@[simp] theorem State.getD_applyUpdate (r : Resolved) (n : Reg) : (s.applyUpdate r).getD n = s.getD n := by
  unfold State.applyUpdate; split <;> simp

@[simp] theorem State.res_applyUpdate (r : Resolved) : (s.applyUpdate r).res = s.res := by
  unfold State.applyUpdate; split <;> simp

theorem State.getA_applyUpdate {r : Resolved} {n : Reg} {w : Word} (h : r.update = some (n, w)) :
    (s.applyUpdate r).getA n = w := by
  simp [State.applyUpdate, h]

theorem State.getA_applyUpdate_ne {r : Resolved} {n : Reg} (h : ∀ w, r.update ≠ some (n, w)) :
    (s.applyUpdate r).getA n = s.getA n := by
  unfold State.applyUpdate
  split
  · rename_i m w hu
    exact State.getA_setA_ne _ (fun e => h w (by rw [e]; exact hu)) w
  · rfl

/-- The registers that the update writes. -/
theorem Kept.applyUpdate (r : Resolved) : Kept s (s.applyUpdate r) [] (r.update.map Prod.fst).toList [] := by
  unfold State.applyUpdate
  cases h : r.update with
  | none => simpa using Kept.refl s
  | some p => simpa using Kept.setA p.1 p.2

end Sys2Proof.Machine
end

