-- ==== Sys2Proof/Laws/Bits.lean ====
section
/-! SUPPORT. Bits and fields: what `setBit` and `setField` write and what they leave. -/

namespace Sys2Proof.Machine

theorem bit_of_ge (w : Word) {j : Nat} (h : 32 ≤ j) : bit w j = false := BitVec.getLsbD_of_ge w j h

theorem bit_setBit (w : Word) {i : Nat} (hi : i < 32) (b : Bool) (j : Nat) :
    bit (setBit w i b) j = if j = i then b else bit w j := by
  by_cases h : j < 32
  · unfold bit setBit
    by_cases hj : j = i
    · subst hj
      cases b <;> simp [h]
    · by_cases hlt : j < i
      · cases b <;> simp [h, hj, hlt]
      · have : j - i ≠ 0 := by omega
        cases b <;> simp [h, hj, this]
  · rw [bit_of_ge _ (by omega), bit_of_ge w (by omega), if_neg (by omega)]

theorem bit_setField (w : Word) (lo : Nat) {len : Nat} (hl : lo + len ≤ 32) (v : BitVec len) (j : Nat) :
    bit (setField w lo v) j = if lo ≤ j ∧ j < lo + len then v.getLsbD (j - lo) else bit w j := by
  by_cases h : j < 32
  · unfold bit setField
    by_cases h1 : lo ≤ j
    · by_cases h2 : j < lo + len
      · have : j - lo < len := by omega
        have : j - lo < 32 := by omega
        simp [*]; grind
      · have : ¬ j - lo < len := by omega
        simp [*]; grind
    · simp [*]; grind
  · rw [bit_of_ge _ (by omega), bit_of_ge w (by omega), if_neg (by omega)]

theorem getLsbD_field (w : Word) (lo len k : Nat) : (field w lo len).getLsbD k = (decide (k < len) && bit w (lo + k)) := by
  simp [field, bit, BitVec.getLsbD_extractLsb']

theorem field_eq_iff {w v : Word} {lo len : Nat} : field w lo len = field v lo len ↔ ∀ k, k < len → bit w (lo + k) = bit v (lo + k) := by
  constructor
  · intro h k hk
    have e : (field w lo len).getLsbD k = (field v lo len).getLsbD k := by rw [h]
    simpa only [getLsbD_field, hk, decide_true, Bool.true_and] using e
  · intro h
    apply BitVec.eq_of_getLsbD_eq
    intro k hk
    simp only [getLsbD_field, hk, decide_true, Bool.true_and, h k hk]

theorem word_eq_iff {w v : Word} : w = v ↔ ∀ k, k < 32 → bit w k = bit v k :=
  ⟨fun h _ _ => h ▸ rfl, fun h => BitVec.eq_of_getLsbD_eq h⟩

theorem field_setField_same (w : Word) {lo len : Nat} (hl : lo + len ≤ 32) (v : BitVec len) :
    field (setField w lo v) lo len = v := by
  apply BitVec.eq_of_getLsbD_eq
  intro k hk
  simp only [getLsbD_field, hk, decide_true, Bool.true_and, bit_setField w lo hl]
  rw [if_pos (by omega), Nat.add_sub_cancel_left]

theorem field_setField_ne (w : Word) {lo len lo' len' : Nat} (hl : lo + len ≤ 32) (v : BitVec len)
    (h : lo + len ≤ lo' ∨ lo' + len' ≤ lo) : field (setField w lo v) lo' len' = field w lo' len' := by
  rw [field_eq_iff]
  intro k hk
  rw [bit_setField w lo hl, if_neg (by omega)]

theorem field_setBit_ne (w : Word) {i lo len : Nat} (hi : i < 32) (b : Bool) (h : i < lo ∨ lo + len ≤ i) :
    field (setBit w i b) lo len = field w lo len := by
  rw [field_eq_iff]
  intro k hk
  rw [bit_setBit w hi, if_neg (by omega)]

theorem bit_setField_ne (w : Word) {lo len j : Nat} (hl : lo + len ≤ 32) (v : BitVec len) (h : j < lo ∨ lo + len ≤ j) :
    bit (setField w lo v) j = bit w j := by
  rw [bit_setField w lo hl, if_neg (by omega)]

end Sys2Proof.Machine
end

