-- ==== Sys2Proof/Laws/Courses.lean ====
section
/-! SUPPORT. The courses of a load, a store and an atomic read-modify-write on ordinary memory (40_addressing R342):
where no check stops it, each as the one state it leads to; where a check stops it, its verdict. -/

namespace Sys2Proof.Machine

variable {s : State}

/-- The first verdict that stops decides, whatever stands behind it. -/
theorem Verdict.first_append {v : Verdict} (hv : v ≠ .go) : ∀ {vs rest : List Verdict}, (∀ w ∈ vs, w = .go) →
    Verdict.first (vs ++ v :: rest) = v
  | [], _, _ => by cases v <;> first | rfl | exact absurd rfl hv
  | w :: vs, rest, h => by
    rw [List.cons_append, h w (by simp), Verdict.first_cons_go]
    exact Verdict.first_append hv fun u hu => h u (by simp [hu])

/-- A mode whose pair specifier is even passes its check. -/
theorem State.modeCheck_go {m : MemOp} (h : m.pairs.all pairEven = true) : s.modeCheck m = .go := by
  cases m <;> simp [MemOp.pairs, pairEven] at h <;> simp [State.modeCheck, State.pairCheck, State.operandCheck, h]

/-- An even pair specifier passes its check. -/
theorem State.pairCheck_go {a : Reg} (h : pairEven a = true) : s.pairCheck a = .go := by
  simp [pairEven] at h
  simp [State.pairCheck, State.operandCheck, h]

/-- An aligned quad specifier passes its check. -/
theorem State.quadCheck_go {a : Reg} (h : quadAligned a = true) : s.quadCheck a = .go := by
  simp [quadAligned] at h
  simp [State.quadCheck, State.operandCheck, h]

/-- A load without an address register as its destination has no conflict with its mode. -/
theorem State.loadConflict_nil (r : Resolved) : s.loadConflict r [] = s := by
  unfold State.loadConflict
  split <;> simp

/-- A load that meets no trap. -/
theorem State.execLoad_go {m : MemOp} {size align : Nat} {pre : Verdict} {dst : List Reg} (len : Nat)
    (put : State → Nat → State) (hp : pre = .go) (hm : s.modeCheck m = .go) (hd : ∀ n ∈ dst, s.globalCheck n = .go)
    (hu : s.updateCheck (s.resolve m) = .go) (hc : s.check ((s.resolve m).access size align size true false) = .go) :
    let x := (s.resolve m).access size align size true false
    s.execLoad len m size align pre dst put =
      .next ((((put (s.loaded x) (s.load x)).applyUpdate (s.resolve m)).loadConflict (s.resolve m) dst).advance len) := by
  have hv : Verdict.first ([pre, s.modeCheck m] ++ dst.map s.globalCheck ++ [s.updateCheck (s.resolve m),
      s.check ((s.resolve m).access size align size true false)]) = .go := by
    rw [Verdict.first_eq_go]
    simp only [List.cons_append, List.nil_append, List.mem_cons, List.mem_append, List.mem_map, List.not_mem_nil,
      or_false]
    rintro v (rfl | rfl | ⟨n, hn, rfl⟩ | rfl | rfl)
    exacts [hp, hm, hd n hn, hu, hc]
  unfold State.execLoad
  dsimp only
  rw [hv]
  rfl

/-- A store that meets no trap. -/
theorem State.execStore_go {m : MemOp} {size align : Nat} {pre : Verdict} (len : Nat) (src : List Reg)
    (value : State → Nat) (hp : pre = .go) (hm : s.modeCheck m = .go) (hu : s.updateCheck (s.resolve m) = .go)
    (hc : s.check ((s.resolve m).access size align size false true) = .go) :
    s.execStore len m size align pre src value =
      .next (((s.store ((s.resolve m).access size align size false true)
        (s.storeValue (s.resolve m) src value)).applyUpdate (s.resolve m)).advance len) := by
  have hv : Verdict.first [pre, s.modeCheck m, s.updateCheck (s.resolve m),
      s.check ((s.resolve m).access size align size false true)] = .go := by
    rw [Verdict.first_eq_go]
    simp [hp, hm, hu, hc]
  exact s.conclude_go hv _

/-- The datum of a store none of whose source registers its mode updates. -/
theorem State.storeValue_eq {r : Resolved} {src : List Reg} (h : ∀ n ∈ src, n ∉ (r.update.map Prod.fst).toList)
    (value : State → Nat) : s.storeValue r src value = value s := by
  have hany : src.any r.updates = false := by
    rw [List.any_eq_false]
    intro n hn hu
    unfold Resolved.updates at hu
    split at hu
    · rename_i m w hm
      simp only [beq_iff_eq] at hu
      exact h n hn (by simp [hm, hu])
    · simp at hu
  simp [State.storeValue, hany]

/-- An atomic read-modify-write that meets no trap. -/
theorem State.execRmw_go {m : MemOp} {size align : Nat} {pre : Verdict} (len : Nat) (new : Nat → Nat)
    (ret : Option Reg) (hp : pre = .go) (hm : s.modeCheck m = .go) (hu : s.updateCheck (s.resolve m) = .go)
    (hc : s.check ((s.resolve m).access size align size true true) = .go) :
    let x := (s.resolve m).access size align size true true
    let u := (s.loaded x).store x (new (s.load x))
    let v := match ret with
      | some d => u.setD d (BitVec.ofNat 32 (s.load x))
      | none => u
    s.execRmw len m size align pre new ret = .next ((v.applyUpdate (s.resolve m)).advance len) := by
  have hv : Verdict.first [pre, s.modeCheck m, s.updateCheck (s.resolve m),
      s.check ((s.resolve m).access size align size true true)] = .go := by
    rw [Verdict.first_eq_go]
    simp [hp, hm, hu, hc]
  unfold State.execRmw
  dsimp only
  rw [hv]
  rfl

end Sys2Proof.Machine
end

