-- ==== Sys2Proof/Laws/Moves.lean ====
section
/-! SUPPORT. The course of a core-register move (42_system R450 to R458): its offset, its resource, its checks, what a
read does; a debug event that is not armed. -/

namespace Sys2Proof.Machine

variable {s : State}

/-- An offset without selector bits is the offset of the move. -/
theorem moveOffset_aligned {off : BitVec 16} (h : off.extractLsb' 0 2 = 0) : moveOffset off = off.toNat := by
  have hoff : off &&& 0xFFFC#16 = off := by
    apply BitVec.eq_of_getLsbD_eq
    intro i hi
    have h0 : (off.extractLsb' 0 2).getLsbD 0 = false := by rw [h]; rfl
    have h1 : (off.extractLsb' 0 2).getLsbD 1 = false := by rw [h]; rfl
    simp at h0 h1
    rw [BitVec.getLsbD_and]
    interval_cases i <;> simp_all
  rw [moveOffset, hoff]

/-- Without a selector a move addresses the current resource, unless a guest runs. -/
theorem State.moveRes_aligned {off : BitVec 16} (h : off.extractLsb' 0 2 = 0) : s.moveRes off = s.res := by
  unfold State.moveRes
  split
  · rename_i hh
    simp only [Bool.and_eq_true, beq_iff_eq] at hh
    rw [h]
    simp [hh.2]
  · rfl

/-- A core register access event is not armed while debug is off. -/
theorem State.crEvent_off (h : s.debugOn = false) (x : BitVec 16) : s.crEvent x = false := by simp [State.crEvent, h]

@[simp] theorem State.before_unarmed (s : State) (src : BitVec 5) (x : SysReg) : s.before false src x = (s, false) := by
  simp [State.before]

@[simp] theorem State.after_unarmed (s : State) (src : BitVec 5) (ereg pc : Word) : s.after false src ereg pc = s := by
  simp [State.after]

/-- An event of the instruction has acted: a move raises none before it. -/
theorem State.before_acted (h : s.evt = true) (armed : Bool) (src : BitVec 5) (x : SysReg) :
    s.before armed src x = (s, false) := by simp [State.before, h]

/-- An event of the instruction has acted: a move raises none after it. -/
theorem State.after_acted (h : s.evt = true) (armed : Bool) (src : BitVec 5) (ereg pc : Word) :
    s.after armed src ereg pc = s := by simp [State.after, h]

/-- The offset checks pass on an aligned offset whose registers exist, while no guest runs. -/
theorem State.offsetCheck_go {off : BitVec 16} {pair write : Bool} (hg : s.guest = false)
    (h : off.extractLsb' 0 2 = 0) (hp : pair = true → off.getLsbD 2 = false)
    (hx : (s.moveReg off off.toNat).isSome = true)
    (hy : pair = true → (s.moveReg off (off.toNat + 4)).isSome = true)
    (hc : s.cvmn = 0 ∨ hyperOffset off.toNat = false) : s.offsetCheck off pair write = .go := by
  have ha : s.offsetAligned off pair = true := by
    unfold State.offsetAligned
    rw [h]
    cases pair with
    | false => simp
    | true => simpa using hp rfl
  obtain ⟨x, hx⟩ := Option.isSome_iff_exists.mp hx
  unfold State.offsetCheck
  rw [Verdict.first_eq_go]
  cases pair with
  | false =>
    simp [hg, State.moveRegs, moveOffset_aligned h, hx, ha]
    rcases hc with hc | hc <;> simp_all
  | true =>
    obtain ⟨y, hy⟩ := Option.isSome_iff_exists.mp (hy rfl)
    simp [hg, State.moveRegs, moveOffset_aligned h, hx, hy, ha]
    rcases hc with hc | hc <;> simp_all

/-- A read of a register changes TRIG_ACC alone, and that only if it is the register read (45_debug R670). -/
theorem State.csfrReadEffect_spec (y : Csfr) : (s.csfrReadEffect y).pc = s.pc ∧ (s.csfrReadEffect y).mem = s.mem ∧
    (s.csfrReadEffect y).res = s.res ∧
    Kept s (s.csfrReadEffect y) [] [] (if y = .sys .trigAcc then [y] else []) := by
  unfold State.csfrReadEffect
  split
  · rename_i h
    subst h
    refine ⟨rfl, rfl, ?_, (Kept.hwSys (x := .trigAcc) (by simp) (by simp) .hv fun _ => 0).mono (by simp) (by simp)
      (by simp)⟩
    have hcv : (s.hw .hv (.sys .trigAcc) fun _ => 0).cvmn = s.cvmn := by
      unfold State.cvmn
      rw [State.getSys_hw_ne _ (by simp)]
    simp only [State.res, hcv]
    rfl
  · exact ⟨rfl, rfl, rfl, Kept.refl s⟩

end Sys2Proof.Machine
end

