-- ==== Sys2Proof/Laws/Checks.lean ====
section
/-! SUPPORT. The checks of the machine as the propositions that the statements speak of: what MEM, ALN, the ranges and
the read of a core register come to, and what the addressing modes give. -/

namespace Sys2Proof.Machine

variable {s : State}

/-- Peripheral space (20_memory R236). -/
theorem State.peripheral_iff {seg : BitVec 4} {u : Use} : s.peripheral seg u = true ↔ s.InPeripheral seg u := by
  simp [State.InPeripheral, State.peripheral]

/-- The images of the core's own registers (20_memory R226). -/
theorem State.inCsfrImage_iff {a : Nat} : s.inCsfrImage a = true ↔ s.InOwnImage a := by
  simp only [State.inCsfrImage, State.InOwnImage, Bool.or_eq_true, Bool.and_eq_true, decide_eq_true_eq]

/-- The MEM conditions. -/
theorem State.memOk_iff {x : Access} : s.memOk x = true ↔ s.Placed x := by
  simp only [State.memOk, State.Placed, ← State.peripheral_iff, ← State.inCsfrImage_iff]
  rcases x.base with _ | b
  · cases x.circ <;> simp [and_assoc]
  · cases x.circ <;> simp [and_assoc, eq_comm (a := segment b)]

/-- The ALN conditions. -/
theorem State.alnOk_iff {x : Access} : s.alnOk x = true ↔ s.Aligned x := by
  simp only [State.alnOk, State.Aligned, ← State.peripheral_iff]
  by_cases hp : s.peripheral (segment x.ea) .data = true <;> rcases x.circ with _ | ⟨b, i, l⟩ <;> simp [hp, and_assoc]

/-- The rows of a decoder that keep to the length rule (30_encoding R312). -/
theorem rowFits_iff (row : CodeRow) : rowFits row = true ↔ FollowsLengthRule row := by
  unfold rowFits FollowsLengthRule
  rcases row with ⟨w, _ | ⟨i, len⟩⟩ <;> simp

/-- The decoder row of the fetched word. -/
theorem State.codeRow_eq (s : State) : s.codeRow =
    s.cfg.codes.find? fun row => decide (row.word = s.fetchWord ∧ FollowsLengthRule row) := by
  unfold State.codeRow
  congr 1
  funext row
  rw [Bool.eq_iff_iff]
  simp [rowFits_iff]

/-- The fields that a control captures are those that hardware writes, but TST. -/
theorem bit_captureFields {c : Config} {x con : RepReg} {k : Nat} (h : bit (captureFields c x con) k = true) :
    bit (x.layout c).rh k = true ∧ (x = con → k ≠ 0) := by
  unfold captureFields at h
  split at h
  · rename_i hx
    have h1 := bit_setBit (x.layout c).rh (by decide : 0 < 32) false k
    rw [h1] at h
    split at h
    · simp at h
    · exact ⟨h, fun _ => by assumption⟩
  · exact ⟨h, fun e => absurd e (by assumption)⟩

/-- A bit that the FPU has captured no longer. -/
theorem State.notCaptured_of_lost {r : Resource} {x con : RepReg} {k : Nat} (hc : captureControl x = some con)
    (h : bit (s.captureLost r x con) k = true) : s.NotCaptured r (.rep x) k := by
  unfold State.captureLost at h
  simp only at h
  split at h
  · simp [bit] at h
  · rename_i h0
    simp only [Bool.or_eq_true, Bool.and_eq_true, beq_iff_eq, not_or, not_and] at h0
    obtain ⟨hk, hk0⟩ := bit_captureFields h
    refine ⟨x, con, rfl, hc, by simpa using h0.1, hk, fun hx => ⟨hk0 hx, ?_⟩⟩
    by_contra hn
    refine h0.2 hx (BitVec.eq_of_getLsbD_eq fun j _ => ?_)
    rw [BitVec.getLsbD_and, show (0 : Word).getLsbD j = false by simp]
    refine Bool.eq_false_iff.mpr fun hj => ?_
    rw [Bool.and_eq_true] at hj
    obtain ⟨hj1, hj2⟩ := bit_captureFields (x := x) (con := con) (k := j) hj.2
    exact hn ⟨j, hj2 hx, hj1, hj.1⟩

/-- What the model reads from a core register is what it reads as (42_system R450). -/
theorem State.csfrRead_readsAs (q : Resource) (x : Csfr) : s.ReadsAs q x (s.csfrRead q x) := by
  intro k hk hr hu hc
  have ho : bit (s.openBits q x) k = false := by
    simp only [bit, State.openBits, BitVec.getLsbD_or] at *
    rw [hr, Bool.false_or]
    rcases x with y | _ | _ | _ | _ | _ | _ | _ | _ | _ | _ <;> try simp
    cases h : captureControl y with
    | none => simp
    | some con =>
      by_contra h1
      exact hc (State.notCaptured_of_lost h (Bool.not_eq_false _ |>.mp h1))
  simp only [State.csfrRead, merge, bit] at *
  simp only [BitVec.getLsbD_or, BitVec.getLsbD_and, BitVec.getLsbD_not, ho, hk, decide_true, Bool.and_false,
    Bool.not_false, Bool.and_true, Bool.false_or]
  by_cases hx : x = .psw
  · subst hx
    simp only [if_true, State.pswRead, State.pswView]
    split
    · rename_i h
      have h1 := bit_setField (pswSetPrs s.psw (s.prsOf s.psw)) 16 (by decide) (field (s.freeW 2) 0 8) k
      simp only [bit] at h1
      rw [h1, if_neg (hu rfl h)]
    · rfl
  · simp [hx]

/-- The index of a pair, as a number. -/
theorem toNat_low (w : Word) : (field w 0 16 : BitVec 16).toNat = w.toNat % 2 ^ 16 := by simp [field]

/-- The length or the modifier of a pair, as a number. -/
theorem toNat_high (w : Word) : (field w 16 16 : BitVec 16).toNat = w.toNat / 2 ^ 16 := by
  have := w.isLt
  simp [field, Nat.shiftRight_eq_div_pow]
  omega

/-- An index, extended to a word. -/
theorem zext_low (w : Word) : (zext (field w 0 16 : BitVec 16) : Word) = BitVec.ofInt 32 (w.toNat % 2 ^ 16 : Nat) := by
  apply BitVec.eq_of_toNat_eq
  rw [BitVec.ofInt_natCast, BitVec.toNat_ofNat, zext, BitVec.toNat_setWidth, toNat_low]

/-- The number of a word of two half-words. -/
theorem toNat_halves (l i : BitVec 16) : (l ++ i : BitVec 32).toNat = l.toNat * 2^16 + i.toNat := by
  rw [BitVec.toNat_append]
  have := i.isLt
  rw [Nat.shiftLeft_eq, Nat.mul_comm, ← Nat.two_pow_add_eq_or_of_lt this]
/-- Reversing twice gives the half-word back, bit by bit. -/
theorem reversed_iff {x y : BitVec 16} : Reversed x y ↔ y = reverse16 x := by
  constructor
  · intro h
    apply BitVec.eq_of_getLsbD_eq
    intro k hk
    rw [h k hk]
    simp [reverse16, BitVec.getLsbD_reverse, BitVec.getMsbD]
    omega
  · rintro rfl k hk
    simp [reverse16, BitVec.getLsbD_reverse, BitVec.getMsbD]
    omega

/-- What each addressing mode gives. -/
theorem State.resolve_addresses (m : MemOp) : s.Addresses m (s.resolve m) := by
  have sx : ∀ {n} (v : BitVec n), (sext v : Word) = BitVec.ofInt 32 v.toInt := fun v => by simp [sext, BitVec.signExtend]
  cases m with
  | abs o =>
    refine ⟨?_, rfl, rfl, rfl⟩
    simp only [State.resolve, absoluteEa, BitVec.toNat_append, BitVec.extractLsb'_toNat, BitVec.toNat_zero]
    have := o.isLt
    rw [Nat.shiftLeft_eq, Nat.or_zero, Nat.shiftLeft_eq, Nat.mul_assoc, ← Nat.pow_add]
    rw [Nat.shiftRight_eq_div_pow, Nat.shiftRight_zero, Nat.mul_comm, ← Nat.two_pow_add_eq_or_of_lt] <;> omega
  | off b o => exact ⟨by simp [State.resolve, sx], rfl, rfl, rfl⟩
  | long b o => exact ⟨by simp [State.resolve, sx], rfl, rfl, rfl⟩
  | post b o => exact ⟨rfl, rfl, rfl, by simp [State.resolve, sx]⟩
  | pre b o => exact ⟨by simp [State.resolve, sx], rfl, rfl, by simp [State.resolve]⟩
  | circ b o =>
    have hb := (s.getA (b + 1)).isLt
    refine ⟨by simp only [State.resolve]; rw [zext_low], rfl, by simp only [State.resolve, toNat_low, toNat_high], _, rfl,
      ?_, ?_, ?_, ?_⟩
    all_goals
      simp only [toNat_halves, toNat_low, toNat_high, circularNext, BitVec.toNat_ofInt]
      generalize (s.getA (b + 1)).toNat = w at *
      generalize o.toInt = z at *
      intros
      try split
      all_goals (try split)
      all_goals omega
  | rev b =>
    refine ⟨by simp only [State.resolve]; rw [zext_low], rfl, rfl, _, rfl, ?_, ?_⟩
    · rw [toNat_halves, toNat_high]
      have := (bitReverseNext (field (s.getA (b + 1)) 0 16) (field (s.getA (b + 1)) 16 16)).isLt
      dsimp only
      omega
    · intro i m h1 h2
      have hi : (s.getA (b + 1)).setWidth 16 = field (s.getA (b + 1)) 0 16 :=
        BitVec.eq_of_toNat_eq (by simp [field])
      rw [reversed_iff] at h1 h2
      have h3 : ((field (s.getA (b + 1)) 16 16 ++
          bitReverseNext (field (s.getA (b + 1)) 0 16) (field (s.getA (b + 1)) 16 16) : Word)).setWidth 16 =
            reverse16 (i + m) := by
        apply BitVec.eq_of_toNat_eq
        rw [BitVec.toNat_setWidth, toNat_halves, h1, h2, hi]
        have := (bitReverseNext (field (s.getA (b + 1)) 0 16) (field (s.getA (b + 1)) 16 16)).isLt
        simp only [bitReverseNext, field] at *
        omega
      rw [h3, reversed_iff]
      simp [reverse16]

/-- The bytes of an access. -/
theorem Access.addr_byteAt (x : Access) (k : Nat) : x.ByteAt k (x.addr k) := by
  unfold Access.ByteAt Access.addr
  exact ⟨fun h => by simp [h], fun b i l h => by simp [h]⟩

end Sys2Proof.Machine
end

