-- ==== Sys2Proof/Laws/Psw.lean ====
section
/-! SUPPORT. The fields of PSW, PCXI and ICR after the updates that a context operation or an entry makes. -/

namespace Sys2Proof.Machine

theorem bit_pswSetPrs (p : Word) (v : BitVec 3) (j : Nat) : bit (pswSetPrs p v) j =
    if j = 12 then v.getLsbD 0 else if j = 13 then v.getLsbD 1 else if j = 15 then v.getLsbD 2 else bit p j := by
  unfold pswSetPrs
  rw [bit_setField _ _ (by omega), bit_setField _ _ (by omega)]
  by_cases h15 : j = 15
  · subst h15; simp
  · by_cases h12 : j = 12
    · subst h12; simp
    · by_cases h13 : j = 13
      · subst h13; simp
      · rw [if_neg (by omega), if_neg (by omega), if_neg h12, if_neg h13, if_neg h15]

theorem getLsbD_pswPrs (p : Word) (k : Nat) : (pswPrs p).getLsbD k =
    if k = 0 then bit p 12 else if k = 1 then bit p 13 else if k = 2 then bit p 15 else false := by
  unfold pswPrs
  rw [BitVec.getLsbD_append]
  rcases k with _ | _ | _ | k <;> simp [bit]

theorem pswPrs_eq_iff {p q : Word} : pswPrs p = pswPrs q ↔ bit p 12 = bit q 12 ∧ bit p 13 = bit q 13 ∧ bit p 15 = bit q 15 := by
  constructor
  · intro h
    have e : ∀ k, (pswPrs p).getLsbD k = (pswPrs q).getLsbD k := fun k => by rw [h]
    simp only [getLsbD_pswPrs] at e
    exact ⟨by simpa using e 0, by simpa using e 1, by simpa using e 2⟩
  · rintro ⟨h0, h1, h2⟩
    exact BitVec.eq_of_getLsbD_eq fun k _ => by rw [getLsbD_pswPrs, getLsbD_pswPrs, h0, h1, h2]

@[simp] theorem pswPrs_pswSetPrs (p : Word) (v : BitVec 3) : pswPrs (pswSetPrs p v) = v := by
  refine BitVec.eq_of_getLsbD_eq fun k hk => ?_
  have : k = 0 ∨ k = 1 ∨ k = 2 := by omega
  rw [getLsbD_pswPrs]
  rcases this with rfl | rfl | rfl <;> simp [bit_pswSetPrs]

theorem pswSetPrs_self (p : Word) : pswSetPrs p (pswPrs p) = p := by
  rw [word_eq_iff]
  intro k _
  rw [bit_pswSetPrs, getLsbD_pswPrs, getLsbD_pswPrs, getLsbD_pswPrs]
  grind

theorem pswSetPrs_pswSetPrs (p : Word) (u v : BitVec 3) : pswSetPrs (pswSetPrs p u) v = pswSetPrs p v := by
  rw [word_eq_iff]
  intro k _
  simp only [bit_pswSetPrs]
  grind

theorem bit_pswHandler (p : Word) (j : Nat) : bit (pswHandler p) j =
    if j < 7 then false else if j = 7 then true else if j = 8 then false else if j = 9 then true
    else if j = 10 then false else if j = 11 then true else if j = 12 ∨ j = 13 ∨ j = 15 then false else bit p j := by
  unfold pswHandler
  rw [bit_setField _ _ (by omega), bit_setBit _ (by omega), bit_setBit _ (by omega), bit_setBit _ (by omega),
    bit_setField _ _ (by omega), bit_pswSetPrs]
  by_cases h : j < 12
  · interval_cases j <;> simp
  · rw [if_neg (by omega), if_neg (by omega), if_neg (by omega), if_neg (by omega), if_neg (by omega)]
    grind

/-- PSW at the first instruction of a handler (60_exceptions R805, R840). -/
theorem handlerPsw (p : Word) (s : Bool) : HandlerPsw p (pswSetS (pswHandler p) s) s := by
  have hb : ∀ j, bit (pswSetS (pswHandler p) s) j = if j = 14 then s else bit (pswHandler p) j :=
    fun j => bit_setBit _ (by omega) s j
  refine ⟨?_, ?_, ?_, ⟨?_, ?_⟩, ?_, ?_, ?_⟩
  · refine BitVec.eq_of_getLsbD_eq fun k hk => ?_
    have : k = 0 ∨ k = 1 := by omega
    rw [pswIo, getLsbD_field]
    rcases this with rfl | rfl <;> simp [hb, bit_pswHandler]
  · simp [pswIs, hb, bit_pswHandler]
  · refine BitVec.eq_of_getLsbD_eq fun k hk => ?_
    have : k = 0 ∨ k = 1 ∨ k = 2 := by omega
    rw [getLsbD_pswPrs]
    rcases this with rfl | rfl | rfl <;> simp [hb, bit_pswHandler]
  · simp [pswCde, hb, bit_pswHandler]
  · refine BitVec.eq_of_getLsbD_eq fun k hk => ?_
    simp only [pswCdc, getLsbD_field, hb, bit_pswHandler]
    have : k ≠ 14 := by omega
    simp [hk, this]
  · simp [pswGw, hb, bit_pswHandler]
  · simp [hb]
  · rw [field_eq_iff]
    intro k hk
    rw [hb, bit_pswHandler]
    grind

/-! ## PRS of a configuration -/

variable (s : State)

/-- PRS is in bits 12, 13 and 15. -/
theorem State.prsOf_congr {p q : Word} (h12 : bit p 12 = bit q 12) (h13 : bit p 13 = bit q 13)
    (h15 : bit p 15 = bit q 15) : s.prsOf p = s.prsOf q := by
  have h : pswPrs p = pswPrs q := pswPrs_eq_iff.mpr ⟨h12, h13, h15⟩
  simp [State.prsOf, h]

theorem State.prsOf_pswSetPrs_prsOf (p : Word) : s.prsOf (pswSetPrs p (s.prsOf p)) = s.prsOf p := by
  unfold State.prsOf
  split
  · rw [pswPrs_pswSetPrs]
  · rw [pswPrs_pswSetPrs, BitVec.and_assoc]; rfl

/-- The bits of PSW as it is seen. -/
theorem State.bit_pswView (p : Word) (j : Nat) (h : j < 16 ∨ 24 ≤ j) :
    bit (s.pswView p) j = bit (pswSetPrs p (s.prsOf p)) j := by
  unfold State.pswView
  dsimp only
  split
  · exact bit_setField_ne _ (by omega) _ (by omega)
  · rfl

@[simp] theorem State.prsOf_pswView (p : Word) : s.prsOf (s.pswView p) = s.prsOf p :=
  (s.prsOf_congr (s.bit_pswView p 12 (by omega)) (s.bit_pswView p 13 (by omega)) (s.bit_pswView p 15 (by omega))).trans
    (s.prsOf_pswSetPrs_prsOf p)

@[simp] theorem State.prsOf_pswRead : s.prsOf s.pswRead = s.prsOf s.psw := s.prsOf_pswView s.psw

/-- With no CSFR update open, a context operation stores the PSW that is read. -/
theorem State.pswImage_of_window_nil {s : State} (h : s.window = []) : s.pswImage = s.pswRead := by
  rw [State.pswImage, State.ctl_of_window_nil s h]
  rfl

theorem State.link_of_window_nil {s : State} (h : s.window = []) : s.link = s.pcxi := by
  rw [State.link, State.ctl_of_window_nil s h]
  rfl

theorem State.prsOf_setBit {i : Nat} (hi : i < 32) (h : i ≠ 12 ∧ i ≠ 13 ∧ i ≠ 15) (p : Word) (b : Bool) :
    s.prsOf (setBit p i b) = s.prsOf p :=
  s.prsOf_congr (by rw [bit_setBit _ hi, if_neg (by omega)]) (by rw [bit_setBit _ hi, if_neg (by omega)])
    (by rw [bit_setBit _ hi, if_neg (by omega)])

end Sys2Proof.Machine
end

