-- ==== Sys2Proof/Laws/ContextFields.lean ====
section
/-! SUPPORT. The context operations, field by field: what each leaves alone. -/

namespace Sys2Proof.Machine

variable (s : State)

/-! ## Words of a context -/

@[simp] theorem State.putWords_cfg (a : Word) (ws : List Word) : (s.putWords a ws).cfg = s.cfg := by rw [State.putWords_eq]
@[simp] theorem State.putWords_pc (a : Word) (ws : List Word) : (s.putWords a ws).pc = s.pc := by rw [State.putWords_eq]
@[simp] theorem State.putWords_psw (a : Word) (ws : List Word) : (s.putWords a ws).psw = s.psw := by rw [State.putWords_eq]
@[simp] theorem State.putWords_pswUndef (a : Word) (ws : List Word) : (s.putWords a ws).pswUndef = s.pswUndef := by rw [State.putWords_eq]
@[simp] theorem State.putWords_pcxi (a : Word) (ws : List Word) : (s.putWords a ws).pcxi = s.pcxi := by rw [State.putWords_eq]
@[simp] theorem State.putWords_pprs (a : Word) (ws : List Word) : (s.putWords a ws).pprs = s.pprs := by rw [State.putWords_eq]
@[simp] theorem State.putWords_d (a : Word) (ws : List Word) : (s.putWords a ws).d = s.d := by rw [State.putWords_eq]
@[simp] theorem State.putWords_ca (a : Word) (ws : List Word) : (s.putWords a ws).ca = s.ca := by rw [State.putWords_eq]
@[simp] theorem State.putWords_hv (a : Word) (ws : List Word) : (s.putWords a ws).hv = s.hv := by rw [State.putWords_eq]
@[simp] theorem State.putWords_hra (a : Word) (ws : List Word) : (s.putWords a ws).hra = s.hra := by rw [State.putWords_eq]
@[simp] theorem State.putWords_hrb (a : Word) (ws : List Word) : (s.putWords a ws).hrb = s.hrb := by rw [State.putWords_eq]
@[simp] theorem State.putWords_sys (a : Word) (ws : List Word) : (s.putWords a ws).sys = s.sys := by rw [State.putWords_eq]
@[simp] theorem State.putWords_pendNmi (a : Word) (ws : List Word) : (s.putWords a ws).pendNmi = s.pendNmi := by rw [State.putWords_eq]
@[simp] theorem State.putWords_pendDae (a : Word) (ws : List Word) : (s.putWords a ws).pendDae = s.pendDae := by rw [State.putWords_eq]
@[simp] theorem State.putWords_pendCae (a : Word) (ws : List Word) : (s.putWords a ws).pendCae = s.pendCae := by rw [State.putWords_eq]
@[simp] theorem State.putWords_pendDie (a : Word) (ws : List Word) : (s.putWords a ws).pendDie = s.pendDie := by rw [State.putWords_eq]
@[simp] theorem State.putWords_breakIn (a : Word) (ws : List Word) : (s.putWords a ws).breakIn = s.breakIn := by rw [State.putWords_eq]
@[simp] theorem State.putWords_taskGate (a : Word) (ws : List Word) : (s.putWords a ws).taskGate = s.taskGate := by rw [State.putWords_eq]
@[simp] theorem State.putWords_vcon0Written (a : Word) (ws : List Word) : (s.putWords a ws).vcon0Written = s.vcon0Written := by rw [State.putWords_eq]
@[simp] theorem State.putWords_endinitOpen (a : Word) (ws : List Word) : (s.putWords a ws).endinitOpen = s.endinitOpen := by rw [State.putWords_eq]
@[simp] theorem State.putWords_safetyOpen (a : Word) (ws : List Word) : (s.putWords a ws).safetyOpen = s.safetyOpen := by rw [State.putWords_eq]
@[simp] theorem State.putWords_fcdPending (a : Word) (ws : List Word) : (s.putWords a ws).fcdPending = s.fcdPending := by rw [State.putWords_eq]
@[simp] theorem State.putWords_fetchError (a : Word) (ws : List Word) : (s.putWords a ws).fetchError = s.fetchError := by rw [State.putWords_eq]
@[simp] theorem State.putWords_window (a : Word) (ws : List Word) : (s.putWords a ws).window = s.window := by rw [State.putWords_eq]
@[simp] theorem State.putWords_draws (a : Word) (ws : List Word) : (s.putWords a ws).draws = s.draws := by rw [State.putWords_eq]
@[simp] theorem State.putWords_schedule (a : Word) (ws : List Word) : (s.putWords a ws).schedule = s.schedule := by rw [State.putWords_eq]
@[simp] theorem State.putWords_out (a : Word) (ws : List Word) : (s.putWords a ws).out = s.out := by rw [State.putWords_eq]
@[simp] theorem State.putWords_entered (a : Word) (ws : List Word) : (s.putWords a ws).entered = s.entered := by rw [State.putWords_eq]
@[simp] theorem State.putWords_evt (a : Word) (ws : List Word) : (s.putWords a ws).evt = s.evt := by rw [State.putWords_eq]

/-! ## A save but for the FCD request -/

@[simp] theorem State.linked_cfg (ul : Bool) (b : List Word) : (s.linked ul b).cfg = s.cfg := by simp [State.linked]
@[simp] theorem State.linked_pc (ul : Bool) (b : List Word) : (s.linked ul b).pc = s.pc := by simp [State.linked]
@[simp] theorem State.linked_psw (ul : Bool) (b : List Word) : (s.linked ul b).psw = s.psw := by simp [State.linked]
@[simp] theorem State.linked_pswUndef (ul : Bool) (b : List Word) : (s.linked ul b).pswUndef = s.pswUndef := by simp [State.linked]
@[simp] theorem State.linked_pprs (ul : Bool) (b : List Word) : (s.linked ul b).pprs = s.pprs := by simp [State.linked]
@[simp] theorem State.linked_d (ul : Bool) (b : List Word) : (s.linked ul b).d = s.d := by simp [State.linked]
@[simp] theorem State.linked_ca (ul : Bool) (b : List Word) : (s.linked ul b).ca = s.ca := by simp [State.linked]
@[simp] theorem State.linked_sys (ul : Bool) (b : List Word) : (s.linked ul b).sys = s.sys := by simp [State.linked]
@[simp] theorem State.linked_pendNmi (ul : Bool) (b : List Word) : (s.linked ul b).pendNmi = s.pendNmi := by simp [State.linked]
@[simp] theorem State.linked_pendDae (ul : Bool) (b : List Word) : (s.linked ul b).pendDae = s.pendDae := by simp [State.linked]
@[simp] theorem State.linked_pendCae (ul : Bool) (b : List Word) : (s.linked ul b).pendCae = s.pendCae := by simp [State.linked]
@[simp] theorem State.linked_pendDie (ul : Bool) (b : List Word) : (s.linked ul b).pendDie = s.pendDie := by simp [State.linked]
@[simp] theorem State.linked_breakIn (ul : Bool) (b : List Word) : (s.linked ul b).breakIn = s.breakIn := by simp [State.linked]
@[simp] theorem State.linked_taskGate (ul : Bool) (b : List Word) : (s.linked ul b).taskGate = s.taskGate := by simp [State.linked]
@[simp] theorem State.linked_vcon0Written (ul : Bool) (b : List Word) : (s.linked ul b).vcon0Written = s.vcon0Written := by simp [State.linked]
@[simp] theorem State.linked_endinitOpen (ul : Bool) (b : List Word) : (s.linked ul b).endinitOpen = s.endinitOpen := by simp [State.linked]
@[simp] theorem State.linked_safetyOpen (ul : Bool) (b : List Word) : (s.linked ul b).safetyOpen = s.safetyOpen := by simp [State.linked]
@[simp] theorem State.linked_fcdPending (ul : Bool) (b : List Word) : (s.linked ul b).fcdPending = s.fcdPending := by simp [State.linked]
@[simp] theorem State.linked_fetchError (ul : Bool) (b : List Word) : (s.linked ul b).fetchError = s.fetchError := by simp [State.linked]
@[simp] theorem State.linked_draws (ul : Bool) (b : List Word) : (s.linked ul b).draws = s.draws := by simp [State.linked]
@[simp] theorem State.linked_schedule (ul : Bool) (b : List Word) : (s.linked ul b).schedule = s.schedule := by simp [State.linked]
@[simp] theorem State.linked_out (ul : Bool) (b : List Word) : (s.linked ul b).out = s.out := by simp [State.linked]
@[simp] theorem State.linked_entered (ul : Bool) (b : List Word) : (s.linked ul b).entered = s.entered := by simp [State.linked]
@[simp] theorem State.linked_evt (ul : Bool) (b : List Word) : (s.linked ul b).evt = s.evt := by simp [State.linked]

/-! ## A save -/

@[simp] theorem State.saveList_cfg (ul : Bool) (b : List Word) : (s.saveList ul b).cfg = s.cfg := by simp [State.saveList_eq]
@[simp] theorem State.saveList_pc (ul : Bool) (b : List Word) : (s.saveList ul b).pc = s.pc := by simp [State.saveList_eq]
@[simp] theorem State.saveList_psw (ul : Bool) (b : List Word) : (s.saveList ul b).psw = s.psw := by simp [State.saveList_eq]
@[simp] theorem State.saveList_pswUndef (ul : Bool) (b : List Word) : (s.saveList ul b).pswUndef = s.pswUndef := by simp [State.saveList_eq]
@[simp] theorem State.saveList_pprs (ul : Bool) (b : List Word) : (s.saveList ul b).pprs = s.pprs := by simp [State.saveList_eq]
@[simp] theorem State.saveList_d (ul : Bool) (b : List Word) : (s.saveList ul b).d = s.d := by simp [State.saveList_eq]
@[simp] theorem State.saveList_ca (ul : Bool) (b : List Word) : (s.saveList ul b).ca = s.ca := by simp [State.saveList_eq]
@[simp] theorem State.saveList_sys (ul : Bool) (b : List Word) : (s.saveList ul b).sys = s.sys := by simp [State.saveList_eq]
@[simp] theorem State.saveList_pendNmi (ul : Bool) (b : List Word) : (s.saveList ul b).pendNmi = s.pendNmi := by simp [State.saveList_eq]
@[simp] theorem State.saveList_pendDae (ul : Bool) (b : List Word) : (s.saveList ul b).pendDae = s.pendDae := by simp [State.saveList_eq]
@[simp] theorem State.saveList_pendCae (ul : Bool) (b : List Word) : (s.saveList ul b).pendCae = s.pendCae := by simp [State.saveList_eq]
@[simp] theorem State.saveList_pendDie (ul : Bool) (b : List Word) : (s.saveList ul b).pendDie = s.pendDie := by simp [State.saveList_eq]
@[simp] theorem State.saveList_breakIn (ul : Bool) (b : List Word) : (s.saveList ul b).breakIn = s.breakIn := by simp [State.saveList_eq]
@[simp] theorem State.saveList_taskGate (ul : Bool) (b : List Word) : (s.saveList ul b).taskGate = s.taskGate := by simp [State.saveList_eq]
@[simp] theorem State.saveList_vcon0Written (ul : Bool) (b : List Word) : (s.saveList ul b).vcon0Written = s.vcon0Written := by simp [State.saveList_eq]
@[simp] theorem State.saveList_endinitOpen (ul : Bool) (b : List Word) : (s.saveList ul b).endinitOpen = s.endinitOpen := by simp [State.saveList_eq]
@[simp] theorem State.saveList_safetyOpen (ul : Bool) (b : List Word) : (s.saveList ul b).safetyOpen = s.safetyOpen := by simp [State.saveList_eq]
@[simp] theorem State.saveList_fetchError (ul : Bool) (b : List Word) : (s.saveList ul b).fetchError = s.fetchError := by simp [State.saveList_eq]
@[simp] theorem State.saveList_draws (ul : Bool) (b : List Word) : (s.saveList ul b).draws = s.draws := by simp [State.saveList_eq]
@[simp] theorem State.saveList_schedule (ul : Bool) (b : List Word) : (s.saveList ul b).schedule = s.schedule := by simp [State.saveList_eq]
@[simp] theorem State.saveList_out (ul : Bool) (b : List Word) : (s.saveList ul b).out = s.out := by simp [State.saveList_eq]
@[simp] theorem State.saveList_entered (ul : Bool) (b : List Word) : (s.saveList ul b).entered = s.entered := by simp [State.saveList_eq]
@[simp] theorem State.saveList_evt (ul : Bool) (b : List Word) : (s.saveList ul b).evt = s.evt := by simp [State.saveList_eq]

/-! ## A restore of the lists -/

@[simp] theorem State.restoreList_cfg : (s.restoreList).cfg = s.cfg := by simp [State.restoreList, State.hwCur]
@[simp] theorem State.restoreList_pc : (s.restoreList).pc = s.pc := by simp [State.restoreList, State.hwCur]
@[simp] theorem State.restoreList_psw : (s.restoreList).psw = s.psw := by simp [State.restoreList, State.hwCur]
@[simp] theorem State.restoreList_pswUndef : (s.restoreList).pswUndef = s.pswUndef := by simp [State.restoreList, State.hwCur]
@[simp] theorem State.restoreList_pprs : (s.restoreList).pprs = s.pprs := by simp [State.restoreList, State.hwCur]
@[simp] theorem State.restoreList_d : (s.restoreList).d = s.d := by simp [State.restoreList, State.hwCur]
@[simp] theorem State.restoreList_ca : (s.restoreList).ca = s.ca := by simp [State.restoreList, State.hwCur]
@[simp] theorem State.restoreList_sys : (s.restoreList).sys = s.sys := by simp [State.restoreList, State.hwCur]
@[simp] theorem State.restoreList_pendNmi : (s.restoreList).pendNmi = s.pendNmi := by simp [State.restoreList, State.hwCur]
@[simp] theorem State.restoreList_pendDae : (s.restoreList).pendDae = s.pendDae := by simp [State.restoreList, State.hwCur]
@[simp] theorem State.restoreList_pendCae : (s.restoreList).pendCae = s.pendCae := by simp [State.restoreList, State.hwCur]
@[simp] theorem State.restoreList_pendDie : (s.restoreList).pendDie = s.pendDie := by simp [State.restoreList, State.hwCur]
@[simp] theorem State.restoreList_breakIn : (s.restoreList).breakIn = s.breakIn := by simp [State.restoreList, State.hwCur]
@[simp] theorem State.restoreList_taskGate : (s.restoreList).taskGate = s.taskGate := by simp [State.restoreList, State.hwCur]
@[simp] theorem State.restoreList_vcon0Written : (s.restoreList).vcon0Written = s.vcon0Written := by simp [State.restoreList, State.hwCur]
@[simp] theorem State.restoreList_endinitOpen : (s.restoreList).endinitOpen = s.endinitOpen := by simp [State.restoreList, State.hwCur]
@[simp] theorem State.restoreList_safetyOpen : (s.restoreList).safetyOpen = s.safetyOpen := by simp [State.restoreList, State.hwCur]
@[simp] theorem State.restoreList_fcdPending : (s.restoreList).fcdPending = s.fcdPending := by simp [State.restoreList, State.hwCur]
@[simp] theorem State.restoreList_fetchError : (s.restoreList).fetchError = s.fetchError := by simp [State.restoreList, State.hwCur]
@[simp] theorem State.restoreList_draws : (s.restoreList).draws = s.draws := by simp [State.restoreList, State.hwCur]
@[simp] theorem State.restoreList_schedule : (s.restoreList).schedule = s.schedule := by simp [State.restoreList, State.hwCur]
@[simp] theorem State.restoreList_out : (s.restoreList).out = s.out := by simp [State.restoreList, State.hwCur]
@[simp] theorem State.restoreList_entered : (s.restoreList).entered = s.entered := by simp [State.restoreList, State.hwCur]
@[simp] theorem State.restoreList_evt : (s.restoreList).evt = s.evt := by simp [State.restoreList, State.hwCur]

/-! ## Registers: setUpper -/

@[simp] theorem State.setUpper_cfg (w : Nat → Word) : (s.setUpper w).cfg = s.cfg := by simp [State.setUpper]
@[simp] theorem State.setUpper_pc (w : Nat → Word) : (s.setUpper w).pc = s.pc := by simp [State.setUpper]
@[simp] theorem State.setUpper_psw (w : Nat → Word) : (s.setUpper w).psw = s.psw := by simp [State.setUpper]
@[simp] theorem State.setUpper_pswUndef (w : Nat → Word) : (s.setUpper w).pswUndef = s.pswUndef := by simp [State.setUpper]
@[simp] theorem State.setUpper_pcxi (w : Nat → Word) : (s.setUpper w).pcxi = s.pcxi := by simp [State.setUpper]
@[simp] theorem State.setUpper_pprs (w : Nat → Word) : (s.setUpper w).pprs = s.pprs := by simp [State.setUpper]
@[simp] theorem State.setUpper_sys (w : Nat → Word) : (s.setUpper w).sys = s.sys := by simp [State.setUpper]
@[simp] theorem State.setUpper_pendNmi (w : Nat → Word) : (s.setUpper w).pendNmi = s.pendNmi := by simp [State.setUpper]
@[simp] theorem State.setUpper_pendDae (w : Nat → Word) : (s.setUpper w).pendDae = s.pendDae := by simp [State.setUpper]
@[simp] theorem State.setUpper_pendCae (w : Nat → Word) : (s.setUpper w).pendCae = s.pendCae := by simp [State.setUpper]
@[simp] theorem State.setUpper_pendDie (w : Nat → Word) : (s.setUpper w).pendDie = s.pendDie := by simp [State.setUpper]
@[simp] theorem State.setUpper_breakIn (w : Nat → Word) : (s.setUpper w).breakIn = s.breakIn := by simp [State.setUpper]
@[simp] theorem State.setUpper_taskGate (w : Nat → Word) : (s.setUpper w).taskGate = s.taskGate := by simp [State.setUpper]
@[simp] theorem State.setUpper_vcon0Written (w : Nat → Word) : (s.setUpper w).vcon0Written = s.vcon0Written := by simp [State.setUpper]
@[simp] theorem State.setUpper_endinitOpen (w : Nat → Word) : (s.setUpper w).endinitOpen = s.endinitOpen := by simp [State.setUpper]
@[simp] theorem State.setUpper_safetyOpen (w : Nat → Word) : (s.setUpper w).safetyOpen = s.safetyOpen := by simp [State.setUpper]
@[simp] theorem State.setUpper_fcdPending (w : Nat → Word) : (s.setUpper w).fcdPending = s.fcdPending := by simp [State.setUpper]
@[simp] theorem State.setUpper_fetchError (w : Nat → Word) : (s.setUpper w).fetchError = s.fetchError := by simp [State.setUpper]
@[simp] theorem State.setUpper_window (w : Nat → Word) : (s.setUpper w).window = s.window := by simp [State.setUpper]
@[simp] theorem State.setUpper_draws (w : Nat → Word) : (s.setUpper w).draws = s.draws := by simp [State.setUpper]
@[simp] theorem State.setUpper_schedule (w : Nat → Word) : (s.setUpper w).schedule = s.schedule := by simp [State.setUpper]
@[simp] theorem State.setUpper_out (w : Nat → Word) : (s.setUpper w).out = s.out := by simp [State.setUpper]
@[simp] theorem State.setUpper_entered (w : Nat → Word) : (s.setUpper w).entered = s.entered := by simp [State.setUpper]
@[simp] theorem State.setUpper_evt (w : Nat → Word) : (s.setUpper w).evt = s.evt := by simp [State.setUpper]

/-! ## Registers: setLower -/

@[simp] theorem State.setLower_cfg (w : Nat → Word) : (s.setLower w).cfg = s.cfg := by simp [State.setLower]
@[simp] theorem State.setLower_pc (w : Nat → Word) : (s.setLower w).pc = s.pc := by simp [State.setLower]
@[simp] theorem State.setLower_psw (w : Nat → Word) : (s.setLower w).psw = s.psw := by simp [State.setLower]
@[simp] theorem State.setLower_pswUndef (w : Nat → Word) : (s.setLower w).pswUndef = s.pswUndef := by simp [State.setLower]
@[simp] theorem State.setLower_pcxi (w : Nat → Word) : (s.setLower w).pcxi = s.pcxi := by simp [State.setLower]
@[simp] theorem State.setLower_pprs (w : Nat → Word) : (s.setLower w).pprs = s.pprs := by simp [State.setLower]
@[simp] theorem State.setLower_sys (w : Nat → Word) : (s.setLower w).sys = s.sys := by simp [State.setLower]
@[simp] theorem State.setLower_pendNmi (w : Nat → Word) : (s.setLower w).pendNmi = s.pendNmi := by simp [State.setLower]
@[simp] theorem State.setLower_pendDae (w : Nat → Word) : (s.setLower w).pendDae = s.pendDae := by simp [State.setLower]
@[simp] theorem State.setLower_pendCae (w : Nat → Word) : (s.setLower w).pendCae = s.pendCae := by simp [State.setLower]
@[simp] theorem State.setLower_pendDie (w : Nat → Word) : (s.setLower w).pendDie = s.pendDie := by simp [State.setLower]
@[simp] theorem State.setLower_breakIn (w : Nat → Word) : (s.setLower w).breakIn = s.breakIn := by simp [State.setLower]
@[simp] theorem State.setLower_taskGate (w : Nat → Word) : (s.setLower w).taskGate = s.taskGate := by simp [State.setLower]
@[simp] theorem State.setLower_vcon0Written (w : Nat → Word) : (s.setLower w).vcon0Written = s.vcon0Written := by simp [State.setLower]
@[simp] theorem State.setLower_endinitOpen (w : Nat → Word) : (s.setLower w).endinitOpen = s.endinitOpen := by simp [State.setLower]
@[simp] theorem State.setLower_safetyOpen (w : Nat → Word) : (s.setLower w).safetyOpen = s.safetyOpen := by simp [State.setLower]
@[simp] theorem State.setLower_fcdPending (w : Nat → Word) : (s.setLower w).fcdPending = s.fcdPending := by simp [State.setLower]
@[simp] theorem State.setLower_fetchError (w : Nat → Word) : (s.setLower w).fetchError = s.fetchError := by simp [State.setLower]
@[simp] theorem State.setLower_window (w : Nat → Word) : (s.setLower w).window = s.window := by simp [State.setLower]
@[simp] theorem State.setLower_draws (w : Nat → Word) : (s.setLower w).draws = s.draws := by simp [State.setLower]
@[simp] theorem State.setLower_schedule (w : Nat → Word) : (s.setLower w).schedule = s.schedule := by simp [State.setLower]
@[simp] theorem State.setLower_out (w : Nat → Word) : (s.setLower w).out = s.out := by simp [State.setLower]
@[simp] theorem State.setLower_entered (w : Nat → Word) : (s.setLower w).entered = s.entered := by simp [State.setLower]
@[simp] theorem State.setLower_evt (w : Nat → Word) : (s.setLower w).evt = s.evt := by simp [State.setLower]

/-! ## Registers: scramble -/

@[simp] theorem State.scramble_cfg : (s.scramble).cfg = s.cfg := by simp [State.scramble]
@[simp] theorem State.scramble_pc : (s.scramble).pc = s.pc := by simp [State.scramble]
@[simp] theorem State.scramble_psw : (s.scramble).psw = s.psw := by simp [State.scramble]
@[simp] theorem State.scramble_pswUndef : (s.scramble).pswUndef = s.pswUndef := by simp [State.scramble]
@[simp] theorem State.scramble_pcxi : (s.scramble).pcxi = s.pcxi := by simp [State.scramble]
@[simp] theorem State.scramble_pprs : (s.scramble).pprs = s.pprs := by simp [State.scramble]
@[simp] theorem State.scramble_sys : (s.scramble).sys = s.sys := by simp [State.scramble]
@[simp] theorem State.scramble_pendNmi : (s.scramble).pendNmi = s.pendNmi := by simp [State.scramble]
@[simp] theorem State.scramble_pendDae : (s.scramble).pendDae = s.pendDae := by simp [State.scramble]
@[simp] theorem State.scramble_pendCae : (s.scramble).pendCae = s.pendCae := by simp [State.scramble]
@[simp] theorem State.scramble_pendDie : (s.scramble).pendDie = s.pendDie := by simp [State.scramble]
@[simp] theorem State.scramble_breakIn : (s.scramble).breakIn = s.breakIn := by simp [State.scramble]
@[simp] theorem State.scramble_taskGate : (s.scramble).taskGate = s.taskGate := by simp [State.scramble]
@[simp] theorem State.scramble_vcon0Written : (s.scramble).vcon0Written = s.vcon0Written := by simp [State.scramble]
@[simp] theorem State.scramble_endinitOpen : (s.scramble).endinitOpen = s.endinitOpen := by simp [State.scramble]
@[simp] theorem State.scramble_safetyOpen : (s.scramble).safetyOpen = s.safetyOpen := by simp [State.scramble]
@[simp] theorem State.scramble_fcdPending : (s.scramble).fcdPending = s.fcdPending := by simp [State.scramble]
@[simp] theorem State.scramble_fetchError : (s.scramble).fetchError = s.fetchError := by simp [State.scramble]
@[simp] theorem State.scramble_window : (s.scramble).window = s.window := by simp [State.scramble]
@[simp] theorem State.scramble_draws : (s.scramble).draws = s.draws := by simp [State.scramble]
@[simp] theorem State.scramble_schedule : (s.scramble).schedule = s.schedule := by simp [State.scramble]
@[simp] theorem State.scramble_out : (s.scramble).out = s.out := by simp [State.scramble]
@[simp] theorem State.scramble_entered : (s.scramble).entered = s.entered := by simp [State.scramble]
@[simp] theorem State.scramble_evt : (s.scramble).evt = s.evt := by simp [State.scramble]


/-! ## The window stays empty -/

theorem State.hw_window_nil {r : Resource} {c : Csfr} {f : Word → Word} (h : s.window = []) : (s.hw r c f).window = [] := by
  cases c <;> simp [State.hw, State.setRaw, h]

theorem State.linked_window_nil (h : s.window = []) (ul : Bool) (b : List Word) : (s.linked ul b).window = [] :=
  State.hw_window_nil _ (State.hw_window_nil _ (by simpa using h))

theorem State.saveList_window_nil (h : s.window = []) (ul : Bool) (b : List Word) : (s.saveList ul b).window = [] := by
  rw [State.saveList_eq]; exact s.linked_window_nil h ul b

theorem State.restoreList_window_nil (h : s.window = []) : s.restoreList.window = [] :=
  State.hw_window_nil _ (State.hw_window_nil _ h)

@[simp] theorem State.res_linked (ul : Bool) (b : List Word) : (s.linked ul b).res = s.res :=
  State.res_of_sys (by simp) (by simp)

@[simp] theorem State.res_saveList (ul : Bool) (b : List Word) : (s.saveList ul b).res = s.res :=
  State.res_of_sys (by simp) (by simp)

@[simp] theorem State.res_restoreList : s.restoreList.res = s.res := State.res_of_sys (by simp) (by simp)

/-! ## The banks -/

@[simp] theorem State.getRep_putWords (a : Word) (ws : List Word) (q : Resource) (x : RepReg) :
    (s.putWords a ws).getRep q x = s.getRep q x := by rw [State.putWords_eq]; rfl
@[simp] theorem State.getSys_putWords (a : Word) (ws : List Word) (x : SysReg) :
    (s.putWords a ws).getSys x = s.getSys x := by rw [State.putWords_eq]; rfl
@[simp] theorem State.getRep_setUpper (w : Nat → Word) (q : Resource) (x : RepReg) :
    (s.setUpper w).getRep q x = s.getRep q x := by simp [State.setUpper]
@[simp] theorem State.getSys_setUpper (w : Nat → Word) (x : SysReg) :
    (s.setUpper w).getSys x = s.getSys x := by simp [State.setUpper]
@[simp] theorem State.getRep_setLower (w : Nat → Word) (q : Resource) (x : RepReg) :
    (s.setLower w).getRep q x = s.getRep q x := by simp [State.setLower]
@[simp] theorem State.getSys_setLower (w : Nat → Word) (x : SysReg) :
    (s.setLower w).getSys x = s.getSys x := by simp [State.setLower]
@[simp] theorem State.getRep_scramble (q : Resource) (x : RepReg) :
    (s.scramble).getRep q x = s.getRep q x := by simp [State.scramble]
@[simp] theorem State.getSys_scramble (x : SysReg) :
    (s.scramble).getSys x = s.getSys x := by simp [State.scramble]

theorem State.getRep_saveList_ne {x : RepReg} (h : x ≠ .fcx) (ul : Bool) (b : List Word) (q : Resource) :
    (s.saveList ul b).getRep q x = s.getRep q x := by
  rw [State.saveList_eq]
  exact (Kept.linked ul b).csfr q (.rep x) (by simp [h]) (by simp)

@[simp] theorem State.getSys_saveList (ul : Bool) (b : List Word) (x : SysReg) :
    (s.saveList ul b).getSys x = s.getSys x := by simp [State.getSys]

theorem State.getRep_restoreList_ne {x : RepReg} (h : x ≠ .fcx) (q : Resource) :
    s.restoreList.getRep q x = s.getRep q x := Kept.restoreList.csfr q (.rep x) (by simp [h]) (by simp)

@[simp] theorem State.getSys_restoreList (x : SysReg) : s.restoreList.getSys x = s.getSys x := by simp [State.getSys]

/-! ## The general registers -/

@[simp] theorem State.getD_saveList (ul : Bool) (b : List Word) (n : Reg) : (s.saveList ul b).getD n = s.getD n :=
  State.getD_of_d (by simp) n

@[simp] theorem State.getA_saveList (ul : Bool) (b : List Word) (n : Reg) : (s.saveList ul b).getA n = s.getA n := by
  rw [State.saveList_eq]
  exact (Kept.linked ul b).addr n (by simp)

@[simp] theorem State.getD_restoreList (n : Reg) : s.restoreList.getD n = s.getD n := State.getD_of_d (by simp) n

@[simp] theorem State.getA_restoreList (n : Reg) : s.restoreList.getA n = s.getA n := Kept.restoreList.addr n (by simp)

/-! ## What the operations are -/

theorem State.restoreLower_eq : s.restoreLower = s.restoreList.setLower s.linkWord := rfl

theorem State.saveLower_eq : s.saveLower = s.saveList false s.lowerBlock := rfl

theorem State.saveUpper_eq (p : Word) : s.saveUpper p =
    (s.saveList true (s.upperBlock (s.csaPsw p))).hw .hv .pprs fun w =>
      setField w 0 (s.prsOf (s.ctl .psw .set)) := rfl

/-! ## The upper restore -/

/-- PSW as a restore of the upper context writes it (41 R397, R414). -/
def State.restoredPsw (s : State) (keepRm : Bool) : Word :=
  if keepRm then setField (pswSetPrs (s.linkWord 1) (field (s.ctl .pprs .context) 0 3)) 24 (pswRm s.psw)
  else pswSetPrs (s.linkWord 1) (field (s.ctl .pprs .context) 0 3)

theorem State.bit_restoredPsw (k : Bool) {j : Nat} (h : k = false ∨ j < 24 ∨ 26 ≤ j) :
    bit (s.restoredPsw k) j = bit (pswSetPrs (s.linkWord 1) (field (s.ctl .pprs .context) 0 3)) j := by
  unfold State.restoredPsw
  split
  · exact bit_setField_ne _ (by omega) _ (by simp_all)
  · rfl

theorem State.pswPrs_restoredPsw (k : Bool) : pswPrs (s.restoredPsw k) = field (s.ctl .pprs .context) 0 3 := by
  refine (pswPrs_eq_iff.mpr ⟨?_, ?_, ?_⟩).trans (pswPrs_pswSetPrs (s.linkWord 1) _) <;>
    exact s.bit_restoredPsw k (by omega)

theorem State.pswRm_restoredPsw (k : Bool) :
    pswRm (s.restoredPsw k) = if k then pswRm s.psw else pswRm (s.linkWord 1) := by
  unfold State.restoredPsw
  split
  · exact field_setField_same _ (by omega) _
  · unfold pswRm
    rw [field_eq_iff]
    intro j hj
    rw [bit_pswSetPrs, if_neg (by omega), if_neg (by omega), if_neg (by omega)]

theorem State.field_restoredPsw (k : Bool) {lo len : Nat} (h : lo + len ≤ 12 ∨ 26 ≤ lo) :
    field (s.restoredPsw k) lo len = field (s.linkWord 1) lo len := by
  rw [field_eq_iff]
  intro j hj
  rw [s.bit_restoredPsw k (by omega), bit_pswSetPrs, if_neg (by omega), if_neg (by omega), if_neg (by omega)]

/-- The image of PSW that a restore of the upper context makes of an image `q` (70 R950). -/
def State.restoredImage (s : State) (keepRm : Bool) (q : Word) : Word :=
  if keepRm then setField (pswSetPrs (s.linkWord 1) (field (s.ctl .pprs .context) 0 3)) 24 (pswRm q)
  else pswSetPrs (s.linkWord 1) (field (s.ctl .pprs .context) 0 3)

@[simp] theorem State.restoredImage_psw (k : Bool) : s.restoredImage k s.psw = s.restoredPsw k := rfl

theorem State.restoreUpper_eq (k : Bool) : s.restoreUpper k =
    ((s.restoreList.setUpper s.linkWord).modPsw (s.restoredImage k)).hw .hv .pprs
      fun q => setField q 0 (pswPrs (s.linkWord 1)) := rfl

@[simp] theorem State.getD_restoreUpper (k : Bool) (n : Reg) :
    (s.restoreUpper k).getD n = (s.restoreList.setUpper s.linkWord).getD n := by
  simp [State.restoreUpper_eq, State.modPsw]
@[simp] theorem State.getA_restoreUpper (k : Bool) (n : Reg) :
    (s.restoreUpper k).getA n = (s.restoreList.setUpper s.linkWord).getA n := by
  simp [State.restoreUpper_eq, State.modPsw]
@[simp] theorem State.getSys_restoreUpper (k : Bool) (x : SysReg) : (s.restoreUpper k).getSys x = s.getSys x := by
  simp [State.restoreUpper_eq, State.modPsw]
@[simp] theorem State.getRep_restoreUpper (k : Bool) (q : Resource) (x : RepReg) :
    (s.restoreUpper k).getRep q x = s.restoreList.getRep q x := by simp [State.restoreUpper_eq, State.modPsw]
@[simp] theorem State.restoreUpper_mem (k : Bool) : (s.restoreUpper k).mem = s.restoreList.mem := by
  simp [State.restoreUpper_eq, State.modPsw]
@[simp] theorem State.restoreUpper_pc (k : Bool) : (s.restoreUpper k).pc = s.pc := by
  simp [State.restoreUpper_eq, State.modPsw]
@[simp] theorem State.restoreUpper_cfg (k : Bool) : (s.restoreUpper k).cfg = s.cfg := by
  simp [State.restoreUpper_eq, State.modPsw]
@[simp] theorem State.restoreUpper_sys (k : Bool) : (s.restoreUpper k).sys = s.sys := by
  simp [State.restoreUpper_eq, State.modPsw]
@[simp] theorem State.restoreUpper_draws (k : Bool) : (s.restoreUpper k).draws = s.draws := by
  simp [State.restoreUpper_eq, State.modPsw]
@[simp] theorem State.restoreUpper_pcxi (k : Bool) : (s.restoreUpper k).pcxi = s.restoreList.pcxi := by
  simp [State.restoreUpper_eq, State.modPsw]
@[simp] theorem State.restoreUpper_psw (k : Bool) : (s.restoreUpper k).psw = s.restoredPsw k := by
  simp [State.restoreUpper_eq, State.modPsw]
@[simp] theorem State.restoreUpper_pswUndef (k : Bool) : (s.restoreUpper k).pswUndef = s.pswUndef := by
  simp [State.restoreUpper_eq, State.modPsw]
@[simp] theorem State.restoreUpper_vcon0Written (k : Bool) : (s.restoreUpper k).vcon0Written = s.vcon0Written := by
  simp [State.restoreUpper_eq, State.modPsw]
@[simp] theorem State.restoreUpper_pprs (k : Bool) : (s.restoreUpper k).pprs = setField s.pprs 0 (pswPrs (s.linkWord 1)) := by
  simp [State.restoreUpper_eq, State.modPsw]
@[simp] theorem State.res_restoreUpper (k : Bool) : (s.restoreUpper k).res = s.res := by
  simp [State.restoreUpper_eq, State.modPsw]

/-- What a restore of the upper context keeps. -/
theorem Kept.restoreUpper (k : Bool) :
    Kept s (s.restoreUpper k) upperData upperAddr [.psw, .pcxi, .pprs, .rep .fcx] := by
  rw [State.restoreUpper_eq]
  have h := (Kept.restoreList (s := s)).trans (Kept.setUpper s.linkWord) (by simp)
  have h := (h.trans (Kept.modPsw (s.restoredImage k)) (by simp)).trans
    (Kept.hwPprs .hv fun q => setField q 0 (pswPrs (s.linkWord 1))) (by simp)
  exact h.mono (by simp) (by simp) (by simp)

/-! ## The ends of an entry and of a return -/

/-- A synchronised state with no update open keeps everything. -/
theorem Kept.sync {s : State} (h : s.window = []) : Kept s s.sync [] [] [] := by
  have e : s.sync = s := by cases s; simp_all [State.sync]
  rw [e]; exact Kept.refl s

/-- A state at the first instruction of a handler. -/
def State.atHandler (s : State) (target : Word) : State := { s.sync with pc := target, entered := true }

@[simp] theorem State.atHandler_cfg (a : Word) : (s.atHandler a).cfg = s.cfg := rfl
@[simp] theorem State.atHandler_psw (a : Word) : (s.atHandler a).psw = s.psw := rfl
@[simp] theorem State.atHandler_pswUndef (a : Word) : (s.atHandler a).pswUndef = s.pswUndef := rfl
@[simp] theorem State.atHandler_pcxi (a : Word) : (s.atHandler a).pcxi = s.pcxi := rfl
@[simp] theorem State.atHandler_pprs (a : Word) : (s.atHandler a).pprs = s.pprs := rfl
@[simp] theorem State.atHandler_d (a : Word) : (s.atHandler a).d = s.d := rfl
@[simp] theorem State.atHandler_ca (a : Word) : (s.atHandler a).ca = s.ca := rfl
@[simp] theorem State.atHandler_hv (a : Word) : (s.atHandler a).hv = s.hv := rfl
@[simp] theorem State.atHandler_hra (a : Word) : (s.atHandler a).hra = s.hra := rfl
@[simp] theorem State.atHandler_hrb (a : Word) : (s.atHandler a).hrb = s.hrb := rfl
@[simp] theorem State.atHandler_sys (a : Word) : (s.atHandler a).sys = s.sys := rfl
@[simp] theorem State.atHandler_pendNmi (a : Word) : (s.atHandler a).pendNmi = s.pendNmi := rfl
@[simp] theorem State.atHandler_pendDae (a : Word) : (s.atHandler a).pendDae = s.pendDae := rfl
@[simp] theorem State.atHandler_pendCae (a : Word) : (s.atHandler a).pendCae = s.pendCae := rfl
@[simp] theorem State.atHandler_pendDie (a : Word) : (s.atHandler a).pendDie = s.pendDie := rfl
@[simp] theorem State.atHandler_breakIn (a : Word) : (s.atHandler a).breakIn = s.breakIn := rfl
@[simp] theorem State.atHandler_taskGate (a : Word) : (s.atHandler a).taskGate = s.taskGate := rfl
@[simp] theorem State.atHandler_vcon0Written (a : Word) : (s.atHandler a).vcon0Written = s.vcon0Written := rfl
@[simp] theorem State.atHandler_endinitOpen (a : Word) : (s.atHandler a).endinitOpen = s.endinitOpen := rfl
@[simp] theorem State.atHandler_safetyOpen (a : Word) : (s.atHandler a).safetyOpen = s.safetyOpen := rfl
@[simp] theorem State.atHandler_fcdPending (a : Word) : (s.atHandler a).fcdPending = s.fcdPending := rfl
@[simp] theorem State.atHandler_fetchError (a : Word) : (s.atHandler a).fetchError = s.fetchError := rfl
@[simp] theorem State.atHandler_mem (a : Word) : (s.atHandler a).mem = s.mem := rfl
@[simp] theorem State.atHandler_draws (a : Word) : (s.atHandler a).draws = s.draws := rfl
@[simp] theorem State.atHandler_schedule (a : Word) : (s.atHandler a).schedule = s.schedule := rfl
@[simp] theorem State.atHandler_out (a : Word) : (s.atHandler a).out = s.out := rfl
@[simp] theorem State.atHandler_evt (a : Word) : (s.atHandler a).evt = s.evt := rfl
@[simp] theorem State.atHandler_pc (a : Word) : (s.atHandler a).pc = a := rfl
@[simp] theorem State.atHandler_window (a : Word) : (s.atHandler a).window = [] := rfl
@[simp] theorem State.atHandler_entered (a : Word) : (s.atHandler a).entered = true := rfl
@[simp] theorem State.getD_atHandler (a : Word) (n : Reg) : (s.atHandler a).getD n = s.getD n := rfl
@[simp] theorem State.getA_atHandler (a : Word) (n : Reg) : (s.atHandler a).getA n = s.getA n := rfl
@[simp] theorem State.getRep_atHandler (a : Word) (q : Resource) (x : RepReg) :
    (s.atHandler a).getRep q x = s.getRep q x := rfl
@[simp] theorem State.getSys_atHandler (a : Word) (x : SysReg) : (s.atHandler a).getSys x = s.getSys x := rfl
@[simp] theorem State.res_atHandler (a : Word) : (s.atHandler a).res = s.res := rfl
@[simp] theorem State.vm_atHandler (a : Word) : (s.atHandler a).vm = s.vm := rfl

theorem Kept.atHandler {s : State} (h : s.window = []) (a : Word) : Kept s (s.atHandler a) [] [] [.pc] :=
  ((Kept.sync h).trans (Kept.pc a) rfl).trans (Kept.marks true s.evt) rfl

theorem State.leave_eq : s.leave = ((s.restoreIcr.restoreUpper false).sync).jump (even (s.getA 11)) := rfl

theorem State.enterBody_eq (e : Entry) : s.enterBody e =
    let s1 := (s.saveUpper s.pswImage).scramble
    let s2 := (s1.setA 11 e.ra).setD 15 e.d15
    let s3 := if pswIs (s.ctl .psw .entry) && !e.hyper then s2 else s2.setA 10 (s.ctl (.rep .isp) .entry)
    let s4 := s3.modPsw fun p =>
      let p' := pswSetS (pswHandler p) (bit (s.ctl (.rep .corecon) .entry) (if e.isrS then 3 else 4))
      if e.hyper then setField p' 24 0#8 else p'
    let s5 := s4.hwCur .icr fun i =>
      match e.ccpn with
      | some p => setField (setBit i 15 false) 0 p
      | none => setBit i 15 false
    let s6 := match e.ccpn with
      | some p => s5.emit (.accepted s.vm.toFin p)
      | none => s5
    s6.atHandler (s.vectorPc e.vector) := rfl

end Sys2Proof.Machine
end

