-- ==== Sys2Proof/Laws/Entry.lean ====
section
/-! SUPPORT. Taking an exception: all that `enterBody` does, and which entry `enter` makes. -/

namespace Sys2Proof.Machine

variable {s t : State}

/-! ## The save of the upper context -/

@[simp] theorem State.getD_saveUpper (p : Word) (n : Reg) : (s.saveUpper p).getD n = s.getD n := by
  simp [State.saveUpper_eq]
@[simp] theorem State.getA_saveUpper (p : Word) (n : Reg) : (s.saveUpper p).getA n = s.getA n := by
  simp [State.saveUpper_eq]
@[simp] theorem State.getSys_saveUpper (p : Word) (x : SysReg) : (s.saveUpper p).getSys x = s.getSys x := by
  simp [State.saveUpper_eq]
@[simp] theorem State.res_saveUpper (p : Word) : (s.saveUpper p).res = s.res := by simp [State.saveUpper_eq]
@[simp] theorem State.saveUpper_psw (p : Word) : (s.saveUpper p).psw = s.psw := by simp [State.saveUpper_eq]
@[simp] theorem State.saveUpper_cfg (p : Word) : (s.saveUpper p).cfg = s.cfg := by simp [State.saveUpper_eq]
@[simp] theorem State.saveUpper_sys (p : Word) : (s.saveUpper p).sys = s.sys := by simp [State.saveUpper_eq]
@[simp] theorem State.saveUpper_draws (p : Word) : (s.saveUpper p).draws = s.draws := by simp [State.saveUpper_eq]
@[simp] theorem State.saveUpper_out (p : Word) : (s.saveUpper p).out = s.out := by simp [State.saveUpper_eq]
@[simp] theorem State.saveUpper_pprs (p : Word) : (s.saveUpper p).pprs = setField s.pprs 0 (s.prsOf (s.ctl .psw .set)) := by
  simp [State.saveUpper_eq]
@[simp] theorem State.saveUpper_mem (p : Word) :
    (s.saveUpper p).mem = (s.saveList true (s.upperBlock (s.csaPsw p))).mem := by simp [State.saveUpper_eq]

theorem State.saveUpper_window_nil (h : s.window = []) (p : Word) : (s.saveUpper p).window = [] :=
  State.hw_window_nil _ (s.saveList_window_nil h _ _)

theorem Kept.saveUpper (p : Word) : Kept s ((s.saveUpper p).withFcd s) [] [] [.pcxi, .rep .fcx, .pprs] :=
  ((Kept.saveList true (s.upperBlock (s.csaPsw p))).transFcd (Kept.hwPprs .hv fun w => setField w 0 (s.prsOf (s.ctl .psw .set)))
    (by simp)).mono (by simp) (by simp) (by simp)

/-! ## The body of an entry -/

/-- The general registers of a handler: the free ones, A[11], D[15], and A[10] on the interrupt stack. -/
def State.handlerRegs (s : State) (e : Entry) : State :=
  let s2 := (((s.saveUpper s.pswImage).scramble).setA 11 e.ra).setD 15 e.d15
  if pswIs (s.ctl .psw .entry) && !e.hyper then s2 else s2.setA 10 (s.ctl (.rep .isp) .entry)

/-- All that an entry does once its save may be made (60_exceptions R805, R840, 46 R728). -/
structure Enters (s t : State) (e : Entry) : Prop where
  pc : t.pc = s.vectorPc e.vector
  ra : t.getA 11 = e.ra
  d15 : t.getD 15 = e.d15
  sp : t.getA 10 = if pswIs (s.ctl .psw .entry) && !e.hyper then s.getA 10 else s.ctl (.rep .isp) .entry
  psw : t.psw =
    let p := pswSetS (pswHandler s.psw) (bit (s.ctl (.rep .corecon) .entry) (if e.isrS then 3 else 4))
    if e.hyper then setField p 24 0#8 else p
  icr : t.raw s.res .icr =
    match e.ccpn with
    | some p => setField (setBit (s.raw s.res .icr) 15 false) 0 p
    | none => setBit (s.raw s.res .icr) 15 false
  res : t.res = s.res
  window : t.window = []
  pprs : field t.pprs 0 3 = s.prsOf s.psw
  saves : SavesContext s t true (s.upperBlock (s.csaPsw s.pswImage))
  out : t.out = match e.ccpn with
    | some p => .accepted s.vm.toFin p :: s.out
    | none => s.out
  kept : Kept s { t.withFcd s with out := s.out } upperData upperAddr
    [.pc, .psw, .pcxi, .pprs, .rep .fcx, .icr, .sys (icrOf s.vm)]

theorem State.getA_scramble_ne {n : Reg} (h : n ∉ ([12, 13, 14, 15] : List Reg)) : s.scramble.getA n = s.getA n :=
  Kept.scramble.addr n h

theorem State.handlerRegs_spec (e : Entry) :
    let t := s.handlerRegs e
    t.getA 11 = e.ra ∧ t.getD 15 = e.d15 ∧
      t.getA 10 = (if pswIs (s.ctl .psw .entry) && !e.hyper then s.getA 10 else s.ctl (.rep .isp) .entry) ∧
      t.cfg = s.cfg ∧ t.draws = s.draws ∧ t.sys = s.sys ∧ t.psw = s.psw ∧ t.out = s.out ∧
      t.mem = (s.saveUpper s.pswImage).mem ∧ t.pcxi = (s.saveUpper s.pswImage).pcxi ∧
      (∀ q x, t.getRep q x = (s.saveUpper s.pswImage).getRep q x) ∧
      t.fcdPending = (s.saveUpper s.pswImage).fcdPending ∧ t.pprs = (s.saveUpper s.pswImage).pprs ∧
      t.window = (s.saveUpper s.pswImage).window := by
  unfold State.handlerRegs
  cases h : pswIs (s.ctl .psw .entry) && !e.hyper <;>
    simp [State.getA_setA_ne, State.getA_scramble_ne]

theorem Kept.handlerRegs (e : Entry) :
    Kept s ((s.handlerRegs e).withFcd s) upperData upperAddr [.pcxi, .rep .fcx, .pprs] := by
  have h := (Kept.saveUpper (s := s) s.pswImage).transFcd Kept.scramble (by simp)
  have h := (h.transFcd (Kept.setA 11 e.ra) (by simp)).transFcd (Kept.setD 15 e.d15) (by simp)
  unfold State.handlerRegs
  cases pswIs (s.ctl .psw .entry) && !e.hyper
  · exact (h.transFcd (Kept.setA 10 (s.ctl (.rep .isp) .entry)) (by simp)).mono (by simp [upperData])
      (by simp [upperAddr]) (by simp)
  · exact h.mono (by simp [upperData]) (by simp [upperAddr]) (by simp)

/-- PSW in a handler. -/
def State.entryPsw (s : State) (e : Entry) (p : Word) : Word :=
  let p' := pswSetS (pswHandler p) (bit (s.ctl (.rep .corecon) .entry) (if e.isrS then 3 else 4))
  if e.hyper then setField p' 24 0#8 else p'

/-- ICR in a handler. -/
def Entry.icr (e : Entry) (i : Word) : Word :=
  match e.ccpn with
  | some p => setField (setBit i 15 false) 0 p
  | none => setBit i 15 false

/-- An entry before its report to the host. -/
def State.prepared (s : State) (e : Entry) : State :=
  ((s.handlerRegs e).modPsw (s.entryPsw e)).hw (s.handlerRegs e).res .icr e.icr

theorem State.enterBody_prepared (e : Entry) : s.enterBody e =
    (match e.ccpn with
      | some p => (s.prepared e).emit (.accepted s.vm.toFin p)
      | none => s.prepared e).atHandler (s.vectorPc e.vector) := rfl

/-- What `prepared` does, as one statement. -/
theorem State.prepared_spec (hw : s.window = []) (e : Entry) :
    let t := s.prepared e
    t.getA 11 = e.ra ∧ t.getD 15 = e.d15 ∧
      t.getA 10 = (if pswIs (s.ctl .psw .entry) && !e.hyper then s.getA 10 else s.ctl (.rep .isp) .entry) ∧
      t.psw = s.entryPsw e s.psw ∧ t.raw s.res .icr = e.icr (s.raw s.res .icr) ∧ t.res = s.res ∧ t.window = [] ∧
      field t.pprs 0 3 = s.prsOf s.psw ∧ SavesContext s t true (s.upperBlock (s.csaPsw s.pswImage)) ∧ t.out = s.out ∧
      Kept s (t.withFcd s) upperData upperAddr [.pcxi, .rep .fcx, .pprs, .psw, .sys (icrOf s.vm), .icr] := by
  obtain ⟨hra, hd, hsp, hcfg, hdr, hsys, hpsw, hout, hmem, hpcxi, hrep, hfcd, hpprs, hwin⟩ := s.handlerRegs_spec e
  have hres := State.res_of_sys hcfg hsys
  have hvm : (s.handlerRegs e).vm = s.vm := by simp [State.vm, hcfg, State.cvmn_of_sys hsys]
  have hicr : (s.handlerRegs e).raw s.res .icr = s.raw s.res .icr := State.raw_icr_of_sys hcfg hsys hdr _
  have hs := s.saveList_spec hw true (block := s.upperBlock (s.csaPsw s.pswImage)) rfl
  have hp : s.prepared e = ((s.handlerRegs e).modPsw (s.entryPsw e)).hw s.res .icr e.icr := by
    rw [State.prepared, hres]
  have hr2 : ((s.handlerRegs e).modPsw (s.entryPsw e)).res = s.res := by rw [State.res_modPsw, hres]
  have hk := (Kept.handlerRegs (s := s) e).transFcd (Kept.modPsw (s.entryPsw e)) hres
  have hc := Kept.hwCurIcr (s := (s.handlerRegs e).modPsw (s.entryPsw e)) e.icr
  have hvm2 : ((s.handlerRegs e).modPsw (s.entryPsw e)).vm = s.vm := hvm
  rw [hvm2, State.hwCur, hr2] at hc
  have hk := hk.transFcd hc hr2
  have hraw := State.raw_icr_hwIcr (s := (s.handlerRegs e).modPsw (s.entryPsw e)) e.icr
  rw [hr2] at hraw
  dsimp only
  rw [hp]
  refine ⟨?_, ?_, ?_, ?_, ?_, ?_, ?_, ?_, ?_, ?_, ?_⟩
  · simpa [State.modPsw] using hra
  · simpa [State.modPsw] using hd
  · simpa [State.modPsw] using hsp
  · simp [State.modPsw, hpsw]
  · rw [hraw]
    exact congrArg e.icr hicr
  · simp [hres]
  · exact State.hw_window_nil _ (State.hw_window_nil _ (hwin.trans (State.saveUpper_window_nil hw _)))
  · simp [State.modPsw, hpprs, field_setField_same, State.ctl_of_window_nil s hw, State.raw]
  · refine hs.congr ?_ ?_ ?_ (fun r => ?_) ?_
    · simp [State.modPsw, hcfg]
    · simp [State.modPsw, hmem]
    · simp [State.modPsw, hpcxi, State.saveUpper_eq]
    · simp [State.modPsw, State.raw, hrep, State.saveUpper_eq]
    · simp [State.modPsw, hfcd, State.saveUpper_eq]
  · simp [State.modPsw, hout]
  · exact hk.mono (by simp) (by simp) (by simp)

/-- Frames after an entry: the report to the host is left aside. -/
theorem Kept.reported {s t : State} {ds as : List Reg} {cs : List Csfr} (h : Kept s t ds as cs) (es : List OutEvent) :
    Kept s { { t with out := es } with out := s.out } ds as cs := by
  have e := h.hidden
  simp only [Prod.mk.injEq] at e
  exact ⟨h.data, h.addr, h.csfr, h.openUpdates, h.undef, by simp [e], h.fixed⟩

theorem State.enterBody_spec (hw : s.window = []) (e : Entry) : Enters s (s.enterBody e) e := by
  obtain ⟨hra, hd, hsp, hpsw, hicr, hres, hwin, hpprs, hs, hout, hk⟩ := State.prepared_spec hw e
  have hk' : Kept s ((s.prepared e).withFcd s) upperData upperAddr
    [.pc, .psw, .pcxi, .pprs, .rep .fcx, .icr, .sys (icrOf s.vm)] := hk.mono (by simp) (by simp) (by simp)
  have hb : ∃ es, es = (match e.ccpn with
      | some p => .accepted s.vm.toFin p :: s.out
      | none => s.out) ∧ s.enterBody e = { s.prepared e with out := es }.atHandler (s.vectorPc e.vector) := by
    refine ⟨_, rfl, ?_⟩
    rw [State.enterBody_prepared]
    cases e.ccpn with
    | some p => rw [← hout]; rfl
    | none => rw [← hout]
  obtain ⟨es, hes, hb⟩ := hb
  rw [hb]
  refine ⟨rfl, hra, hd, hsp, hpsw, ?_, hres, rfl, hpprs, hs.congr rfl rfl rfl (fun _ => rfl) rfl, hes, ?_⟩
  · exact (State.raw_icr_of_sys (s := s.prepared e) rfl rfl rfl _).trans hicr
  · have h := (hk'.transFcd (Kept.atHandler hwin (s.vectorPc e.vector)) hres).mono (ds' := upperData)
      (as' := upperAddr) (cs' := [.pc, .psw, .pcxi, .pprs, .rep .fcx, .icr, .sys (icrOf s.vm)]) (by simp) (by simp)
      (by simp)
    exact h.reported es

/-! ## The registers that inform about a trap -/

/-- Only a trap of class 4 informs. -/
theorem State.inform_ne (s : State) {cls : BitVec 3} (h : cls ≠ 4) (tin : Byte) : s.inform cls tin = s := by
  simp at h
  simp [State.inform, h]

/-- Informing about a trap writes the implementation-specific registers alone. -/
theorem Kept.inform (cls : BitVec 3) (tin : Byte) : Kept s (s.inform cls tin) [] []
    [.rep .pstr, .rep .dstr, .rep .datr, .rep .deadd, .rep .pietr, .rep .dietr] := by
  unfold State.inform
  split
  · split
    · exact (Kept.hwCurRep _ _).mono (by simp) (by simp) (by simp)
    · exact ((Kept.hwCurRep .dstr _).trans (Kept.hwCurRep .deadd _) (by simp [State.hwCur])).mono (by simp) (by simp)
        (by simp)
    · exact ((Kept.hwCurRep .datr _).trans (Kept.hwCurRep .deadd _) (by simp [State.hwCur])).mono (by simp) (by simp)
        (by simp)
    · exact (Kept.hwCurRep _ _).mono (by simp) (by simp) (by simp)
    · exact (Kept.hwCurRep _ _).mono (by simp) (by simp) (by simp)
    · exact (Kept.refl s).mono (by simp) (by simp) (by simp)
  · exact (Kept.refl s).mono (by simp) (by simp) (by simp)

/-- The address of an integrity error is written to the register of the current resource, and to no other. -/
theorem Kept.informAt (x : RepReg) (a : Word) : Kept s (s.informAt x a) [] [] [.rep x] := Kept.hwCurRep x _

/-- The register then holds the address, and that of another resource what it held. -/
theorem State.informAt_getRep (s : State) (x : RepReg) (a : Word) : (s.informAt x a).res = s.res ∧
    (s.informAt x a).getRep s.res x = a ∧ ∀ r, r ≠ s.res → (s.informAt x a).getRep r x = s.getRep r x := by
  exact ⟨by simp [State.informAt, State.hwCur], State.getRep_hwRep_same _ _ _,
    fun r hr => State.getRep_hwRep_ne (.inl hr) _⟩

/-- The fields that informing about a trap leaves alone. -/
theorem State.inform_fields (s : State) (cls : BitVec 3) (tin : Byte) :
    (s.inform cls tin).pc = s.pc ∧ (s.inform cls tin).psw = s.psw ∧ (s.inform cls tin).pcxi = s.pcxi ∧
      (s.inform cls tin).pprs = s.pprs ∧ (s.inform cls tin).mem = s.mem ∧ (s.inform cls tin).out = s.out ∧
      (s.inform cls tin).sys = s.sys ∧ (s.inform cls tin).cfg = s.cfg ∧ (s.inform cls tin).draws = s.draws ∧
      (s.inform cls tin).fcdPending = s.fcdPending := by
  unfold State.inform
  split
  · split <;> simp [State.hwCur]
  · simp

end Sys2Proof.Machine
end

