-- ==== Sys2Proof/Laws/PerInstr.lean ====
section
/-! SUPPORT. Statements made for each instruction. `LengthBit`: bit 0 of an instruction's first half-word tells its
length (30_encoding R300), one lemma for each constructor. -/

namespace Sys2Proof.Laws.LengthBit

/-- Bit 0 of the encoding is 0 for a 16-bit instruction and 1 for a 32-bit instruction; an instruction without an
encoding says nothing. -/
def Statement (i : Instr) : Prop :=
  match i.encoding with
  | .half w => w.getLsbD 0 = false
  | .word w => w.getLsbD 0 = true
  | .unknown => True

/-- Bit 0 of a word is bit 0 of its primary opcode. -/
theorem bit0 (m : Nat) (hm : 0 < m) {n : Nat} (x : BitVec n) (op : BitVec m) {b : Bool} (h : op.getLsbD 0 = b) :
    (x ++ op).getLsbD 0 = b := by
  rw [← h, BitVec.getLsbD_append]
  simp [hm]

theorem nop : Statement (.nop) := bit0 8 (by decide) _ _ rfl
theorem fret : Statement (.fret) := bit0 8 (by decide) _ _ rfl
theorem debug : Statement (.debug) := bit0 8 (by decide) _ _ rfl
theorem rfm : Statement (.rfm) := bit0 8 (by decide) _ _ rfl
theorem ret : Statement (.ret) := bit0 8 (by decide) _ _ rfl
theorem rfe : Statement (.rfe) := bit0 8 (by decide) _ _ rfl
theorem svlcx : Statement (.svlcx) := bit0 8 (by decide) _ _ rfl
theorem rslcx : Statement (.rslcx) := bit0 8 (by decide) _ _ rfl
theorem enable : Statement (.enable) := bit0 8 (by decide) _ _ rfl
theorem disable : Statement (.disable) := bit0 8 (by decide) _ _ rfl
theorem dsync : Statement (.dsync) := bit0 8 (by decide) _ _ rfl
theorem isync : Statement (.isync) := bit0 8 (by decide) _ _ rfl
theorem trapv : Statement (.trapv) := bit0 8 (by decide) _ _ rfl
theorem trapsv : Statement (.trapsv) := bit0 8 (by decide) _ _ rfl
theorem restore (a : Reg) : Statement (.restore a) := bit0 8 (by decide) _ _ rfl
theorem disableD (a : Reg) : Statement (.disableD a) := bit0 8 (by decide) _ _ rfl
theorem nop16 : Statement (.nop16) := bit0 8 (by decide) _ _ rfl
theorem fret16 : Statement (.fret16) := bit0 8 (by decide) _ _ rfl
theorem rfe16 : Statement (.rfe16) := bit0 8 (by decide) _ _ rfl
theorem ret16 : Statement (.ret16) := bit0 8 (by decide) _ _ rfl
theorem debug16 : Statement (.debug16) := bit0 8 (by decide) _ _ rfl
theorem bisr (const9 : BitVec 9) : Statement (.bisr const9) := bit0 8 (by decide) _ _ rfl
theorem bisr16 (const8 : BitVec 8) : Statement (.bisr16 const8) := bit0 8 (by decide) _ _ rfl
theorem syscall (const9 : BitVec 9) : Statement (.syscall const9) := bit0 8 (by decide) _ _ rfl
theorem mfcr (c : Reg) (const16 : BitVec 16) : Statement (.mfcr c const16) := bit0 8 (by decide) _ _ rfl
theorem mtcr (const16 : BitVec 16) (a : Reg) : Statement (.mtcr const16 a) := bit0 8 (by decide) _ _ rfl
theorem call (disp24 : BitVec 24) : Statement (.call disp24) := bit0 8 (by decide) _ _ rfl
theorem call16 (disp8 : BitVec 8) : Statement (.call16 disp8) := bit0 8 (by decide) _ _ rfl
theorem calla (disp24 : BitVec 24) : Statement (.calla disp24) := bit0 8 (by decide) _ _ rfl
theorem calli (a : Reg) : Statement (.calli a) := bit0 8 (by decide) _ _ rfl
theorem fcall (disp24 : BitVec 24) : Statement (.fcall disp24) := bit0 8 (by decide) _ _ rfl
theorem fcalla (disp24 : BitVec 24) : Statement (.fcalla disp24) := bit0 8 (by decide) _ _ rfl
theorem fcalli (a : Reg) : Statement (.fcalli a) := bit0 8 (by decide) _ _ rfl
theorem jl (disp24 : BitVec 24) : Statement (.jl disp24) := bit0 8 (by decide) _ _ rfl
theorem jzT (a : Reg) (n : BitVec 5) (disp15 : BitVec 15) : Statement (.jzT a n disp15) := bit0 7 (by decide) _ _ rfl
theorem jzT16 (n : BitVec 4) (disp4 : BitVec 4) : Statement (.jzT16 n disp4) := bit0 8 (by decide) _ _ rfl
theorem stlcxAbs (off18 : BitVec 18) : Statement (.stlcxAbs off18) := bit0 8 (by decide) _ _ rfl
theorem stucxAbs (off18 : BitVec 18) : Statement (.stucxAbs off18) := bit0 8 (by decide) _ _ rfl
theorem ldlcxAbs (off18 : BitVec 18) : Statement (.ldlcxAbs off18) := bit0 8 (by decide) _ _ rfl
theorem lducxAbs (off18 : BitVec 18) : Statement (.lducxAbs off18) := bit0 8 (by decide) _ _ rfl
theorem ldlcxOff (b : Reg) (off10 : BitVec 10) : Statement (.ldlcxOff b off10) := bit0 8 (by decide) _ _ rfl
theorem lducxOff (b : Reg) (off10 : BitVec 10) : Statement (.lducxOff b off10) := bit0 8 (by decide) _ _ rfl
theorem stlcxOff (b : Reg) (off10 : BitVec 10) : Statement (.stlcxOff b off10) := bit0 8 (by decide) _ _ rfl
theorem stucxOff (b : Reg) (off10 : BitVec 10) : Statement (.stucxOff b off10) := bit0 8 (by decide) _ _ rfl
theorem leaOff (a : Reg) (b : Reg) (off10 : BitVec 10) : Statement (.leaOff a b off10) := bit0 8 (by decide) _ _ rfl
theorem leaAbs (a : Reg) (off18 : BitVec 18) : Statement (.leaAbs a off18) := bit0 8 (by decide) _ _ rfl
theorem leaLong (a : Reg) (b : Reg) (off16 : BitVec 16) : Statement (.leaLong a b off16) := bit0 8 (by decide) _ _ rfl
theorem swapWOff (b : Reg) (off10 : BitVec 10) (a : Reg) : Statement (.swapWOff b off10 a) := bit0 8 (by decide) _ _ rfl
theorem swapWPost (b : Reg) (off10 : BitVec 10) (a : Reg) : Statement (.swapWPost b off10 a) := bit0 8 (by decide) _ _ rfl
theorem swapWPre (b : Reg) (off10 : BitVec 10) (a : Reg) : Statement (.swapWPre b off10 a) := bit0 8 (by decide) _ _ rfl
theorem swapWRev (b : Reg) (a : Reg) : Statement (.swapWRev b a) := bit0 8 (by decide) _ _ rfl
theorem swapWCirc (b : Reg) (off10 : BitVec 10) (a : Reg) : Statement (.swapWCirc b off10 a) := bit0 8 (by decide) _ _ rfl
theorem ldmstOff (b : Reg) (off10 : BitVec 10) (a : Reg) : Statement (.ldmstOff b off10 a) := bit0 8 (by decide) _ _ rfl
theorem ldmstPost (b : Reg) (off10 : BitVec 10) (a : Reg) : Statement (.ldmstPost b off10 a) := bit0 8 (by decide) _ _ rfl
theorem ldmstPre (b : Reg) (off10 : BitVec 10) (a : Reg) : Statement (.ldmstPre b off10 a) := bit0 8 (by decide) _ _ rfl
theorem ldmstRev (b : Reg) (a : Reg) : Statement (.ldmstRev b a) := bit0 8 (by decide) _ _ rfl
theorem ldmstCirc (b : Reg) (off10 : BitVec 10) (a : Reg) : Statement (.ldmstCirc b off10 a) := bit0 8 (by decide) _ _ rfl
theorem swapmskWOff (b : Reg) (off10 : BitVec 10) (a : Reg) : Statement (.swapmskWOff b off10 a) := bit0 8 (by decide) _ _ rfl
theorem swapmskWPost (b : Reg) (off10 : BitVec 10) (a : Reg) : Statement (.swapmskWPost b off10 a) := bit0 8 (by decide) _ _ rfl
theorem swapmskWPre (b : Reg) (off10 : BitVec 10) (a : Reg) : Statement (.swapmskWPre b off10 a) := bit0 8 (by decide) _ _ rfl
theorem swapmskWRev (b : Reg) (a : Reg) : Statement (.swapmskWRev b a) := bit0 8 (by decide) _ _ rfl
theorem swapmskWCirc (b : Reg) (off10 : BitVec 10) (a : Reg) : Statement (.swapmskWCirc b off10 a) := bit0 8 (by decide) _ _ rfl
theorem cmpswapWOff (b : Reg) (off10 : BitVec 10) (a : Reg) : Statement (.cmpswapWOff b off10 a) := bit0 8 (by decide) _ _ rfl
theorem cmpswapWPost (b : Reg) (off10 : BitVec 10) (a : Reg) : Statement (.cmpswapWPost b off10 a) := bit0 8 (by decide) _ _ rfl
theorem cmpswapWPre (b : Reg) (off10 : BitVec 10) (a : Reg) : Statement (.cmpswapWPre b off10 a) := bit0 8 (by decide) _ _ rfl
theorem cmpswapWRev (b : Reg) (a : Reg) : Statement (.cmpswapWRev b a) := bit0 8 (by decide) _ _ rfl
theorem cmpswapWCirc (b : Reg) (off10 : BitVec 10) (a : Reg) : Statement (.cmpswapWCirc b off10 a) := bit0 8 (by decide) _ _ rfl
theorem swapWAbs (off18 : BitVec 18) (a : Reg) : Statement (.swapWAbs off18 a) := bit0 8 (by decide) _ _ rfl
theorem ldmstAbs (off18 : BitVec 18) (a : Reg) : Statement (.ldmstAbs off18 a) := bit0 8 (by decide) _ _ rfl
theorem stT (off18 : BitVec 18) (bpos3 : BitVec 3) (b : BitVec 1) : Statement (.stT off18 bpos3 b) := bit0 8 (by decide) _ _ rfl
theorem ldBAbs (a : Reg) (off18 : BitVec 18) : Statement (.ldBAbs a off18) := bit0 8 (by decide) _ _ rfl
theorem ldBOff (a : Reg) (b : Reg) (off10 : BitVec 10) : Statement (.ldBOff a b off10) := bit0 8 (by decide) _ _ rfl
theorem ldBPost (a : Reg) (b : Reg) (off10 : BitVec 10) : Statement (.ldBPost a b off10) := bit0 8 (by decide) _ _ rfl
theorem ldBPre (a : Reg) (b : Reg) (off10 : BitVec 10) : Statement (.ldBPre a b off10) := bit0 8 (by decide) _ _ rfl
theorem ldBRev (a : Reg) (b : Reg) : Statement (.ldBRev a b) := bit0 8 (by decide) _ _ rfl
theorem ldBCirc (a : Reg) (b : Reg) (off10 : BitVec 10) : Statement (.ldBCirc a b off10) := bit0 8 (by decide) _ _ rfl
theorem ldBuAbs (a : Reg) (off18 : BitVec 18) : Statement (.ldBuAbs a off18) := bit0 8 (by decide) _ _ rfl
theorem ldBuOff (a : Reg) (b : Reg) (off10 : BitVec 10) : Statement (.ldBuOff a b off10) := bit0 8 (by decide) _ _ rfl
theorem ldBuPost (a : Reg) (b : Reg) (off10 : BitVec 10) : Statement (.ldBuPost a b off10) := bit0 8 (by decide) _ _ rfl
theorem ldBuPre (a : Reg) (b : Reg) (off10 : BitVec 10) : Statement (.ldBuPre a b off10) := bit0 8 (by decide) _ _ rfl
theorem ldBuRev (a : Reg) (b : Reg) : Statement (.ldBuRev a b) := bit0 8 (by decide) _ _ rfl
theorem ldBuCirc (a : Reg) (b : Reg) (off10 : BitVec 10) : Statement (.ldBuCirc a b off10) := bit0 8 (by decide) _ _ rfl
theorem ldHAbs (a : Reg) (off18 : BitVec 18) : Statement (.ldHAbs a off18) := bit0 8 (by decide) _ _ rfl
theorem ldHOff (a : Reg) (b : Reg) (off10 : BitVec 10) : Statement (.ldHOff a b off10) := bit0 8 (by decide) _ _ rfl
theorem ldHPost (a : Reg) (b : Reg) (off10 : BitVec 10) : Statement (.ldHPost a b off10) := bit0 8 (by decide) _ _ rfl
theorem ldHPre (a : Reg) (b : Reg) (off10 : BitVec 10) : Statement (.ldHPre a b off10) := bit0 8 (by decide) _ _ rfl
theorem ldHRev (a : Reg) (b : Reg) : Statement (.ldHRev a b) := bit0 8 (by decide) _ _ rfl
theorem ldHCirc (a : Reg) (b : Reg) (off10 : BitVec 10) : Statement (.ldHCirc a b off10) := bit0 8 (by decide) _ _ rfl
theorem ldHuAbs (a : Reg) (off18 : BitVec 18) : Statement (.ldHuAbs a off18) := bit0 8 (by decide) _ _ rfl
theorem ldHuOff (a : Reg) (b : Reg) (off10 : BitVec 10) : Statement (.ldHuOff a b off10) := bit0 8 (by decide) _ _ rfl
theorem ldHuPost (a : Reg) (b : Reg) (off10 : BitVec 10) : Statement (.ldHuPost a b off10) := bit0 8 (by decide) _ _ rfl
theorem ldHuPre (a : Reg) (b : Reg) (off10 : BitVec 10) : Statement (.ldHuPre a b off10) := bit0 8 (by decide) _ _ rfl
theorem ldHuRev (a : Reg) (b : Reg) : Statement (.ldHuRev a b) := bit0 8 (by decide) _ _ rfl
theorem ldHuCirc (a : Reg) (b : Reg) (off10 : BitVec 10) : Statement (.ldHuCirc a b off10) := bit0 8 (by decide) _ _ rfl
theorem ldWAbs (a : Reg) (off18 : BitVec 18) : Statement (.ldWAbs a off18) := bit0 8 (by decide) _ _ rfl
theorem ldWOff (a : Reg) (b : Reg) (off10 : BitVec 10) : Statement (.ldWOff a b off10) := bit0 8 (by decide) _ _ rfl
theorem ldWPost (a : Reg) (b : Reg) (off10 : BitVec 10) : Statement (.ldWPost a b off10) := bit0 8 (by decide) _ _ rfl
theorem ldWPre (a : Reg) (b : Reg) (off10 : BitVec 10) : Statement (.ldWPre a b off10) := bit0 8 (by decide) _ _ rfl
theorem ldWRev (a : Reg) (b : Reg) : Statement (.ldWRev a b) := bit0 8 (by decide) _ _ rfl
theorem ldWCirc (a : Reg) (b : Reg) (off10 : BitVec 10) : Statement (.ldWCirc a b off10) := bit0 8 (by decide) _ _ rfl
theorem ldDAbs (a : Reg) (off18 : BitVec 18) : Statement (.ldDAbs a off18) := bit0 8 (by decide) _ _ rfl
theorem ldDOff (a : Reg) (b : Reg) (off10 : BitVec 10) : Statement (.ldDOff a b off10) := bit0 8 (by decide) _ _ rfl
theorem ldDPost (a : Reg) (b : Reg) (off10 : BitVec 10) : Statement (.ldDPost a b off10) := bit0 8 (by decide) _ _ rfl
theorem ldDPre (a : Reg) (b : Reg) (off10 : BitVec 10) : Statement (.ldDPre a b off10) := bit0 8 (by decide) _ _ rfl
theorem ldDRev (a : Reg) (b : Reg) : Statement (.ldDRev a b) := bit0 8 (by decide) _ _ rfl
theorem ldDCirc (a : Reg) (b : Reg) (off10 : BitVec 10) : Statement (.ldDCirc a b off10) := bit0 8 (by decide) _ _ rfl
theorem ldAAbs (a : Reg) (off18 : BitVec 18) : Statement (.ldAAbs a off18) := bit0 8 (by decide) _ _ rfl
theorem ldAOff (a : Reg) (b : Reg) (off10 : BitVec 10) : Statement (.ldAOff a b off10) := bit0 8 (by decide) _ _ rfl
theorem ldAPost (a : Reg) (b : Reg) (off10 : BitVec 10) : Statement (.ldAPost a b off10) := bit0 8 (by decide) _ _ rfl
theorem ldAPre (a : Reg) (b : Reg) (off10 : BitVec 10) : Statement (.ldAPre a b off10) := bit0 8 (by decide) _ _ rfl
theorem ldARev (a : Reg) (b : Reg) : Statement (.ldARev a b) := bit0 8 (by decide) _ _ rfl
theorem ldACirc (a : Reg) (b : Reg) (off10 : BitVec 10) : Statement (.ldACirc a b off10) := bit0 8 (by decide) _ _ rfl
theorem ldDaAbs (a : Reg) (off18 : BitVec 18) : Statement (.ldDaAbs a off18) := bit0 8 (by decide) _ _ rfl
theorem ldDaOff (a : Reg) (b : Reg) (off10 : BitVec 10) : Statement (.ldDaOff a b off10) := bit0 8 (by decide) _ _ rfl
theorem ldDaPost (a : Reg) (b : Reg) (off10 : BitVec 10) : Statement (.ldDaPost a b off10) := bit0 8 (by decide) _ _ rfl
theorem ldDaPre (a : Reg) (b : Reg) (off10 : BitVec 10) : Statement (.ldDaPre a b off10) := bit0 8 (by decide) _ _ rfl
theorem ldDaRev (a : Reg) (b : Reg) : Statement (.ldDaRev a b) := bit0 8 (by decide) _ _ rfl
theorem ldDaCirc (a : Reg) (b : Reg) (off10 : BitVec 10) : Statement (.ldDaCirc a b off10) := bit0 8 (by decide) _ _ rfl
theorem ldWLong (a : Reg) (b : Reg) (off16 : BitVec 16) : Statement (.ldWLong a b off16) := bit0 8 (by decide) _ _ rfl
theorem ldALong (a : Reg) (b : Reg) (off16 : BitVec 16) : Statement (.ldALong a b off16) := bit0 8 (by decide) _ _ rfl
theorem ldBLong (a : Reg) (b : Reg) (off16 : BitVec 16) : Statement (.ldBLong a b off16) := bit0 8 (by decide) _ _ rfl
theorem ldBuLong (a : Reg) (b : Reg) (off16 : BitVec 16) : Statement (.ldBuLong a b off16) := bit0 8 (by decide) _ _ rfl
theorem ldHLong (a : Reg) (b : Reg) (off16 : BitVec 16) : Statement (.ldHLong a b off16) := bit0 8 (by decide) _ _ rfl
theorem ldHuLong (a : Reg) (b : Reg) (off16 : BitVec 16) : Statement (.ldHuLong a b off16) := bit0 8 (by decide) _ _ rfl
theorem stBAbs (off18 : BitVec 18) (a : Reg) : Statement (.stBAbs off18 a) := bit0 8 (by decide) _ _ rfl
theorem stBOff (b : Reg) (off10 : BitVec 10) (a : Reg) : Statement (.stBOff b off10 a) := bit0 8 (by decide) _ _ rfl
theorem stBPost (b : Reg) (off10 : BitVec 10) (a : Reg) : Statement (.stBPost b off10 a) := bit0 8 (by decide) _ _ rfl
theorem stBPre (b : Reg) (off10 : BitVec 10) (a : Reg) : Statement (.stBPre b off10 a) := bit0 8 (by decide) _ _ rfl
theorem stBRev (b : Reg) (a : Reg) : Statement (.stBRev b a) := bit0 8 (by decide) _ _ rfl
theorem stBCirc (b : Reg) (off10 : BitVec 10) (a : Reg) : Statement (.stBCirc b off10 a) := bit0 8 (by decide) _ _ rfl
theorem stHAbs (off18 : BitVec 18) (a : Reg) : Statement (.stHAbs off18 a) := bit0 8 (by decide) _ _ rfl
theorem stHOff (b : Reg) (off10 : BitVec 10) (a : Reg) : Statement (.stHOff b off10 a) := bit0 8 (by decide) _ _ rfl
theorem stHPost (b : Reg) (off10 : BitVec 10) (a : Reg) : Statement (.stHPost b off10 a) := bit0 8 (by decide) _ _ rfl
theorem stHPre (b : Reg) (off10 : BitVec 10) (a : Reg) : Statement (.stHPre b off10 a) := bit0 8 (by decide) _ _ rfl
theorem stHRev (b : Reg) (a : Reg) : Statement (.stHRev b a) := bit0 8 (by decide) _ _ rfl
theorem stHCirc (b : Reg) (off10 : BitVec 10) (a : Reg) : Statement (.stHCirc b off10 a) := bit0 8 (by decide) _ _ rfl
theorem stWAbs (off18 : BitVec 18) (a : Reg) : Statement (.stWAbs off18 a) := bit0 8 (by decide) _ _ rfl
theorem stWOff (b : Reg) (off10 : BitVec 10) (a : Reg) : Statement (.stWOff b off10 a) := bit0 8 (by decide) _ _ rfl
theorem stWPost (b : Reg) (off10 : BitVec 10) (a : Reg) : Statement (.stWPost b off10 a) := bit0 8 (by decide) _ _ rfl
theorem stWPre (b : Reg) (off10 : BitVec 10) (a : Reg) : Statement (.stWPre b off10 a) := bit0 8 (by decide) _ _ rfl
theorem stWRev (b : Reg) (a : Reg) : Statement (.stWRev b a) := bit0 8 (by decide) _ _ rfl
theorem stWCirc (b : Reg) (off10 : BitVec 10) (a : Reg) : Statement (.stWCirc b off10 a) := bit0 8 (by decide) _ _ rfl
theorem stDAbs (off18 : BitVec 18) (a : Reg) : Statement (.stDAbs off18 a) := bit0 8 (by decide) _ _ rfl
theorem stDOff (b : Reg) (off10 : BitVec 10) (a : Reg) : Statement (.stDOff b off10 a) := bit0 8 (by decide) _ _ rfl
theorem stDPost (b : Reg) (off10 : BitVec 10) (a : Reg) : Statement (.stDPost b off10 a) := bit0 8 (by decide) _ _ rfl
theorem stDPre (b : Reg) (off10 : BitVec 10) (a : Reg) : Statement (.stDPre b off10 a) := bit0 8 (by decide) _ _ rfl
theorem stDRev (b : Reg) (a : Reg) : Statement (.stDRev b a) := bit0 8 (by decide) _ _ rfl
theorem stDCirc (b : Reg) (off10 : BitVec 10) (a : Reg) : Statement (.stDCirc b off10 a) := bit0 8 (by decide) _ _ rfl
theorem stAAbs (off18 : BitVec 18) (a : Reg) : Statement (.stAAbs off18 a) := bit0 8 (by decide) _ _ rfl
theorem stAOff (b : Reg) (off10 : BitVec 10) (a : Reg) : Statement (.stAOff b off10 a) := bit0 8 (by decide) _ _ rfl
theorem stAPost (b : Reg) (off10 : BitVec 10) (a : Reg) : Statement (.stAPost b off10 a) := bit0 8 (by decide) _ _ rfl
theorem stAPre (b : Reg) (off10 : BitVec 10) (a : Reg) : Statement (.stAPre b off10 a) := bit0 8 (by decide) _ _ rfl
theorem stARev (b : Reg) (a : Reg) : Statement (.stARev b a) := bit0 8 (by decide) _ _ rfl
theorem stACirc (b : Reg) (off10 : BitVec 10) (a : Reg) : Statement (.stACirc b off10 a) := bit0 8 (by decide) _ _ rfl
theorem stDaAbs (off18 : BitVec 18) (a : Reg) : Statement (.stDaAbs off18 a) := bit0 8 (by decide) _ _ rfl
theorem stDaOff (b : Reg) (off10 : BitVec 10) (a : Reg) : Statement (.stDaOff b off10 a) := bit0 8 (by decide) _ _ rfl
theorem stDaPost (b : Reg) (off10 : BitVec 10) (a : Reg) : Statement (.stDaPost b off10 a) := bit0 8 (by decide) _ _ rfl
theorem stDaPre (b : Reg) (off10 : BitVec 10) (a : Reg) : Statement (.stDaPre b off10 a) := bit0 8 (by decide) _ _ rfl
theorem stDaRev (b : Reg) (a : Reg) : Statement (.stDaRev b a) := bit0 8 (by decide) _ _ rfl
theorem stDaCirc (b : Reg) (off10 : BitVec 10) (a : Reg) : Statement (.stDaCirc b off10 a) := bit0 8 (by decide) _ _ rfl
theorem stWLong (b : Reg) (off16 : BitVec 16) (a : Reg) : Statement (.stWLong b off16 a) := bit0 8 (by decide) _ _ rfl
theorem stALong (b : Reg) (off16 : BitVec 16) (a : Reg) : Statement (.stALong b off16 a) := bit0 8 (by decide) _ _ rfl
theorem stBLong (b : Reg) (off16 : BitVec 16) (a : Reg) : Statement (.stBLong b off16 a) := bit0 8 (by decide) _ _ rfl
theorem stHLong (b : Reg) (off16 : BitVec 16) (a : Reg) : Statement (.stHLong b off16 a) := bit0 8 (by decide) _ _ rfl
theorem cacheaWOff (b : Reg) (off10 : BitVec 10) : Statement (.cacheaWOff b off10) := bit0 8 (by decide) _ _ rfl
theorem cacheaWPost (b : Reg) (off10 : BitVec 10) : Statement (.cacheaWPost b off10) := bit0 8 (by decide) _ _ rfl
theorem cacheaWPre (b : Reg) (off10 : BitVec 10) : Statement (.cacheaWPre b off10) := bit0 8 (by decide) _ _ rfl
theorem cacheaWiOff (b : Reg) (off10 : BitVec 10) : Statement (.cacheaWiOff b off10) := bit0 8 (by decide) _ _ rfl
theorem cacheaWiPost (b : Reg) (off10 : BitVec 10) : Statement (.cacheaWiPost b off10) := bit0 8 (by decide) _ _ rfl
theorem cacheaWiPre (b : Reg) (off10 : BitVec 10) : Statement (.cacheaWiPre b off10) := bit0 8 (by decide) _ _ rfl
theorem cacheaIOff (b : Reg) (off10 : BitVec 10) : Statement (.cacheaIOff b off10) := bit0 8 (by decide) _ _ rfl
theorem cacheaIPost (b : Reg) (off10 : BitVec 10) : Statement (.cacheaIPost b off10) := bit0 8 (by decide) _ _ rfl
theorem cacheaIPre (b : Reg) (off10 : BitVec 10) : Statement (.cacheaIPre b off10) := bit0 8 (by decide) _ _ rfl
theorem cacheiWOff (b : Reg) (off10 : BitVec 10) : Statement (.cacheiWOff b off10) := bit0 8 (by decide) _ _ rfl
theorem cacheiWPost (b : Reg) (off10 : BitVec 10) : Statement (.cacheiWPost b off10) := bit0 8 (by decide) _ _ rfl
theorem cacheiWPre (b : Reg) (off10 : BitVec 10) : Statement (.cacheiWPre b off10) := bit0 8 (by decide) _ _ rfl
theorem cacheiIOff (b : Reg) (off10 : BitVec 10) : Statement (.cacheiIOff b off10) := bit0 8 (by decide) _ _ rfl
theorem cacheiIPost (b : Reg) (off10 : BitVec 10) : Statement (.cacheiIPost b off10) := bit0 8 (by decide) _ _ rfl
theorem cacheiIPre (b : Reg) (off10 : BitVec 10) : Statement (.cacheiIPre b off10) := bit0 8 (by decide) _ _ rfl
theorem cacheiWiOff (b : Reg) (off10 : BitVec 10) : Statement (.cacheiWiOff b off10) := bit0 8 (by decide) _ _ rfl
theorem cacheiWiPost (b : Reg) (off10 : BitVec 10) : Statement (.cacheiWiPost b off10) := bit0 8 (by decide) _ _ rfl
theorem cacheiWiPre (b : Reg) (off10 : BitVec 10) : Statement (.cacheiWiPre b off10) := bit0 8 (by decide) _ _ rfl
theorem add (c : Reg) (a : Reg) (b : Reg) : Statement (.add c a b) := bit0 8 (by decide) _ _ rfl
theorem addC (c : Reg) (a : Reg) (const9 : BitVec 9) : Statement (.addC c a const9) := bit0 8 (by decide) _ _ rfl
theorem addx (c : Reg) (a : Reg) (b : Reg) : Statement (.addx c a b) := bit0 8 (by decide) _ _ rfl
theorem addxC (c : Reg) (a : Reg) (const9 : BitVec 9) : Statement (.addxC c a const9) := bit0 8 (by decide) _ _ rfl
theorem addc (c : Reg) (a : Reg) (b : Reg) : Statement (.addc c a b) := bit0 8 (by decide) _ _ rfl
theorem addcC (c : Reg) (a : Reg) (const9 : BitVec 9) : Statement (.addcC c a const9) := bit0 8 (by decide) _ _ rfl
theorem addscA (c : Reg) (b : Reg) (a : Reg) (n : BitVec 2) : Statement (.addscA c b a n) := bit0 8 (by decide) _ _ rfl
theorem addscAt (c : Reg) (b : Reg) (a : Reg) : Statement (.addscAt c b a) := bit0 8 (by decide) _ _ rfl
theorem extrU (c : Reg) (a : Reg) (pos : BitVec 5) (width : BitVec 5) : Statement (.extrU c a pos width) := bit0 8 (by decide) _ _ rfl
theorem extrUReg (c : Reg) (a : Reg) (d : Reg) : Statement (.extrUReg c a d) := bit0 8 (by decide) _ _ rfl
theorem extrUWidth (c : Reg) (a : Reg) (d : Reg) (width : BitVec 5) : Statement (.extrUWidth c a d width) := bit0 8 (by decide) _ _ rfl
theorem addF (c : Reg) (d : Reg) (a : Reg) : Statement (.addF c d a) := bit0 8 (by decide) _ _ rfl
theorem subF (c : Reg) (d : Reg) (a : Reg) : Statement (.subF c d a) := bit0 8 (by decide) _ _ rfl
theorem maddF (c : Reg) (d : Reg) (a : Reg) (b : Reg) : Statement (.maddF c d a b) := bit0 8 (by decide) _ _ rfl
theorem msubF (c : Reg) (d : Reg) (a : Reg) (b : Reg) : Statement (.msubF c d a b) := bit0 8 (by decide) _ _ rfl
theorem cmpF (c : Reg) (a : Reg) (b : Reg) : Statement (.cmpF c a b) := bit0 8 (by decide) _ _ rfl
theorem mulF (c : Reg) (a : Reg) (b : Reg) : Statement (.mulF c a b) := bit0 8 (by decide) _ _ rfl
theorem divF (c : Reg) (a : Reg) (b : Reg) : Statement (.divF c a b) := bit0 8 (by decide) _ _ rfl
theorem updfl (a : Reg) : Statement (.updfl a) := bit0 8 (by decide) _ _ rfl
theorem ftoi (c : Reg) (a : Reg) : Statement (.ftoi c a) := bit0 8 (by decide) _ _ rfl
theorem ftoq31 (c : Reg) (a : Reg) (b : Reg) : Statement (.ftoq31 c a b) := bit0 8 (by decide) _ _ rfl
theorem ftou (c : Reg) (a : Reg) : Statement (.ftou c a) := bit0 8 (by decide) _ _ rfl
theorem ftoiz (c : Reg) (a : Reg) : Statement (.ftoiz c a) := bit0 8 (by decide) _ _ rfl
theorem itof (c : Reg) (a : Reg) : Statement (.itof c a) := bit0 8 (by decide) _ _ rfl
theorem q31tof (c : Reg) (a : Reg) (b : Reg) : Statement (.q31tof c a b) := bit0 8 (by decide) _ _ rfl
theorem utof (c : Reg) (a : Reg) : Statement (.utof c a) := bit0 8 (by decide) _ _ rfl
theorem ftouz (c : Reg) (a : Reg) : Statement (.ftouz c a) := bit0 8 (by decide) _ _ rfl
theorem ftoq31z (c : Reg) (a : Reg) (b : Reg) : Statement (.ftoq31z c a b) := bit0 8 (by decide) _ _ rfl
theorem qseedF (c : Reg) (a : Reg) : Statement (.qseedF c a) := bit0 8 (by decide) _ _ rfl
theorem hptof (c : Reg) (a : Reg) : Statement (.hptof c a) := bit0 8 (by decide) _ _ rfl
theorem ftohp (c : Reg) (a : Reg) : Statement (.ftohp c a) := bit0 8 (by decide) _ _ rfl
theorem movConst (c : Reg) (const16 : BitVec 16) : Statement (.movConst c const16) := bit0 8 (by decide) _ _ rfl
theorem movh (c : Reg) (const16 : BitVec 16) : Statement (.movh c const16) := bit0 8 (by decide) _ _ rfl
theorem movhA (c : Reg) (const16 : BitVec 16) : Statement (.movhA c const16) := bit0 8 (by decide) _ _ rfl
theorem addi (c : Reg) (a : Reg) (const16 : BitVec 16) : Statement (.addi c a const16) := bit0 8 (by decide) _ _ rfl
theorem mov (c : Reg) (b : Reg) : Statement (.mov c b) := bit0 8 (by decide) _ _ rfl
theorem movA (c : Reg) (b : Reg) : Statement (.movA c b) := bit0 8 (by decide) _ _ rfl
theorem movD (c : Reg) (b : Reg) : Statement (.movD c b) := bit0 8 (by decide) _ _ rfl
theorem movAa (c : Reg) (b : Reg) : Statement (.movAa c b) := bit0 8 (by decide) _ _ rfl
theorem sub (c : Reg) (a : Reg) (b : Reg) : Statement (.sub c a b) := bit0 8 (by decide) _ _ rfl
theorem and (c : Reg) (a : Reg) (b : Reg) : Statement (.and c a b) := bit0 8 (by decide) _ _ rfl
theorem andC (c : Reg) (a : Reg) (const9 : BitVec 9) : Statement (.andC c a const9) := bit0 8 (by decide) _ _ rfl
theorem or (c : Reg) (a : Reg) (b : Reg) : Statement (.or c a b) := bit0 8 (by decide) _ _ rfl
theorem orC (c : Reg) (a : Reg) (const9 : BitVec 9) : Statement (.orC c a const9) := bit0 8 (by decide) _ _ rfl
theorem xor (c : Reg) (a : Reg) (b : Reg) : Statement (.xor c a b) := bit0 8 (by decide) _ _ rfl
theorem xorC (c : Reg) (a : Reg) (const9 : BitVec 9) : Statement (.xorC c a const9) := bit0 8 (by decide) _ _ rfl
theorem eq (c : Reg) (a : Reg) (b : Reg) : Statement (.eq c a b) := bit0 8 (by decide) _ _ rfl
theorem eqC (c : Reg) (a : Reg) (const9 : BitVec 9) : Statement (.eqC c a const9) := bit0 8 (by decide) _ _ rfl
theorem lt (c : Reg) (a : Reg) (b : Reg) : Statement (.lt c a b) := bit0 8 (by decide) _ _ rfl
theorem ltC (c : Reg) (a : Reg) (const9 : BitVec 9) : Statement (.ltC c a const9) := bit0 8 (by decide) _ _ rfl
theorem j (disp24 : BitVec 24) : Statement (.j disp24) := bit0 8 (by decide) _ _ rfl
theorem ja (disp24 : BitVec 24) : Statement (.ja disp24) := bit0 8 (by decide) _ _ rfl
theorem jla (disp24 : BitVec 24) : Statement (.jla disp24) := bit0 8 (by decide) _ _ rfl
theorem ji (a : Reg) : Statement (.ji a) := bit0 8 (by decide) _ _ rfl
theorem jli (a : Reg) : Statement (.jli a) := bit0 8 (by decide) _ _ rfl
theorem jeq (a : Reg) (b : Reg) (disp15 : BitVec 15) : Statement (.jeq a b disp15) := bit0 8 (by decide) _ _ rfl
theorem jeqC (a : Reg) (const4 : BitVec 4) (disp15 : BitVec 15) : Statement (.jeqC a const4 disp15) := bit0 8 (by decide) _ _ rfl
theorem jne (a : Reg) (b : Reg) (disp15 : BitVec 15) : Statement (.jne a b disp15) := bit0 8 (by decide) _ _ rfl
theorem jneC (a : Reg) (const4 : BitVec 4) (disp15 : BitVec 15) : Statement (.jneC a const4 disp15) := bit0 8 (by decide) _ _ rfl
theorem jnzT (a : Reg) (n : BitVec 5) (disp15 : BitVec 15) : Statement (.jnzT a n disp15) := bit0 7 (by decide) _ _ rfl
theorem loop (b : Reg) (disp15 : BitVec 15) : Statement (.loop b disp15) := bit0 8 (by decide) _ _ rfl
theorem mov16C (a : Reg) (const4 : BitVec 4) : Statement (.mov16C a const4) := bit0 8 (by decide) _ _ rfl
theorem mov16R (a : Reg) (b : Reg) : Statement (.mov16R a b) := bit0 8 (by decide) _ _ rfl
theorem add16C (a : Reg) (const4 : BitVec 4) : Statement (.add16C a const4) := bit0 8 (by decide) _ _ rfl
theorem add16R (a : Reg) (b : Reg) : Statement (.add16R a b) := bit0 8 (by decide) _ _ rfl
theorem ldW16 (c : Reg) (b : Reg) : Statement (.ldW16 c b) := bit0 8 (by decide) _ _ rfl
theorem stW16 (b : Reg) (a : Reg) : Statement (.stW16 b a) := bit0 8 (by decide) _ _ rfl
theorem mfdcr (c : Reg) (const16 : BitVec 16) : Statement (.mfdcr c const16) := trivial
theorem mtdcr (const16 : BitVec 16) (a : Reg) : Statement (.mtdcr const16 a) := trivial
theorem hvcall (const8 : BitVec 8) : Statement (.hvcall const8) := trivial
theorem rfh : Statement (.rfh) := trivial
theorem jri (a : Reg) : Statement (.jri a) := trivial
theorem trapinv : Statement (.trapinv) := trivial
theorem ldDd (a : Reg) (mem : MemOp) : Statement (.ldDd a mem) := trivial
theorem stDd (mem : MemOp) (a : Reg) : Statement (.stDd mem a) := trivial
theorem absF (c : Reg) (a : Reg) : Statement (.absF c a) := trivial
theorem negF (c : Reg) (a : Reg) : Statement (.negF c a) := trivial
theorem minF (c : Reg) (a : Reg) (b : Reg) : Statement (.minF c a b) := trivial
theorem maxF (c : Reg) (a : Reg) (b : Reg) : Statement (.maxF c a b) := trivial
theorem ftoin (c : Reg) (a : Reg) : Statement (.ftoin c a) := trivial
theorem addDf (c : Reg) (d : Reg) (a : Reg) : Statement (.addDf c d a) := trivial
theorem subDf (c : Reg) (d : Reg) (a : Reg) : Statement (.subDf c d a) := trivial
theorem mulDf (c : Reg) (a : Reg) (b : Reg) : Statement (.mulDf c a b) := trivial
theorem divDf (c : Reg) (a : Reg) (b : Reg) : Statement (.divDf c a b) := trivial
theorem maddDf (c : Reg) (d : Reg) (a : Reg) (b : Reg) : Statement (.maddDf c d a b) := trivial
theorem msubDf (c : Reg) (d : Reg) (a : Reg) (b : Reg) : Statement (.msubDf c d a b) := trivial
theorem cmpDf (c : Reg) (a : Reg) (b : Reg) : Statement (.cmpDf c a b) := trivial
theorem qseedDf (c : Reg) (a : Reg) : Statement (.qseedDf c a) := trivial
theorem dftoi (c : Reg) (a : Reg) : Statement (.dftoi c a) := trivial
theorem dftoin (c : Reg) (a : Reg) : Statement (.dftoin c a) := trivial
theorem dftoiz (c : Reg) (a : Reg) : Statement (.dftoiz c a) := trivial
theorem dftou (c : Reg) (a : Reg) : Statement (.dftou c a) := trivial
theorem dftouz (c : Reg) (a : Reg) : Statement (.dftouz c a) := trivial
theorem dftol (c : Reg) (a : Reg) : Statement (.dftol c a) := trivial
theorem dftolz (c : Reg) (a : Reg) : Statement (.dftolz c a) := trivial
theorem dftoul (c : Reg) (a : Reg) : Statement (.dftoul c a) := trivial
theorem dftoulz (c : Reg) (a : Reg) : Statement (.dftoulz c a) := trivial
theorem ltodf (c : Reg) (a : Reg) : Statement (.ltodf c a) := trivial

end Sys2Proof.Laws.LengthBit
end

