-- ==== Sys2Proof/Tests/Slice0.lean ====
section
/-! SUPPORT. Tests: well-formedness, one word for every encoded row of the opcode table, single steps whose results
95_test_vectors.md states, and for every obligation with hypotheses a state and operands that meet them. -/

namespace Sys2Proof.Tests

open Sys2Proof Sys2Proof.Machine

-- One theorem after the other: each waits for the kernel, and every waiting one would hold a thread.
set_option Elab.async false

/-! ## Helpers -/

/-- A replicated register of resource `r` set. -/
def rep (r : Resource) (x : RepReg) (v : Word) (s : State) : State := s.setRaw r (.rep x) v

/-- A single-copy register set. -/
def sysw (x : SysReg) (v : Word) (s : State) : State := s.setRaw .hv (.sys x) v

/-- ICR of VM0 set. -/
def icr (v : Word) (s : State) : State := sysw (.vmIcr 0) v s

/-- A word of memory set. -/
def word (a v : Word) (s : State) : State := s.putWord a v

/-- An address register set. -/
def addr (n : Reg) (v : Word) (s : State) : State := s.setA n v

/-- A data register set. -/
def data (n : Reg) (v : Word) (s : State) : State := s.setD n v

/-- The next state of an outcome; the state after reset stands for a stop. -/
def after (o : Host.Outcome State Fault Refusal) : State :=
  match o with
  | .next t => t
  | .fault _ => State.reset
  | .refused _ => State.reset

/-- An outcome is a next state. -/
def goesOn (o : Host.Outcome State Fault Refusal) : Bool :=
  match o with
  | .next _ => true
  | .fault _ => false
  | .refused _ => false

/-- An outcome that goes on has a next state. -/
theorem exists_next {o : Host.Outcome State Fault Refusal} (h : goesOn o = true) : ∃ t, o = .next t := by
  cases o with
  | next t => exact ⟨t, rfl⟩
  | fault f => simp [goesOn] at h
  | refused r => simp [goesOn] at h

/-- One step that runs the instruction with the bits `w`. -/
def runWord (w : Nat) (s : State) : State := after (step (s.withFetchWord 32 w))

/-- A free list of three CSAs at D000 0200H, and BTV 8000 0100H (the start state of 95_test_vectors P2). -/
def lists (s : State) : State :=
  rep .hv .btv 0x80000100 (rep .hv .fcx 0xD0008 (rep .hv .lcx 0xD000B
    (word 0xD0000200 0xD0009 (word 0xD0000240 0xD000A (word 0xD0000280 0xD000B s)))))

/-- After reset, with the free list. -/
def start : State := lists State.reset

/-- An upper context at the CSA D000 0280H, linked. -/
def linkedUpper : State := { start with pcxi := 0x1D000A#32, psw := 0xB81#32 }

/-- A lower context at the CSA D000 0280H, linked. -/
def linkedLower : State := { start with pcxi := 0x0D000A#32 }

/-- Debug enabled. -/
def debugging : State :=
  sysw .dbgsr 1 (sysw .dbgcfg 0x8000 (sysw .dbgtcr 0 (sysw .dms 0xA0001000 (sysw .dcx 0xA0002000 start))))

/-- VM1 runs as a guest and the hypervisor has a free list; level 2 allows nothing. -/
def guestRuns : State :=
  sysw .vcon0 1 (sysw .vcon1 1 (sysw .bhv 0x80004000 { rep .a .btv 0x80000100 start with vcon0Written := true }))

/-- Protection on with set 1 (95_test_vectors 2.10). -/
def protectedTask : State :=
  { rep .hv .corecon 2 (rep .hv (.dprL 0) 0xD0000000 (rep .hv (.dprU 0) 0xD0001000 (rep .hv (.dprL 1) 0xD0000800
      (rep .hv (.dprU 1) 0xD0000900 (rep .hv (.dpre 1) 1 (rep .hv (.dpwe 1) 2 (rep .hv (.cprL 0) 0x80000000
        (rep .hv (.cprU 0) 0x80001000 (rep .hv (.cpxe 1) 1 start)))))))))
    with psw := 0x1B80#32 }

/-- Nothing is behind the addresses from 9000 0000H on. -/
def smallMemory : State := { start with cfg := { start.cfg with memMap := [⟨0, 0x90000000, .ram⟩] } }

/-- The word 0FFF FFFFH, which opcode_table.json does not give, decoded by a row of the configuration. -/
def coded (i : Option (Instr × Nat)) : State := { start with cfg := { start.cfg with codes := [⟨0x0FFFFFFF, i⟩] } }

/-! ## Well-formedness -/

theorem test_odd_pair_is_ill_formed : (Instr.ldDOff 3 4 0).wellFormed = false := by decide

theorem test_odd_address_pair_is_ill_formed : (Instr.ldDaAbs 5 0).wellFormed = false := by decide

theorem test_odd_pair_of_a_mode_is_ill_formed : (Instr.ldWCirc 1 3 0).wellFormed = false := by decide

theorem test_unaligned_quad_is_ill_formed : (Instr.ldDd 2 (.off 4 0)).wellFormed = false := by decide

theorem test_even_pair_is_well_formed : (Instr.ldDOff 14 3 0).wellFormed = true := by decide

theorem test_aligned_quad_is_well_formed : (Instr.stDd (.rev 2) 12).wellFormed = true := by decide

/-! ## Decoding: one word for every encoded row, its operand fields filled by the bit positions of 30_encoding and
spec/opcode_table.json -/

/-- Every word of the list decodes to its instruction. -/
def decodesAll (l : List (Nat × Nat × Instr)) : Bool := l.all fun x => decodeTableWord x.1 x.2.1 == some x.2.2

theorem test_words_decode_1 : decodesAll
    [
     (32, 0x0000000D, .nop), (32, 0x00C0000D, .fret), (32, 0x0100000D, .debug), (32, 0x0140000D, .rfm),
     (32, 0x0180000D, .ret), (32, 0x01C0000D, .rfe), (32, 0x0200000D, .svlcx), (32, 0x0240000D, .rslcx),
     (32, 0x0300000D, .enable), (32, 0x0340000D, .disable), (32, 0x0480000D, .dsync), (32, 0x04C0000D, .isync),
     (32, 0x0500000D, .trapv), (32, 0x0540000D, .trapsv), (32, 0x0380020D, .restore 2),
     (32, 0x03C0010D, .disableD 1), (16, 0x0000, .nop16), (16, 0x7000, .fret16), (16, 0x8000, .rfe16),
     (16, 0x9000, .ret16), (16, 0xA000, .debug16), (32, 0x001520AD, .bisr 0x152), (16, 0x72E0, .bisr16 0x72),
     (32, 0x008AB0AD, .syscall 0xab), (32, 0x332AC04D, .mfcr 3 0x32ac), (32, 0x0F3B07CD, .mtcr 0xf3b0 7),
     (32, 0xD0E9A06D, .call 0xa0d0e9), (16, 0x7E5C, .call16 0x7e), (32, 0xD7642EED, .calla 0x2ed764),
     (32, 0x0000072D, .calli 7), (32, 0xA4174B61, .fcall 0x4ba417), (32, 0x553075E1, .fcalla 0x755530),
     (32, 0x00100E2D, .fcalli 14), (32, 0xB842435D, .jl 0x43b842), (32, 0x731A836F, .jzT 3 0x8 0x731a),
     (16, 0xB12E, .jzT16 0xb 0x1), (32, 0x00F95015, .stlcxAbs 0x14c39), (32, 0xA5628015, .stucxAbs 0x216a2),
     (32, 0xCB04A015, .ldlcxAbs 0x2b304), (32, 0x2CFEC015, .lducxAbs 0x30cbe), (32, 0x2932C049, .ldlcxOff 12 0xb2),
     (32, 0xF95ED049, .lducxOff 13 0x3de)] = true := by decide +kernel

theorem test_words_decode_2 : decodesAll
    [
     (32, 0xC9BEF049, .stlcxOff 15 0x33e), (32, 0x29ED3049, .stucxOff 3 0xad), (32, 0xBA303349, .leaOff 3 3 0x2f0),
     (32, 0x50DB95C5, .leaAbs 5 0x24d5b), (32, 0xDCFD38D9, .leaLong 8 3 0xcf7d),
     (32, 0xE811AD49, .swapWOff 10 0x391 13), (32, 0xD017C749, .swapWPost 12 0x357 7),
     (32, 0xB41D3449, .swapWPre 3 0x2dd 4), (32, 0x00004169, .swapWRev 4 1), (32, 0xF4275669, .swapWCirc 5 0x3e7 6),
     (32, 0xC8563B49, .ldmstOff 3 0x316 11), (32, 0x80666549, .ldmstPost 6 0x226 5),
     (32, 0x944A9849, .ldmstPre 9 0x24a 8), (32, 0x00404D69, .ldmstRev 4 13),
     (32, 0x94664B69, .ldmstCirc 4 0x266 11), (32, 0x88B54149, .swapmskWOff 4 0x235 1),
     (32, 0x70A84949, .swapmskWPost 4 0x1e8 9), (32, 0x8480E249, .swapmskWPre 14 0x200 2),
     (32, 0x00807A69, .swapmskWRev 7 10), (32, 0xA486CC69, .swapmskWCirc 12 0x286 12),
     (32, 0x38C22349, .cmpswapWOff 2 0xc2 3), (32, 0xA0FEAC49, .cmpswapWPost 10 0x2be 12),
     (32, 0x24C66649, .cmpswapWPre 6 0x86 6), (32, 0x00C08769, .cmpswapWRev 8 7),
     (32, 0x14E79E69, .cmpswapWCirc 9 0x67 14), (32, 0x6102B3E5, .swapWAbs 0x2d182 3),
     (32, 0xA58094E5, .ldmstAbs 0x25a80 4), (32, 0xC2088ED5, .stT 0x22308 0x6 0x1),
     (32, 0xC3D0CC05, .ldBAbs 12 0x33f10), (32, 0xA821DD09, .ldBOff 13 13 0x2a1),
     (32, 0x101A7809, .ldBPost 8 7 0x5a), (32, 0x74292709, .ldBPre 7 2 0x1e9), (32, 0x00007229, .ldBRev 2 7),
     (32, 0xA4173129, .ldBCirc 1 3 0x297), (32, 0x26C68105, .ldBuAbs 1 0x22c86),
     (32, 0xE87A3509, .ldBuOff 5 3 0x3ba), (32, 0xA044CE09, .ldBuPost 14 12 0x284),
     (32, 0x9450C609, .ldBuPre 6 12 0x250), (32, 0x00408D29, .ldBuRev 13 8), (32, 0x845BCA29, .ldBuCirc 10 12 0x21b),
     (32, 0x1B1EF105, .ldHAbs 1 0x3f05e), (32, 0xC8972F09, .ldHOff 15 2 0x317)] = true := by decide +kernel

theorem test_words_decode_3 : decodesAll
    [
     (32, 0xE089DB09, .ldHPost 11 13 0x389), (32, 0x64997109, .ldHPre 1 7 0x199), (32, 0x00806D29, .ldHRev 13 6),
     (32, 0x64AA6229, .ldHCirc 2 6 0x1aa), (32, 0x5D624205, .ldHuAbs 2 0x11562),
     (32, 0xA8F86B09, .ldHuOff 11 6 0x2b8), (32, 0x20D25B09, .ldHuPost 11 5 0x92),
     (32, 0xB4EB5509, .ldHuPre 5 5 0x2eb), (32, 0x00C09D29, .ldHuRev 13 9), (32, 0x24C1E429, .ldHuCirc 4 14 0x81),
     (32, 0x83B9F685, .ldWAbs 6 0x3fa39), (32, 0xD9348B09, .ldWOff 11 8 0x374),
     (32, 0x9109E109, .ldWPost 1 14 0x249), (32, 0xC5122609, .ldWPre 6 2 0x312), (32, 0x01009229, .ldWRev 2 9),
     (32, 0xA51BCB29, .ldWCirc 11 12 0x29b), (32, 0x275F6E85, .ldDAbs 14 0x1b49f),
     (32, 0x89798109, .ldDOff 1 8 0x239), (32, 0x7155D809, .ldDPost 8 13 0x1d5), (32, 0x05481809, .ldDPre 8 1 0x8),
     (32, 0x01409C29, .ldDRev 12 9), (32, 0x65704C29, .ldDCirc 12 4 0x1b0), (32, 0x69DB6B85, .ldAAbs 11 0x19d9b),
     (32, 0x89BB9709, .ldAOff 7 9 0x23b), (32, 0x61A9D709, .ldAPost 7 13 0x1a9),
     (32, 0xD59BED09, .ldAPre 13 14 0x35b), (32, 0x0180CE29, .ldARev 14 12), (32, 0x25B03229, .ldACirc 2 3 0xb0),
     (32, 0xDE1BCD85, .ldDaAbs 13 0x3235b), (32, 0x59F9F209, .ldDaOff 2 15 0x179),
     (32, 0x41F0AB09, .ldDaPost 11 10 0x130), (32, 0xC5DE1709, .ldDaPre 7 1 0x31e), (32, 0x01C01D29, .ldDaRev 13 1),
     (32, 0xC5C85E29, .ldDaCirc 14 5 0x308), (32, 0x62F7B819, .ldWLong 8 11 0x2db7),
     (32, 0x8850DF99, .ldALong 15 13 0x8610), (32, 0x835DE279, .ldBLong 2 14 0x361d),
     (32, 0xE10EF439, .ldBuLong 4 15 0x138e), (32, 0xA900D2C9, .ldHLong 2 13 0x9280),
     (32, 0xFCA4FBB9, .ldHuLong 11 15 0xcbe4), (32, 0x02EE3225, .stBAbs 0xec2e 2),
     (32, 0x4833E189, .stBOff 14 0x133 1)] = true := by decide +kernel

theorem test_words_decode_4 : decodesAll
    [
     (32, 0x503E9189, .stBPost 9 0x17e 1), (32, 0x54105189, .stBPre 5 0x150 1), (32, 0x000094A9, .stBRev 9 4),
     (32, 0x5423EBA9, .stBCirc 14 0x163 11), (32, 0xBAE62625, .stHAbs 0xaee6 6),
     (32, 0x68A1BD89, .stHOff 11 0x1a1 13), (32, 0x60A38B89, .stHPost 8 0x1a3 11),
     (32, 0xF4BB8B89, .stHPre 8 0x3fb 11), (32, 0x008014A9, .stHRev 1 4), (32, 0x64BCECA9, .stHCirc 14 0x1bc 12),
     (32, 0x03C9B1A5, .stWAbs 0x2fc09 1), (32, 0x49069689, .stWOff 9 0x106 6), (32, 0x111B4389, .stWPost 4 0x5b 3),
     (32, 0x25264589, .stWPre 4 0xa6 5), (32, 0x01002BA9, .stWRev 2 11), (32, 0xA517A7A9, .stWCirc 10 0x297 7),
     (32, 0xE58511A5, .stDAbs 0x5b85 1), (32, 0xD95FC589, .stDOff 12 0x35f 5), (32, 0xA17CD489, .stDPost 13 0x2bc 4),
     (32, 0xD551C889, .stDPre 12 0x351 8), (32, 0x0140C7A9, .stDRev 12 7), (32, 0x954A81A9, .stDCirc 8 0x24a 1),
     (32, 0x0A373BA5, .stAAbs 0xe037 11), (32, 0xD9BF1789, .stAOff 1 0x37f 7),
     (32, 0xC19CEF89, .stAPost 14 0x31c 15), (32, 0x25A65C89, .stAPre 5 0xa6 12), (32, 0x0180FBA9, .stARev 15 11),
     (32, 0x35A115A9, .stACirc 1 0xe1 5), (32, 0xAF0BD8A5, .stDaAbs 0x3728b 8),
     (32, 0xA9CEE789, .stDaOff 14 0x28e 7), (32, 0xC1D58E89, .stDaPost 8 0x315 14),
     (32, 0xC5D98689, .stDaPre 8 0x319 6), (32, 0x01C0D6A9, .stDaRev 13 6), (32, 0x45FBA7A9, .stDaCirc 10 0x13b 7),
     (32, 0x5047C859, .stWLong 12 0x547 8), (32, 0x1EC4AEB5, .stALong 10 0xec44 14),
     (32, 0x233DDAE9, .stBLong 13 0x30bd 10), (32, 0x036DF1F9, .stHLong 15 0x342d 1),
     (32, 0x6B161089, .cacheaWOff 1 0x196), (32, 0xC300A089, .cacheaWPost 10 0x300),
     (32, 0xB71A5089, .cacheaWPre 5 0x2da), (32, 0x9B4F1089, .cacheaWiOff 1 0x24f)] = true := by decide +kernel

theorem test_words_decode_5 : decodesAll
    [
     (32, 0x435F1089, .cacheaWiPost 1 0x11f), (32, 0x377C3089, .cacheaWiPre 3 0xfc),
     (32, 0x2B8F8089, .cacheaIOff 8 0x8f), (32, 0xA394B089, .cacheaIPost 11 0x294),
     (32, 0x07925089, .cacheaIPre 5 0x12), (32, 0x2AC4F089, .cacheiWOff 15 0x84),
     (32, 0xB2DE3089, .cacheiWPost 3 0x2de), (32, 0x76C9B089, .cacheiWPre 11 0x1c9),
     (32, 0x0A914089, .cacheiIOff 4 0x11), (32, 0x62B28089, .cacheiIPost 8 0x1b2),
     (32, 0xE6B3A089, .cacheiIPre 10 0x3b3), (32, 0x8BCCB089, .cacheiWiOff 11 0x20c),
     (32, 0x43D22089, .cacheiWiPost 2 0x112), (32, 0x27CC6089, .cacheiWiPre 6 0x8c), (32, 0xE000970B, .add 14 7 9),
     (32, 0x3008C98B, .addC 3 9 0x8c), (32, 0x7040810B, .addx 7 1 8), (32, 0x90996B8B, .addxC 9 11 0x196),
     (32, 0x5050180B, .addc 5 8 1), (32, 0x90A9578B, .addcC 9 7 0x95), (32, 0xC601FB01, .addscA 12 15 11 0x1),
     (32, 0xB620E901, .addscAt 11 14 9), (32, 0x1AF40337, .extrU 1 3 0x15 0x14), (32, 0xD9600817, .extrUReg 13 8 9),
     (32, 0xE1650357, .extrUWidth 14 3 1 0x5), (32, 0xFF20046B, .addF 15 15 4), (32, 0xFD30036B, .subF 15 13 3),
     (32, 0x3660D16B, .maddF 3 6 1 13), (32, 0x8D70126B, .msubF 8 13 2 1), (32, 0x7000A84B, .cmpF 7 8 10),
     (32, 0x3040174B, .mulF 3 7 1), (32, 0xB050DB4B, .divF 11 11 13), (32, 0x00C0074B, .updfl 7),
     (32, 0x7100034B, .ftoi 7 3), (32, 0x31107C4B, .ftoq31 3 12 7), (32, 0x51200A4B, .ftou 5 10),
     (32, 0x4130064B, .ftoiz 4 6), (32, 0x4140024B, .itof 4 2), (32, 0x3150D64B, .q31tof 3 6 13),
     (32, 0xA160054B, .utof 10 5), (32, 0xB1700E4B, .ftouz 11 14), (32, 0xB1808A4B, .ftoq31z 11 10 8)] = true := by decide +kernel

theorem test_words_decode_6 : decodesAll
    [
     (32, 0x8190044B, .qseedF 8 4), (32, 0xE2400F4B, .hptof 14 15), (32, 0x5250034B, .ftohp 5 3),
     (32, 0x1A94E03B, .movConst 1 0xa94e), (32, 0xABF8707B, .movh 10 0xbf87), (32, 0x19E48091, .movhA 1 0x9e48),
     (32, 0xEF936E1B, .addi 14 14 0xf936), (32, 0x21F0600B, .mov 2 6), (32, 0x16301001, .movA 1 1),
     (32, 0x74C0F001, .movD 7 15), (32, 0xF0004001, .movAa 15 4), (32, 0x50803F0B, .sub 5 15 3),
     (32, 0x7080E10F, .and 7 1 14), (32, 0x110B8D8F, .andC 1 13 0xb8), (32, 0x20A0550F, .or 2 5 5),
     (32, 0x114B368F, .orC 1 6 0xb3), (32, 0x30C0E10F, .xor 3 1 14), (32, 0x419A038F, .xorC 4 3 0x1a0),
     (32, 0x31002F0B, .eq 3 15 2), (32, 0x920B028B, .eqC 9 2 0xb0), (32, 0xD1203A0B, .lt 13 10 3),
     (32, 0x1241298B, .ltC 1 9 0x12), (32, 0x25A2201D, .j 0x2025a2), (32, 0x83238F9D, .ja 0x8f8323),
     (32, 0xAEB1CFDD, .jla 0xcfaeb1), (32, 0x00300F2D, .ji 15), (32, 0x00200C2D, .jli 12),
     (32, 0x1338F55F, .jeq 5 15 0x1338), (32, 0x55B931DF, .jeqC 1 0x3 0x55b9), (32, 0x94A8BC5F, .jne 12 11 0x14a8),
     (32, 0xD83645DF, .jneC 5 0x4 0x5836), (32, 0xE382A86F, .jnzT 8 0xa 0x6382), (32, 0x292F90FD, .loop 9 0x292f),
     (16, 0x8D82, .mov16C 13 0x8), (16, 0x9D02, .mov16R 13 9), (16, 0xD5C2, .add16C 5 0xd),
     (16, 0x4442, .add16R 4 4), (16, 0x5F54, .ldW16 15 5), (16, 0x3F74, .stW16 3 15)] = true := by decide +kernel

theorem test_undefined_word_is_rejected : decodeTableWord 32 0x0FFFFFFF = none := by decide +kernel

/-! ## Single steps (95_test_vectors.md; the comment names the vector) -/

-- V-43-1
theorem test_add_overflows :
    let t := runWord 0x3000210B (data 1 0x7FFFFFFF (data 2 1 start))
    t.getD 3 = 0x80000000 ∧ t.psw = 0x78000B80 := by decide +kernel

-- V-43-5
theorem test_addx_carries :
    let t := runWord 0x3040210B (data 1 0xFFFFFFFF (data 2 1 start))
    t.getD 3 = 0 ∧ t.psw = 0x80000B80 := by decide +kernel

-- V-47-5
theorem test_sub_overflows :
    let t := runWord 0x3080210B (data 1 0x80000000 (data 2 1 start))
    t.getD 3 = 0x7FFFFFFF ∧ t.psw = 0x78000B80 := by decide +kernel

-- V-43-9
theorem test_extract : (runWord 0x36E10137 (data 1 0x2000 start)).getD 3 = 1 := by decide +kernel

-- V-47-7
theorem test_lt_is_signed : (runWord 0x325FF18B (data 1 0x80000000 start)).getD 3 = 1 := by decide +kernel

-- V-40-12
theorem test_addsc : (runWord 0x36022101 (addr 2 0x2000 (data 1 3 start))).getA 3 = 0x200C := by decide +kernel

-- V-43-12
theorem test_jz_t_is_taken : (runWord 0x0004FFEF start).pc = 0x80000008 := by decide +kernel

-- V-47-11
theorem test_jli :
    let t := runWord 0x0020022D (addr 2 0x80002001 start)
    t.getA 11 = 0x80000004 ∧ t.pc = 0x80002000 := by decide +kernel

-- V-47-13
theorem test_loop_ends :
    let t := runWord 0x7FFE20FD start
    t.pc = 0x80000004 ∧ t.getA 2 = 0xFFFFFFFF := by decide +kernel

-- V-40-21
theorem test_load_word_at_half_word_alignment :
    (runWord 0x09024109 (addr 4 0xD0000100 (word 0xD0000100 0x12345678 (word 0xD0000104 0x800180F0 start)))).getD 1 =
      0x80F01234 := by decide +kernel

-- V-40-22
theorem test_load_byte_extends_the_sign :
    (after (exec (.ldBOff 1 4 4) (addr 4 0xD0000100 (word 0xD0000104 0x800180F0 start)))).getD 1 = 0xFFFFFFF0 := by
  decide +kernel

-- S3
theorem test_circular_load_wraps :
    let t := runWord 0x05042129 (addr 2 0xD0001000 (addr 3 0x00080006 (word 0xD0001000 0x22221111
      (word 0xD0001004 0x44443333 start))))
    t.getD 1 = 0x11114444 ∧ t.getA 3 = 0x00080002 := by decide +kernel

-- S4
theorem test_bit_reverse_index :
    (runWord 0x00802129 (addr 2 0xD0002000 (addr 3 0x04000600 start))).getA 3 = 0x04000100 := by decide +kernel

-- V-40-33
theorem test_store_double_word :
    let t := after (exec (.stDOff 4 8 2) (addr 4 0xD0000100 (data 2 0x11112222 (data 3 0x33334444 start))))
    t.wordAt 0xD0000108 = 0x11112222 ∧ t.wordAt 0xD000010C = 0x33334444 := by decide +kernel

-- V-40-44
theorem test_compare_and_swap :
    let t := runWord 0x08C04249 (addr 4 0xD0000100 (word 0xD0000100 5 (data 2 9 (data 3 5 start))))
    t.getD 2 = 5 ∧ t.wordAt 0xD0000100 = 9 := by decide +kernel

-- V-40-46
theorem test_store_bit :
    (runWord 0x0010DFD5 (word 0xD0000010 0x0F start)).wordAt 0xD0000010 = 0x8F := by decide +kernel

-- V-40-6
theorem test_other_segment_takes_mem :
    let t := runWord 0x09082109 (addr 2 0xDFFFFFFC start)
    t.pc = 0x80000140 ∧ t.getD 15 = 5 ∧ t.getA 11 = 0x80000000 := by decide +kernel

-- V-20-22
theorem test_access_across_a_range_takes_mpr :
    let t := after (exec (.ldWOff 1 2 0) (addr 2 0xD0000FFE protectedTask))
    t.pc = 0x80000120 ∧ t.getD 15 = 2 := by decide +kernel

-- V-20-29
theorem test_fetch_across_a_range_takes_mpx :
    let t := runWord 0x0000000D { protectedTask with pc := 0x80000FFE#32 }
    t.pc = 0x80000120 ∧ t.getD 15 = 4 := by decide +kernel

-- V-41-4
theorem test_call_saves_pprs_in_the_place_of_prs :
    let t := runWord 0x0010006D { start with psw := 0x8000DB81#32, pprs := 2#32 }
    t.wordAt 0xD0000204 = 0x80006B81 ∧ t.pprs = 5 := by decide +kernel

-- V-41-12
theorem test_call_depth_overflow :
    let t := runWord 0x0010006D { start with psw := 0xBBF#32 }
    t.pc = 0x80000160 ∧ t.getD 15 = 2 := by decide +kernel

-- V-41-40
theorem test_bisr :
    let t := runWord 0x000200AD (icr 5 (addr 11 0x80000500 start))
    t.pcxi = 0x014D0008 ∧ t.getRep .hv .fcx = 0xD0009 ∧ t.raw .hv .icr = 0x8020 ∧ t.wordAt 0xD0000204 = 0x80000500 := by
  decide +kernel

-- V-41-50
theorem test_fcall :
    let t := runWord 0x00040061 (addr 10 0xD0000800 (addr 11 0x80000F00 start))
    t.wordAt 0xD00007FC = 0x80000F00 ∧ t.getA 10 = 0xD00007FC ∧ t.getA 11 = 0x80000004 ∧ t.pc = 0x80000008 := by
  decide +kernel

-- V-42-12
theorem test_disable_saves_ie :
    let t := runWord 0x03C0030D (icr 0x8000 start)
    t.raw .hv .icr = 0 ∧ t.getD 3 = 1 := by decide +kernel

-- V-42-21
theorem test_syscall :
    let t := runWord 0x009FF0AD start
    t.pc = 0x800001C0 ∧ t.getD 15 = 0xFF ∧ t.getA 11 = 0x80000004 := by decide +kernel

-- V-60-10
theorem test_interrupt_entry :
    let s := rep .hv .biv 0x80002000 (rep .hv .isp 0xD0001000 (icr 0x00078002 (addr 10 0xD0000800
      { start with pc := 0x80000400#32, psw := 0x10001480#32, pprs := 3#32 })))
    let t := after (step s)
    t.pc = 0x800020E0 ∧ t.psw = 0x10000A80 ∧ t.pcxi = 0x00BD0008 ∧ t.raw .hv .icr = 0x00070007 ∧
      t.getA 10 = 0xD0001000 ∧ t.getA 11 = 0x80000400 ∧ t.wordAt 0xD0000204 = 0x10003480 := by decide +kernel

-- V-45-1
theorem test_breakpoint_trap :
    let s := rep .hv .isp 0xD0001000 (sysw .dbgact 3 (sysw .swevt 1 (icr 0x8003
      { debugging with psw := 0x480#32, pcxi := 0xBD0008#32, pc := 0x80000300#32 })))
    let t := runWord 0x0100000D s
    t.pc = 0xA0001000 ∧ t.psw = 0xA00 ∧ t.pcxi = 0x00FD0008 ∧ t.getA 11 = 0x80000304 ∧ t.wordAt 0xA0002004 = 0x480 := by
  decide +kernel

-- V-46-10
theorem test_guest_access_to_vcon2 :
    let t := after (exec (.mtcr 0xB008 0) guestRuns)
    t.cvmn = 0 ∧ t.pc = 0x80004080 ∧ t.getD 15 = 0x8000B008 := by decide +kernel

-- V-44-13
theorem test_division_rounds :
    let t := runWord 0x3050214B (data 1 0x3F800000 (data 2 0x40400000 start))
    t.getD 3 = 0x3EAAAAAB ∧ t.psw = 0x84000B80 := by decide +kernel

-- S9
theorem test_tiny_result_rounds_to_the_smallest_normal :
    let t := runWord 0x3040214B (data 1 0x00800000 (data 2 0x3F7FFFFF start))
    t.getD 3 = 0x00800000 ∧ t.psw = 0x8C000B80 := by decide +kernel

/-! ## Witnesses: for each obligation a state and operands that meet its hypotheses, for each clause -/

theorem test_witness_decode_encode : (Instr.addC 1 2 (-1)).encoding ≠ .unknown := by decide

theorem test_witness_decode_consumes_the_length :
    decode [0x0B, 0x21, 0x00, 0x30, 0xFF] = .ok (.add 3 1 2, [0xFF]) := by decide +kernel

/-- A word that opcode_table.json gives, and one that a decoder row gives. -/
theorem test_witness_step_runs_the_decoded_instruction :
    (let s := start.withFetchWord 32 0x3000210B;
      s.ready = true ∧ s.begin.fetchCheck = .go ∧ s.cfg.codes = [] ∧
        decode (s.codeBytes 4) = .ok (.add 3 1 2, [])) ∧
      (let s := (coded (some (.hvcall 5, 4))).withFetchWord 32 0x0FFFFFFF;
        s.ready = true ∧ s.begin.fetchCheck = .go ∧
          ((s.cfg.codes.find? fun row => decide (row.word = s.begin.fetchWord ∧ FollowsLengthRule row)).bind
            CodeRow.instr) = some (.hvcall 5, 4)) := by
  decide +kernel

/-- A row for a 16-bit word whose length is not that of its instruction is no row: the table's reading counts (R312). -/
theorem test_row_without_the_length_is_none :
    let s := ({ start with cfg := { start.cfg with codes := [⟨0x9000, some (.hvcall 5, 2)⟩, ⟨0x9000, some (.nop, 4)⟩] } } :
      State).withFetchWord 16 0x9000
    s.begin.fetched = some .ret16 := by decide +kernel

/-- The pc is the upper bound of the one enabled range, which is exclusive (the reset values give no other), or the third
byte of the instruction lies there. -/
theorem test_witness_failed_fetches_trap_range :
    let cross := { protectedTask with pc := 0x80000FFE#32 }.withFetchWord 32 0xD
    (cross.begin.codeRam 2 = true ∧ cross.begin.l1Fetch cross.pc = true) ∧
      ∀ s ∈ [{ protectedTask with pc := 0x80001000#32 }, cross], s.ready = true ∧ s.begin.protEn .fetch = true ∧
        s.debugMode = false ∧ (0x80001000#32 ∈ s.begin.fetchAddrs ∧ ∀ n : Fin 32, n.val < s.cfg.nCpr →
          bit (s.begin.setMask s.res .cpxe (s.begin.prs .fetch) .fetch) n.val = true →
          ¬ ((s.begin.eff s.res (.rep (.cprL n)) .fetch).toNat ≤ 0x80001000 ∧
            0x80001000 < (s.begin.eff s.res (.rep (.cprU n)) .fetch).toNat)) := by decide +kernel

/-- A word that is no instruction, and one that a decoder row says is none. -/
theorem test_witness_failed_fetches_trap_code :
    (let s := start.withFetchWord 32 0x0FFFFFFF;
      s.ready = true ∧ s.begin.fetchCheck = .go ∧ s.cfg.codes = [] ∧ (decode (s.codeBytes 4)).toOption = none) ∧
      (let s := (coded none).withFetchWord 32 0x0FFFFFFF;
        s.ready = true ∧ s.begin.fetchCheck = .go ∧
          (s.cfg.codes.find? fun row => decide (row.word = s.begin.fetchWord ∧ FollowsLengthRule row)).map
            CodeRow.instr = some none) := by
  decide +kernel

/-- Code is behind the bytes that a state fetches. -/
def codeBehind (s : State) : Bool :=
  s.begin.fetchAddrs.all fun a =>
    decide (¬ s.begin.InPeripheral (Machine.segment a) .fetch) && s.begin.kindAt a.toNat == some .ram

/-- A guest without a level-2 range; the first address of a peripheral segment; an announced error. -/
theorem test_witness_failed_fetches_trap_levels :
    let g := guestRuns
    let far := { start with pc := 0xF0000000#32 }
    let late := { start with fetchError := some 0x80000000#32 }
    (g.ready = true ∧ g.begin.fetchAddrs.all g.begin.l1Fetch = true ∧ g.begin.fetchAddrs.all g.begin.l2Fetch = false) ∧
      (far.ready = true ∧ far.begin.fetchAddrs.all far.begin.l1Fetch = true ∧
        far.begin.fetchAddrs.all far.begin.l2Fetch = true ∧ codeBehind far = false) ∧
      (late.ready = true ∧ late.begin.fetchAddrs.all late.begin.l1Fetch = true ∧
        late.begin.fetchAddrs.all late.begin.l2Fetch = true ∧ codeBehind late = true) := by decide +kernel

/-- A boot-halted core; DEBUG in its own place and after itself, on an enabled event. -/
theorem test_witness_debug_event_actions :
    (let s := State.resetWith { Config.reference with bootHalt := true };
      s.schedule = [] ∧ s.halted = true) ∧
      (let s := sysw .swevt 9 debugging;
        s.debugOn = true ∧ bit (s.dbg .swevt) 0 = true ∧ s.evt = false ∧ bit (s.dbg .swevt) 3 = true) ∧
      (let s := sysw .swevt 1 debugging;
        s.debugOn = true ∧ bit (s.dbg .swevt) 0 = true ∧ s.evt = false ∧ bit (s.dbg .swevt) 3 = false ∧
          (s.pcBam s.pc).isNone = true) := by decide +kernel

/-- Break-in at a boundary, and its arrival; a move of BIV with its event armed before it and after it, in a state in
which the event has acted too. -/
theorem test_witness_debug_events_of_moves_and_break_in :
    (let s := { sysw .exevt 1 debugging with breakIn := true };
      s.schedule = [] ∧ s.halted = false ∧ s.fcdPending = false ∧ s.breakIn = true) ∧
      (let s := sysw .crevt 9 debugging;
        moveForm (.mfcr 1 0xFE20) = some (0xFE20, false, false) ∧ (Instr.mfcr 1 0xFE20).wellFormed = true ∧
          s.crEvent 0xFE20 = true ∧ s.evt = false ∧ bit (s.dbg .crevt) 3 = true) ∧
      (let s := sysw .crevt 1 debugging;
        s.crEvent 0xFE20 = true ∧ s.evt = false ∧ bit (s.dbg .crevt) 3 = false ∧ s.entered = false ∧
          goesOn (exec (.mfcr 1 0xFE20) { s with evt := true }) = true) := by decide +kernel

-- R626: before the check of privilege, in place of the move; R631: after the move, at the next instruction.
theorem test_debug_events_of_moves :
    (let s := { sysw .dbgact 2 (sysw .crevt 9 debugging) with psw := 0x380#32 };
      let t := after (exec (.mtcr 0xFE20 1) s);
      t.halted = true ∧ t.pc = 0x80000000 ∧ field (t.getSys .dbgsr) 8 5 = (1 : BitVec 5)) ∧
      (let t := after (exec (.mtcr 0xFE24 1) (data 1 0x80000200 (sysw .dbgact 2 (sysw .crevt 1 debugging))));
        t.halted = true ∧ t.pc = 0x80000004 ∧ t.getRep .hv .btv = 0x80000200) := by decide +kernel

-- 10_state R75, R77: the address that the host gave.
theorem test_integrity_errors_leave_their_address :
    (after (step { start with fetchError := some 0x80000002#32 })).getRep .hv .piear = 0x80000002 ∧
      (after (step { guestRuns with pendDie := some 0xD0000123#32 })).getRep .hv .diear = 0xD0000123 := by
  decide +kernel

-- 44_fpu R590, R599: the fields of the controls read 0 after reset; a capture that was cleared leaves any value.
theorem test_trap_controls_after_reset :
    start.openBits .hv (.rep .fpuTrapCon) = (start.layout (.rep .fpuTrapCon)).reserved ∧
      start.openBits .hv (.rep .fpuSyncCon) = (start.layout (.rep .fpuSyncCon)).reserved ∧
      (let s := rep .hv .fpuTrapCon 0x20000001 start;
        s.csfrWritten .hv (.rep .fpuTrapCon) 2 false = 0x20000000 ∧
          bit ((rep .hv .fpuTrapCon 0x20000000 start).openBits .hv (.rep .fpuTrapCon)) 27 = true) := by decide +kernel

/-- The actions: none, halt, the breakpoint trap, the last breakpoint interrupt that exists. -/
theorem test_debug_actions :
    (let t := (sysw .dbgact 0 debugging).debugEvent 2 0 0x80000010;
      t.2 = false ∧ t.1.out = [] ∧ t.1.getSys .dbgsr = 1) ∧
      (let t := (sysw .dbgact 2 debugging).debugEvent 2 0 0x80000010;
        t.2 = true ∧ t.1.halted = true ∧ t.1.pc = 0x80000010 ∧ t.1.out = [.breakOut]) ∧
      (let t := (sysw .dbgact 11 debugging).debugEvent 2 0 0x80000010;
        t.2 = true ∧ t.1.pc = 0xA0001000 ∧ t.1.out = []) ∧
      (let t := (sysw .dbgact 4 debugging).debugEvent 2 0 0x80000010;
        t.2 = false ∧ t.1.out = [.breakOut, .breakInterrupt 0] ∧ bit (t.1.getSys .dbgsr) 7 = true) := by decide +kernel

theorem reset_goes_on : goesOn (step State.reset) = true := by decide +kernel

theorem test_witness_step_keeps_the_invariant :
    (Memory.wf State.reset.mem = true ∧ State.reset.pc.getLsbD 0 = false ∧
      State.reset.cfg.resetPc.getLsbD 0 = false) ∧ ∃ t, step State.reset = .next t :=
  ⟨by decide +kernel, exists_next reset_goes_on⟩

theorem locked_goes_on : goesOn (step { State.reset with vcon0Written := true }) = true := by decide +kernel

theorem test_witness_vcon0_is_locked_until_reset :
    let s := { State.reset with vcon0Written := true }
    (s.vcon0Written = true ∧ s.schedule.head? ≠ some (.host .reset)) ∧ ∃ t, step s = .next t :=
  ⟨by decide +kernel, exists_next locked_goes_on⟩

theorem test_witness_moves_and_logic :
    dataForm (data 1 0x80000000 start) (.ltC 3 1 (-256)) = some (3, 1, 4) := by decide +kernel

theorem test_witness_arithmetic :
    (arithForm (data 1 0x7FFFFFFF start) (.addC 3 1 1)).map ArithForm.result = some (2 ^ 31) := by decide +kernel

/-- The field may end at bit 31 and no further. -/
theorem test_witness_extract_unsigned :
    let s := data 4 31 (data 5 1 start)
    (1 : BitVec 5) ≠ 0 ∧ (31 : BitVec 5).toNat + (1 : BitVec 5).toNat ≤ 32 ∧ (4 : Reg).toNat % 2 = 0 ∧
      (s.getD 4).toNat % 32 + (1 : BitVec 5).toNat ≤ 32 ∧ (s.getD (4 + 1)).toNat % 32 ≠ 0 ∧
      (s.getD 4).toNat % 32 + (s.getD (4 + 1)).toNat % 32 ≤ 32 := by decide +kernel

/-- After reset PSW.GW is 1: a global register may be the destination. -/
theorem test_witness_address_results :
    addressForm start (.movhA 0 0xD000) = some (0, 0xD0000000) ∧ start.mayWrite [0] = true := by decide +kernel

/-- PSW.GW is 0: a global destination, of LOOP and of a load too, and a global base that is updated. -/
theorem test_witness_global_registers_are_protected :
    let s := { start with psw := 0xA80#32 }
    pswGw (s.ctl .psw .globals) = false ∧
      (addressForm s (.movhA 9 1) = some (9, 0x10000) ∧ isGlobal 9 = true ∧ (Instr.movhA 9 1).wellFormed = true ∧
        (Instr.loop 9 4).wellFormed = true) ∧
      ((∃ f, loadForm (.ldAAbs 8 0) = some f ∧ f.place.addrRegs.any isGlobal = true) ∧
        (Instr.ldAAbs 8 0).wellFormed = true) ∧
      (∃ f, storeForm (.stWPost 1 4 2) = some f ∧ (s.resolve f.mem).target.any isGlobal = true) ∧
      (∃ f, rmwForm (.swapWCirc 8 4 2) = some f ∧ (s.resolve f.mem).target.any isGlobal = true) ∧
      (∃ m, cacheForm (.cacheiWPost 0 8) = some (m, true) ∧ s.supervisor = true ∧
        (s.resolve m).target.any isGlobal = true) :=
  ⟨by decide +kernel, by decide +kernel, ⟨⟨_, rfl, by decide +kernel⟩, by decide⟩, ⟨_, rfl, by decide +kernel⟩,
    ⟨_, rfl, by decide +kernel⟩, ⟨_, rfl, by decide +kernel⟩⟩

theorem test_witness_branches :
    branchForm start (.jzT 15 31 4) = some (4, true, 0x80000008) := by decide +kernel

theorem test_witness_links_and_loops :
    linkForm start (.jl 2) = some 0x80000004 ∧ start.mayWrite [15] = true := by decide +kernel

/-- The last double word of a segment. -/
theorem test_witness_loads :
    let s := addr 2 0xCFFFFFF8 start
    let f : MemForm := ⟨4, .post 2 8, 8, 2, .e 4, false⟩
    let r := s.resolve f.mem
    let x := r.access f.size f.align f.size true false
    loadForm (.ldDPost 4 2 8) = some f ∧ (Instr.ldDPost 4 2 8).wellFormed = true ∧
      s.mayWrite (f.place.addrRegs ++ r.target) = true ∧ s.check x = .go ∧ s.kindOf x.addrs = some .ram := by
  decide +kernel

/-- The three cases of a circular step at their ends (40 R337: below 0, at the length, one below it), and the last byte
of a wrapped access (R339). -/
theorem test_witness_addressing_modes :
    let s := fun index : Word => addr 2 0xD0001000 (addr 3 (0x00080000 + index) start)
    ((s 0).resolve (.circ 2 0x3FF)).update = some (3, 0x00080007) ∧ ((s 6).resolve (.circ 2 2)).update = some (3, 0x00080000) ∧
      ((s 6).resolve (.circ 2 1)).update = some (3, 0x00080007) ∧
      (((s 6).resolve (.circ 2 2)).access 4 2 4 true false).addr 3 = 0xD0001001 := by decide +kernel

/-- The last element of a circular buffer; ordinary memory in a peripheral segment, which the host sees. -/
theorem test_witness_stores :
    (let s := addr 2 0xD0001000 (addr 3 0x00080006 start);
      let f : MemForm := ⟨4, .circ 2 2, 2, 2, .d 4, false⟩;
      let r := s.resolve f.mem;
      let x := r.access f.size f.align f.size false true;
      storeForm (.stHCirc 2 2 4) = some f ∧ (Instr.stHCirc 2 2 4).wellFormed = true ∧ s.mayWrite r.target = true ∧
        s.check x = .go ∧ s.kindOf x.addrs = some .ram) ∧
      (let s := addr 2 0xD0001000 (data 4 0x12345678 (rep .hv .pma2 0xE000 start));
        let f : MemForm := ⟨4, .off 2 0, 2, 2, .d 4, false⟩;
        let r := s.resolve f.mem;
        let x := r.access f.size f.align f.size false true;
        storeForm (.stHOff 2 0 4) = some f ∧ (Instr.stHOff 2 0 4).wellFormed = true ∧ s.mayWrite r.target = true ∧
          s.check x = .go ∧ s.kindOf x.addrs = some .ram ∧
          s.toldWrite x (f.place.value s) = [.busWrite 0xD0001000 2 0x5678 true false]) := by decide +kernel

/-- A state in which the device at F000 0100H may answer a load with an error, or not: a free value says which. -/
def device : State := addr 2 0xF0000100 start

/-- The checks that come before the bus error pass: what a free value then says is all that is left. -/
theorem check_device {s : State} {x : Access} (h : s.check { x with loads := false } = .go)
    (hr : (s.checkedBytes x).all s.l1Read = true) (hr2 : (s.checkedBytes x).all s.l2Read = true) :
    s.check x = .go ∨ s.check x = .trap 4 2 := by
  have hall := Verdict.first_eq_go.mp h
  have h1 : Verdict.need (s.memOk x) (.trap 2 5) = .go := hall _ (List.mem_of_getElem? (i := 0) rfl)
  have h2 : Verdict.need (s.alnOk x) (.trap 2 4) = .go := hall _ (List.mem_of_getElem? (i := 1) rfl)
  have h3 : Verdict.need (x.ea != 0) (.trap 1 6) = .go := hall _ (List.mem_of_getElem? (i := 2) rfl)
  have h4 : Verdict.need (s.mppOk x) (.trap 1 5) = .go := hall _ (List.mem_of_getElem? (i := 3) rfl)
  have h5 : Verdict.need (!x.stores || (s.checkedBytes x).all s.l1Write) (.trap 1 3) = .go :=
    hall _ (List.mem_of_getElem? (i := 5) rfl)
  have h6 : Verdict.need (!x.stores || (s.checkedBytes x).all s.l2Write) (.hv 2 1) = .go :=
    hall _ (List.mem_of_getElem? (i := 7) rfl)
  unfold State.check
  rw [h1, h2, h3, h4, h5, h6, hr, hr2]
  cases (!x.loads || !s.loadError x) <;> simp [Verdict.need, Verdict.first]

/-- The first word that nothing is behind; a device; another master's store to the last 64 bytes of a segment. -/
theorem test_witness_devices_and_other_masters :
    (let s := addr 2 0x90000000 smallMemory;
      let f : MemForm := ⟨4, .off 2 0, 4, 2, .d 4, false⟩;
      let r := s.resolve f.mem;
      let x := r.access f.size f.align f.size false true;
      storeForm (.stWOff 2 0 4) = some f ∧ (Instr.stWOff 2 0 4).wellFormed = true ∧ s.mayWrite r.target = true ∧
        s.check x = .go ∧ s.kindOf x.addrs = none ∧ device.check ((device.resolve f.mem).access 4 2 4 false true) = .go ∧
        device.kindOf ((device.resolve f.mem).access 4 2 4 false true).addrs = some .device) ∧
      (let s := { start with schedule := [.host (.writeMem 0xCFFFFFC0 64 5)] };
        (∀ k, k < 64 → segment ((0xCFFFFFC0 : Word) + BitVec.ofNat 32 k) = segment 0xCFFFFFC0) ∧
          s.kindOf (hostAddrs 0xCFFFFFC0 64) = some .ram) := by decide +kernel

theorem test_witness_devices_and_atomics :
    let f : RmwForm := ⟨4, .off 2 0, .swap, 4⟩
    let r := device.resolve f.mem
    let x := r.access 4 4 4 true true
    rmwForm (.swapWOff 2 0 4) = some f ∧ (Instr.swapWOff 2 0 4).wellFormed = true ∧ device.mayWrite r.target = true ∧
      (device.check x = .go ∨ device.check x = .trap 4 2) ∧ device.kindOf x.addrs = some .device :=
  ⟨by decide, by decide, by decide +kernel, check_device (by decide +kernel) (by decide +kernel) (by decide +kernel),
    by decide +kernel⟩

/-- Segment 9H is a device's, and no peripheral space. -/
def deviceMemory : State :=
  { start with cfg := { start.cfg with memMap := [⟨0, 0x90000000, .ram⟩, ⟨0x90000000, 0x10000000, .device⟩] } }

/-- Fast calls and contexts to nothing and to a device; the stores. -/
theorem test_witness_devices_and_contexts :
    (∀ s ∈ [addr 10 0x90000044 (addr 4 0x90000040 smallMemory), addr 10 0x90000044 (addr 4 0x90000040 deviceMemory)],
      let x := s.stackAccess (s.getA 10 - 4) false true
      let y := s.contextAccess (.off 4 0) false true
      fastCallForm s (.fcall 4) = some 0x80000008 ∧ s.check x = .go ∧ s.kindOf x.addrs ≠ some .ram ∧
        (contextStoreForm s (.stucxOff 4 0)).map Prod.fst = some (.off 4 0) ∧ s.check y = .go ∧
        s.kindOf y.addrs ≠ some .ram) := by decide +kernel

/-- Fast returns and contexts from a device; the loads. -/
theorem test_witness_devices_and_returns :
    let s := addr 10 0x90000040 (addr 4 0x90000040 deviceMemory)
    let x := s.stackAccess (s.getA 10) true false
    let y := s.contextAccess (.off 4 0) true false
    ((s.check x = .go ∨ s.check x = .trap 4 2) ∧ s.kindOf x.addrs = some .device) ∧
      contextLoadForm (.ldlcxOff 4 0) = some (.off 4 0, false) ∧
      contextLoadForm (.lducxOff 4 0) = some (.off 4 0, true) ∧
      ((s.check y = .go ∨ s.check y = .trap 4 2) ∧ s.kindOf y.addrs = some .device) :=
  ⟨⟨check_device (by decide +kernel) (by decide +kernel) (by decide +kernel), by decide +kernel⟩, by decide, by decide,
    ⟨check_device (by decide +kernel) (by decide +kernel) (by decide +kernel), by decide +kernel⟩⟩

theorem test_witness_atomic_read_modify_writes :
    (let s := addr 4 0xD0000100 start;
      let f : RmwForm := ⟨4, .off 4 0, .cmpswap, 2⟩;
      let r := s.resolve f.mem;
      let x := r.access 4 4 4 true true;
      rmwForm (.cmpswapWOff 4 0 2) = some f ∧ (Instr.cmpswapWOff 4 0 2).wellFormed = true ∧ s.mayWrite r.target = true ∧
        s.check x = .go ∧ s.kindOf x.addrs = some .ram) ∧
      (let x := (start.resolve (.abs 0x34010)).access 1 1 1 true true;
        start.check x = .go ∧ start.kindOf [(absoluteEa 0x34010).toNat] = some .ram) := by decide +kernel

/-- A load at an odd address, one of a guest that level 2 denies, and one that the bus answers with an error; ST.T where
nothing is. -/
theorem test_witness_failed_accesses_trap :
    let s := addr 2 0xD0000001 start
    let g := addr 2 0xD0000000 guestRuns
    let n := addr 2 0x90000000 smallMemory
    let f : MemForm := ⟨4, .off 2 0, 4, 2, .d 4, false⟩
    loadForm (.ldWOff 4 2 0) = some f ∧ (Instr.ldWOff 4 2 0).wellFormed = true ∧ s.mayWrite f.place.addrRegs = true ∧
      g.mayWrite f.place.addrRegs = true ∧ s.mayWrite (s.resolve f.mem).target = true ∧
      s.check ((s.resolve f.mem).access 4 2 4 true false) = .trap 2 4 ∧
      g.check ((g.resolve f.mem).access 4 2 4 true false) = .hv 2 0 ∧
      n.check ((n.resolve f.mem).access 4 2 4 true false) = .trap 4 2 ∧
      n.check ((n.resolve (.abs 0x24000)).access 1 1 1 true true) = .trap 4 2 := by decide +kernel

/-- A fast call at an odd stack and of a guest, a fast return where nothing is, a context at an address that is no
multiple of 64. -/
theorem test_witness_failed_accesses_of_calls :
    let s := addr 10 0xD0000005 (addr 4 0xD0000020 start)
    let g := addr 10 0xD0000004 guestRuns
    let n := addr 10 0x90000000 smallMemory
    (fastCallForm s (.fcalli 2)).isSome = true ∧ s.check (s.stackAccess (s.getA 10 - 4) false true) = .trap 2 4 ∧
      g.check (g.stackAccess (g.getA 10 - 4) false true) = .hv 2 1 ∧
      n.check (n.stackAccess (n.getA 10) true false) = .trap 4 2 ∧
      (contextStoreForm s (.stlcxOff 4 0)).map Prod.fst = some (.off 4 0) ∧
      s.check (s.contextAccess (.off 4 0) false true) = .trap 2 4 ∧
      contextLoadForm (.lducxOff 4 0) = some (.off 4 0, true) ∧
      s.check (s.contextAccess (.off 4 0) true false) = .trap 2 4 := by decide +kernel

/-- A cache instruction on the first byte behind a range that may be read, and on one that may be read alone. -/
theorem test_witness_failed_cache_accesses :
    let s := addr 2 0xD0001000 (addr 3 0xD0000000 protectedTask)
    cacheForm (.cacheiWOff 2 0) = some (.off 2 0, true) ∧ cacheForm (.cacheaIPost 3 4) = some (.post 3 4, false) ∧
      s.supervisor = true ∧ s.mayWrite (s.resolve (.off 2 0)).target = true ∧
      s.mayWrite (s.resolve (.post 3 4)).target = true ∧ s.l1Read (s.resolve (.off 2 0)).ea = false ∧
      s.l1Read (s.resolve (.post 3 4)).ea = true ∧ s.l1Write (s.resolve (.post 3 4)).ea = false := by decide +kernel

/-- A plain access of `n` bytes. -/
def access (a : Word) (n : Nat) (loads stores : Bool) : Access := ⟨a, n, none, none, n, n, loads, stores⟩

/-- The address of an access is in its place. -/
def placed (s : State) (x : Access) : Bool := decide (s.Placed x)

/-- The address of an access is aligned. -/
def aligned (s : State) (x : Access) : Bool := decide (s.Aligned x)

/-- The access is to peripheral space and the mode may not make it. -/
def closed (s : State) (x : Access) : Bool :=
  decide (s.InPeripheral (Machine.segment x.ea) .data ∧
    (pswIo (s.ctl .psw .periphery) = 0 ∨ pswIo (s.ctl .psw .periphery) = 3))

/-- The address of an access meets no trap of its own. -/
def addressOk (s : State) (x : Access) : Bool := placed s x && aligned s x && x.ea != 0 && !closed s x

/-- The protection check `f` lets an access pass. -/
def passes (s : State) (x : Access) (f : Word → Bool) : Bool := (s.checkedBytes x).all f

/-- MEM: at the end of a segment, away from the base's, a circular access to peripheral space, the core's own image.
ALN: in ordinary memory, in peripheral space, an index at the end of its buffer. MPN. MPP in User-0 and in the reserved
mode. -/
theorem test_witness_access_traps_in_order :
    let x := access 0xD0000010 4 true false
    let p := access 0xF0000010 4 true false
    let c := { x with circ := some (0xD0000010, 16, 16) }
    (placed start (access 0xDFFFFFFE 4 true false) = false ∧ placed start { x with base := some 0xC0000010 } = false ∧
      placed start { p with circ := some (0xF0000010, 0, 16) } = false ∧
      placed start { x with ea := start.cfg.csfrBaseA + 0xFE00 } = false) ∧
      (placed start { x with ea := 0xD0000012 } = true ∧ aligned start { x with ea := 0xD0000012 } = false) ∧
      (placed start { p with ea := 0xF0000012, align := 2 } = true ∧
        aligned start { p with ea := 0xF0000012, align := 2 } = false) ∧
      (placed start c = true ∧ aligned start c = false) ∧
      (placed start { x with ea := 0 } = true ∧ aligned start { x with ea := 0 } = true) ∧
      (placed start p = true ∧ aligned start p = true) ∧
      (closed { start with psw := 0x380#32 } p = true ∧ closed { start with psw := 0xF80#32 } p = true) := by
  decide +kernel

/-- MPR for the last byte alone, MPW below a lower bound, for an access that also reads too. -/
theorem test_witness_access_traps_of_level_1 :
    let s := protectedTask
    let x : Access := ⟨0xD0000FFE, 4, none, none, 2, 4, true, false⟩
    let y := access 0xD00007FC 4 false true
    let z := access 0xD00007FC 4 true true
    addressOk s x = true ∧ s.l1Read (x.addr 0) = true ∧ passes s x s.l1Read = false ∧
      addressOk s y = true ∧ passes s y s.l1Write = false ∧
      addressOk s z = true ∧ passes s z s.l1Read = true ∧ passes s z s.l1Write = false := by decide +kernel

/-- Level 2, for a guest without any range and one that may only read; DSE at the first word that nothing is behind, and
no trap at the word before. -/
theorem test_witness_access_traps_of_level_2 :
    let x := access 0xD0000000 4 true true
    let g := guestRuns
    let r := rep .hv (.dprU 0) 0xD0001000 (rep .hv (.dprL 0) 0xD0000000 (rep .hv (.dpre 0) 1 guestRuns))
    let s := smallMemory
    let y := access 0x90000000 4 true false
    let z := access 0x8FFFFFFC 4 true true
    addressOk g x = true ∧ passes g x g.l1Read = true ∧ passes g x g.l1Write = true ∧ passes g x g.l2Read = false ∧
      addressOk r x = true ∧ passes r x r.l1Read = true ∧ passes r x r.l1Write = true ∧ passes r x r.l2Read = true ∧
      passes r x r.l2Write = false ∧
      addressOk s y = true ∧ passes s y s.l1Read = true ∧ passes s y s.l2Read = true ∧ s.kindOf y.addrs = none ∧
      addressOk s z = true ∧ passes s z s.l1Write = true ∧ passes s z s.l2Write = true ∧
      s.kindOf z.addrs = some .ram := by decide +kernel

/-- The last byte of a range and the one behind it; a guest. -/
theorem test_witness_ranges_decide_access :
    let s := protectedTask
    s.window = [] ∧ s.debugMode = false ∧ bit (s.getRep s.res .corecon) 1 = true ∧
      s.InDataRange s.res (s.prsOf s.psw) .dpre 0xD0000FFF ∧ ¬ s.InDataRange s.res (s.prsOf s.psw) .dpre 0xD0001000 ∧
      s.InCodeRange s.res (s.prsOf s.psw) 0x80000000 ∧ guestRuns.window = [] ∧ guestRuns.guest = true := by decide +kernel

/-- One call below the maximum of the count. -/
theorem test_witness_calls :
    let s := { start with psw := 0xBBE#32 }
    callForm s (.call 0x10) = some (4, 0x80000020) ∧ s.window = [] ∧ s.saveCheck = .go ∧
      ¬ (cdcCounts s.psw = true ∧ cdcFull s.psw = true) := by decide +kernel

theorem test_witness_returns_from_calls_and_exceptions :
    (let s := linkedUpper;
      s.window = [] ∧ pcx s.pcxi ≠ 0 ∧ pcxiUl s.pcxi = true ∧ ¬ (cdcCounts s.psw = true ∧ cdcZero s.psw = true) ∧
        s.restoreCheck .upper = .go) ∧
      (let s := { linkedUpper with psw := 0xB80#32 };
        s.window = [] ∧ pcx s.pcxi ≠ 0 ∧ pcxiUl s.pcxi = true ∧ (cdcCounts s.psw = true → cdcZero s.psw = true) ∧
          s.restoreCheck .upper = .go) := by decide +kernel

/-- CDO with the count at its maximum of one call; CSU; CDU; NEST; CTYP of RET, RFE and RSLCX. -/
theorem test_witness_call_and_return_traps :
    (let s := { start with psw := 0xBFE#32 };
      callForm s (.call16 8) = some (2, 0x80000010) ∧ s.fcx ≠ 0 ∧ cdcCounts (s.ctl .psw .calls) = true ∧
        cdcFull (s.ctl .psw .calls) = true) ∧
      pcx start.link = 0 ∧
      (let s := { linkedUpper with psw := 0xB80#32 };
        pcx s.link ≠ 0 ∧ cdcCounts (s.ctl .psw .calls) = true ∧ cdcZero (s.ctl .psw .calls) = true) ∧
      (let s := linkedUpper;
        pcx s.link ≠ 0 ∧ cdcCounts (s.ctl .psw .calls) = true ∧ cdcZero (s.ctl .psw .calls) = false) ∧
      (let s := { linkedLower with psw := 0xB81#32 };
        pcx s.link ≠ 0 ∧ cdcCounts (s.ctl .psw .calls) = true ∧ cdcZero (s.ctl .psw .calls) = false ∧
          pcxiUl s.link = false) ∧
      (let s := linkedLower;
        pcx s.link ≠ 0 ∧ cdcCounts (s.ctl .psw .calls) = true ∧ cdcZero (s.ctl .psw .calls) = true ∧
          pcxiUl s.link = false) ∧
      (pcx linkedUpper.link ≠ 0 ∧ pcxiUl linkedUpper.link = true) := by decide +kernel

/-- RFH in the hypervisor: without a context, with a count that is not zero, with a lower context. -/
theorem test_witness_traps_of_return_from_hypervisor :
    let w := fun s : State => { s with vcon0Written := true }
    (let s := w start;
      s.cfg.hasVirt = true ∧ s.cvmn = 0 ∧ s.vcon0Written = true ∧ pcx s.link = 0) ∧
      (let s := w linkedUpper;
        s.cvmn = 0 ∧ s.vcon0Written = true ∧ pcx s.link ≠ 0 ∧ cdcCounts (s.ctl .psw .calls) = true ∧
          cdcZero (s.ctl .psw .calls) = false) ∧
      (let s := w linkedLower;
        s.cvmn = 0 ∧ s.vcon0Written = true ∧ pcx s.link ≠ 0 ∧ cdcZero (s.ctl .psw .calls) = true ∧
          pcxiUl s.link = false) := by decide +kernel

/-- A guest with a free list and a linked context that level 2 lets it neither read nor write, or only read. -/
theorem test_witness_guest_contexts :
    let g := rep .a .fcx 0xD0008 { guestRuns with pcxi := 0x1D000A#32 }
    let r := rep .hv (.dprU 0) 0xD0001000 (rep .hv (.dprL 0) 0xD0000000 (rep .hv (.dpre 0) 1 g))
    g.fcx ≠ 0 ∧ g.DeniesCsa g.fcx 0 ∧ r.fcx ≠ 0 ∧ r.DeniesCsa r.fcx 1 ∧ callForm g (.call 2) = some (4, 0x80000004) ∧
      g.supervisor = true ∧ ¬ (cdcCounts (g.ctl .psw .calls) = true ∧ cdcFull (g.ctl .psw .calls) = true) ∧
      pcx g.link ≠ 0 ∧ g.DeniesCsa (pcx g.link) 0 ∧ pcxiUl g.link = true ∧
      cdcCounts (g.ctl .psw .calls) = true ∧ cdcZero (g.ctl .psw .calls) = true ∧
      (let u := { g with psw := 0xB81#32, pcxi := 0x0D000A#32 };
        cdcZero (u.ctl .psw .calls) = false ∧ pcx u.link ≠ 0 ∧ u.DeniesCsa (pcx u.link) 0 ∧ pcxiUl u.link = false) := by
  decide +kernel

/-- The state of trap_entry and of interrupt_entry. -/
theorem test_witness_entries : start.window = [] ∧ start.saveCheck = .go := by decide +kernel

theorem test_witness_lower_context_operations :
    (start.window = [] ∧ start.supervisor = true ∧ start.saveCheck = .go ∧
      (0x20 : Byte) = (0x120 : BitVec 9).setWidth 8) ∧
      (let s := linkedLower;
        s.window = [] ∧ pcx s.pcxi ≠ 0 ∧ pcxiUl s.pcxi = false ∧ s.restoreCheck .lower = .go) := by decide +kernel

theorem test_witness_save_then_restore_is_the_identity :
    callForm start (.calli 2) = some (4, 0) ∧ start.window = [] ∧ start.pswUndef = false ∧ start.saveCheck = .go ∧
      cdcCounts start.psw = true ∧ cdcFull start.psw = false ∧ start.pc.getLsbD 0 = false ∧ 4 % 2 = 0 ∧
      (field start.psw 15 1 = 0 ∨ 4 < start.cfg.nPrs) := by decide +kernel

theorem test_witness_fast_calls_and_returns :
    let s := addr 10 0xD0000800 start
    fastCallForm s (.fcall 4) = some 0x80000008 ∧
      (let x := s.stackAccess (s.getA 10 - 4) false true;
        s.check x = .go ∧ s.kindOf x.addrs = some .ram) ∧
      (let x := s.stackAccess (s.getA 10) true false;
        s.check x = .go ∧ s.kindOf x.addrs = some .ram) := by decide +kernel

theorem test_witness_stores_and_loads_of_contexts :
    let s := addr 4 0xD0000400 start
    (∃ m ws, contextStoreForm s (.stlcxOff 4 0) = some (m, ws) ∧
      (let x := s.contextAccess m false true;
        s.check x = .go ∧ s.kindOf x.addrs = some .ram)) ∧
      (∃ m, contextLoadForm (.lducxOff 4 0) = some (m, true) ∧
        (let x := s.contextAccess m true false;
          s.check x = .go ∧ s.kindOf x.addrs = some .ram)) :=
  ⟨⟨_, _, rfl, by decide +kernel⟩, ⟨_, rfl, by decide +kernel⟩⟩

theorem test_witness_no_operations :
    start.debugOn = false ∧ debugging.debugOn = true ∧ bit (debugging.dbg .swevt) 0 = false := by decide +kernel

theorem test_witness_interrupt_enable :
    start.mayChangeIe = true ∧ { start with psw := 0x780#32 }.mayChangeIe = true := by decide +kernel

theorem test_witness_privileged_instructions :
    let u0 := { start with psw := 0x380#32 }
    let u1 := { start with psw := 0x780#32 }
    let u1d := rep .hv .corecon 0x10000 u1
    u0.io = 0 ∧ (u1d.io = 1 ∧ bit (u1d.ctl (.rep .corecon) .priv) 16 = true) ∧
      (u1.supervisor = false ∧ u1.NoMoveEvent 0xFE20 ∧ cacheForm (.cacheiWOff 2 0) = some (.off 2 0, true)) ∧
      guestRuns.cfg.hasVirt = true ∧ guestRuns.cvmn ≠ 0 := by decide +kernel

theorem test_witness_overflow_and_invalid_traps :
    bit ({ start with psw := 0x60000B80#32 } : State).psw 30 = true ∧
      bit ({ start with psw := 0x60000B80#32 } : State).psw 29 = true ∧ bit start.psw 30 = false ∧
      bit start.psw 29 = false := by decide +kernel

/-- TRIG_ACC; the pair FE28H and FE2CH (ISP, ICR); from the hypervisor BIV of HRA and A[0] of HRB. -/
theorem test_witness_reads_of_core_registers :
    start.NoMoveEvent 0xFD30 ∧ start.cvmn = 0 ∧ start.GuestReads 0xFD30 ∧
      csfrOffset start.cfg (.sys .trigAcc) = some 0xFD30 ∧ csfrOffset start.cfg (.rep .isp) = some 0xFE28 ∧
      csfrOffset start.cfg .icr = some 0xFE2C ∧ (0xFE28 : BitVec 16).getLsbD 2 = false ∧
      (let s := sysw .vcon0 1 start;
        s.virtOn = true ∧ s.res = .hv ∧ (0xFE21 : BitVec 16).extractLsb' 0 2 = 1 ∧
          csfrOffset s.cfg (.rep .biv) = some 0xFE20 ∧ (0xFF82 : BitVec 16).extractLsb' 0 2 = 2 ∧
          globalOffset 0 = ((0xFF82 : BitVec 16) &&& 0xFFFC#16).toNat) := by decide +kernel

/-- Debug on without an event of a move, with it at both ends of the debug registers, and with it where it has acted. -/
theorem test_no_move_event :
    let s := sysw .crevt 1 debugging
    debugging.debugOn = true ∧ debugging.NoMoveEvent 0xFE20 ∧ s.NoMoveEvent 0xF000 ∧ s.NoMoveEvent 0xFDFC ∧
      ¬ s.NoMoveEvent 0xEFFC ∧ ¬ s.NoMoveEvent 0xFE00 ∧ { s with evt := true }.NoMoveEvent 0xFE00 := by decide +kernel

/-- A guest's read of BIV; the pair 9000H and 9004H, of which only DCON2 exists. -/
theorem test_witness_reads_of_a_guest_and_of_half_a_pair :
    (guestRuns.guest = true ∧ guestRuns.NoMoveEvent 0xFE20 ∧ hyperOffset 0xFE20 = false ∧ guestRuns.GuestReads 0xFE20) ∧
      ({ start with cfg := { start.cfg with halfPairOpd := false } } : State).cfg.halfPairOpd = false ∧
      csfrOffset start.cfg (.rep .dcon2) = some 0x9000 ∧
      (start.moveReg 0x9000 0x9004).isNone = true := by decide +kernel

/-- BIV and BTV, a pair. -/
theorem test_witness_writes_of_core_registers :
    let s := data 2 0x80002000 (data 3 0x80000100 start)
    s.guest = false ∧ s.GuestWrites 0xFE20 ∧ s.GuestWrites 0xFE24 ∧ s.NoMoveEvent 0xFE20 ∧ s.supervisor = true ∧
      s.moveReg 0xFE20 (0xFE20 : BitVec 16).toNat = some (.rep .biv) ∧ hyperOffset (0xFE20 : BitVec 16).toNat = false ∧
      plainWrite .biv = true ∧ s.closed (.rep .biv) = false ∧ (RepReg.biv.layout s.cfg).reserved &&& s.getD 2 = 0 ∧
      (0xFE20 : BitVec 16).extractLsb' 0 3 = 0 ∧ (0xFE20 : BitVec 16).extractLsb' 0 2 = 0 ∧
      s.moveReg 0xFE20 ((0xFE20 : BitVec 16).toNat + 4) = some (.rep .btv) ∧ RepReg.biv ≠ .btv ∧
      plainWrite .btv = true ∧ s.closed (.rep .btv) = false ∧
      (RepReg.btv.layout s.cfg).reserved &&& s.getD (2 + 1) = 0 := by decide +kernel

/-- A guest in Supervisor mode: BIV and BTV of its resource, and PSW; not a debug register, not VCON2. -/
theorem test_witness_writes_of_a_guest :
    let s := data 2 0x80002000 (data 3 0x80000100 { guestRuns with endinitOpen := true })
    (s.guest = true ∧ s.res ≠ .hv ∧ s.NoMoveEvent 0xFE20 ∧ s.NoMoveEvent 0xFE04 ∧ s.supervisor = true) ∧
      ((∀ o ∈ [0xFE20, 0xFE24, 0xFE04], s.GuestWrites o ∧ hyperOffset o = false) ∧ ¬ s.GuestWrites 0xFD00 ∧
        ¬ s.GuestWrites 0xB008) ∧
      (s.moveReg 0xFE20 0xFE20 = some (.rep .biv) ∧ s.moveReg 0xFE20 0xFE24 = some (.rep .btv) ∧
        s.moveReg 0xFE04 0xFE04 = some .psw) ∧
      (s.closed (.rep .biv) = false ∧ s.closed (.rep .btv) = false ∧ s.closed .psw = false) ∧
      ((RepReg.biv.layout s.cfg).reserved &&& s.getD 2 = 0 ∧ (RepReg.btv.layout s.cfg).reserved &&& s.getD 3 = 0) ∧
      s.reservedHit .psw (s.getD 2) = false ∧ (specialWrite s (s.getD 2) (s.raw s.res .psw) .psw).isSome = true := by
  decide +kernel

/-- From the hypervisor: BIV of HRA, and DSTR of HRB, which software else does not write. -/
theorem test_witness_writes_of_core_registers_override :
    let s := data 2 0x80002000 (sysw .vcon0 1 start)
    s.guest = false ∧ s.GuestWrites 0xFE21 ∧ s.NoMoveEvent 0xFE21 ∧ s.NoMoveEvent 0x9012 ∧ s.supervisor = true ∧ s.virtOn = true ∧ s.res = .hv ∧
      (∀ q ∈ [((0xFE21 : BitVec 16), RepReg.biv), (0x9012, .dstr)],
        hyperOffset q.1.toNat = false ∧ s.closed (.rep q.2) = false ∧ q.1.extractLsb' 0 2 ≠ 0 ∧ q.1.extractLsb' 0 2 ≠ 3 ∧
          s.moveReg q.1 (q.1 &&& 0xFFFC#16).toNat = some (.rep q.2) ∧
          (plainWrite q.2 = true ∨ statusReg q.2 = true) ∧ (q.2.layout s.cfg).reserved &&& s.getD 2 = 0) := by
  decide +kernel

/-- PSW; a timer; TPS_CON; a counter; VCON0; DBGSR; BOOTCON; ICR; a register that hardware writes; DBGCFG; CCON. -/
theorem test_witness_writes_of_special_registers :
    let s := data 2 4 start
    s.guest = false ∧ s.supervisor = true ∧ s.cvmn = 0 ∧
      ∀ q ∈ [((0xFE04 : BitVec 16), Csfr.psw), (0xE404, .rep (.tpsTimer 0)), (0xE400, .rep .tpsCon),
          (0xFC04, .rep .ccnt), (0xB000, .sys .vcon0), (0xFD00, .sys .dbgsr), (0xFE60, .sys .bootcon), (0xFE2C, .icr),
          (0x9018, .rep .datr), (0xFD4C, .sys .dbgcfg), (0xFE68, .sys .ccon)],
        let w := merge (s.layout q.2).reserved 0 4
        s.NoMoveEvent q.1 ∧ s.GuestWrites q.1.toNat ∧ q.1.extractLsb' 0 2 = 0 ∧ s.moveReg q.1 q.1.toNat = some q.2 ∧ s.closed q.2 = false ∧
          s.reservedHit q.2 w = false ∧ (specialWrite s w (s.raw s.res q.2) q.2).isSome = true := by decide +kernel

/-- Odd specifiers with and without the OPD trap; a selector, an alignment, an offset and a hypervisor's register that
are wrong; a guest's offset without a register and its write of VCON2; half a pair. -/
theorem test_witness_operand_traps :
    ((Instr.ldDOff 3 4 0).wellFormed = false ∧ start.cfg.hasOpdTrap = true ∧
      ({ start with cfg := { start.cfg with hasOpdTrap := false } } : State).cfg.hasOpdTrap = false) ∧
      (start.NoMoveEvent 0x0004 ∧ start.supervisor = true ∧ start.guest = false ∧ start.virtOn = false ∧
        (0xFE21 : BitVec 16).extractLsb' 0 2 ≠ 0 ∧ moveForm (.mfcr 1 0xFE21) = some (0xFE21, false, false) ∧
        (moveForm (.mfdcr 2 0xFE24) = some (0xFE24, true, false) ∧ (0xFE24 : BitVec 16).getLsbD 2 = true) ∧
        (moveForm (.mtcr 0x0004 1) = some (0x0004, false, true) ∧ (start.moveReg 0x0004 0x0004).isNone = true)) ∧
      (let s := sysw .vcon0 1 start;
        s.virtOn = true ∧ s.res = .hv ∧ (0xFE23 : BitVec 16).extractLsb' 0 2 = 3) ∧
      (let s := sysw .vcon1 1 start;
        s.guest = false ∧ s.cvmn ≠ 0 ∧ hyperOffset 0xB008 = true) ∧
      (guestRuns.guest = true ∧ guestRuns.supervisor = true ∧ guestRuns.NoMoveEvent 0xB008 ∧
        (guestRuns.moveReg 0x0004 0x0004).isNone = true ∧ guestRuns.hvOwned 0xB008 true = true) ∧
      (let s := { start with cfg := { start.cfg with halfPairOpd := true } };
        s.cfg.halfPairOpd = true ∧ moveForm (.mfdcr 2 0x9000) = some (0x9000, true, false) ∧
          (s.moveReg 0x9000 0x9000).isSome = true ∧ (s.moveReg 0x9000 0x9004).isNone = true) := by decide +kernel

/-- BIV while ENDINIT is closed. -/
theorem test_witness_operand_traps_closed :
    let s := { start with endinitOpen := false }
    s.NoMoveEvent 0xFE20 ∧ s.supervisor = true ∧ s.GuestWrites 0xFE20 ∧ s.cvmn = 0 ∧
      s.moveReg 0xFE20 0xFE20 = some (.rep .biv) ∧ s.closed (.rep .biv) = true := by decide +kernel

theorem test_witness_cache_instructions :
    let s := addr 2 0xD0000000 start
    let r := s.resolve (.post 2 8)
    cacheForm (.cacheiWPost 2 8) = some (.post 2 8, true) ∧ s.supervisor = true ∧ s.mayWrite r.target = true ∧
      s.l1Read r.ea = true ∧ s.l1Write r.ea = true := by decide +kernel

theorem test_witness_return_from_monitor :
    start.supervisor = true ∧ start.debugMode = false ∧ debugging.supervisor = true ∧ debugging.debugMode = true ∧
      debugging.window = [] ∧
      debugging.kindOf (span (debugging.getSys .dcx &&& 0xFFFFFFC0#32).toNat 16) = some .ram := by decide +kernel

theorem test_witness_breakpoint_trap_entry :
    debugging.window = [] ∧
      debugging.kindOf (span (debugging.getSys .dcx &&& 0xFFFFFFC0#32).toNat 16) = some .ram := by decide +kernel

theorem test_witness_system_calls :
    ({ start with cfg := { start.cfg with hasVirt := false } } : State).cfg.hasVirt = false ∧ start.cfg.hasVirt = true ∧
      start.virtOn = false ∧ guestRuns.virtOn = true := by decide +kernel

/-- A trigger on the pc that halts the core in the place of the instruction. -/
theorem test_witness_trigger_event_unit :
    let s := sysw .dbgact 2 (sysw (.trEvt 3) 0x1009 (sysw (.trAdr 3) 0x80000000 debugging))
    s.window = [] ∧ s.debugMode = true ∧ s.schedule = [] ∧ s.halted = false ∧ s.fcdPending = false ∧
      s.request.isNone = true ∧ s.debugOn = true ∧ field (s.getSys .dbgact) 0 3 = 2 ∧ s.pcActive s.pc 3 = true ∧
      bit (s.getSys (.trEvt 3)) 0 = true ∧ bit (s.getSys (.trEvt 3)) 3 = true ∧
      (∀ m : Fin 8, m < 3 → s.pcActive s.pc m = true → bit (s.getSys (.trEvt m)) 0 = true →
        bit (s.getSys (.trEvt m)) 3 = false) := by decide +kernel

/-- Triggers that break after the instruction: two on its pc, and one on the address of its load; none of them for an
instruction whose event has acted. -/
theorem test_witness_triggers_after_an_instruction :
    let s := sysw (.trEvt 1) 0x1001 (sysw (.trAdr 1) 0x80000000 (sysw (.trEvt 4) 0x1001 (sysw (.trAdr 4) 0x80000000
      debugging)))
    let u := addr 2 0xD0000100 (sysw (.trEvt 6) 0x10000001 (sysw (.trAdr 6) 0xD0000104 debugging))
    (s.window = [] ∧ s.debugOn = true ∧ s.evt = false ∧ s.fcdPending = false ∧ s.entered = false ∧
        s.pcActive s.pc 1 = true ∧ bit (s.getSys (.trEvt 1)) 0 = true ∧ bit (s.getSys (.trEvt 1)) 3 = false ∧
        s.pcActive s.pc 0 = false) ∧
      (u.window = [] ∧ u.debugOn = true ∧ u.touchActive (.ldWOff 1 2 4) 6 = true ∧
        bit (u.getSys (.trEvt 6)) 0 = true ∧ (∀ m, u.pcActive u.pc m = false) ∧
        (∀ m, m < 6 → u.touchActive (.ldWOff 1 2 4) m = false)) := by decide +kernel

-- R631: the load completes, and the core halts at the next instruction.
theorem test_trigger_after_a_load :
    let s := addr 2 0xD0000100 (sysw .dbgact 2 (sysw (.trEvt 6) 0x10000001 (sysw (.trAdr 6) 0xD0000104
      (word 0xD0000104 7 debugging))))
    let t := s.begin.finish (.ldWOff 1 2 4) (after (exec (.ldWOff 1 2 4) s.begin))
    t.halted = true ∧ t.pc = 0x80000004 ∧ t.getD 1 = 7 ∧ field (t.getSys .dbgsr) 8 5 = (22 : BitVec 5) := by
  decide +kernel

/-- A range of two triggers: active at its first address and not at its last. -/
theorem test_trigger_range :
    let s := sysw (.trEvt 2) 0x10002001 (sysw (.trAdr 2) 0xD0000100 (sysw (.trAdr 3) 0xD0000104 debugging))
    s.dataActive true false 0xD0000100 2 = true ∧ s.dataActive true false 0xD0000104 2 = false ∧
      s.dataActive false true 0xD0000100 2 = false ∧ s.dataActive true false 0xD0000104 3 = false := by decide +kernel

theorem test_witness_hypervisor_entries :
    guestRuns.window = [] ∧ guestRuns.guest = true ∧ (guestRuns.setCvmn 0).saveCheck = .go := by decide +kernel

/-- With virtualization on, with it off again, and without it. -/
theorem test_witness_return_from_hypervisor :
    let on := sysw .vcon0 1 (sysw .vcon2 1 { linkedUpper with psw := 0xB80#32, vcon0Written := true })
    (∀ s ∈ [on, sysw .vcon0 0 on], s.window = [] ∧ s.cfg.hasVirt = true ∧ s.cvmn = 0 ∧ s.vcon0Written = true ∧
      pcx s.pcxi ≠ 0 ∧ pcxiUl s.pcxi = true ∧ (cdcCounts s.psw = true → cdcZero s.psw = true) ∧
      s.restoreCheck .upper = .go) ∧
      ({ start with cfg := { start.cfg with hasVirt := false } } : State).cfg.hasVirt = false := by decide +kernel

/-- PIPN one above CCPN; in a guest, HVINT for VM2 with PIPN one above its threshold, and, alone, the hypervisor's. -/
theorem test_witness_interrupt_is_taken :
    (let s := icr 0x00078006 start;
      s.window = [] ∧ s.schedule = [] ∧ s.halted = false ∧ s.fcdPending = false ∧ s.breakIn = false ∧
        s.asyncTrap.isNone = true ∧ s.guest = false ∧ s.request.isSome = true) ∧
      (let s := sysw (.vmPeThresh 2) 6 (sysw (.vmIcr 2) 0x00078006 guestRuns);
        s.window = [] ∧ s.schedule = [] ∧ s.halted = false ∧ s.fcdPending = false ∧ s.breakIn = false ∧
          s.asyncTrap.isNone = true ∧ s.guest = true ∧ s.cvmn = 1 ∧ s.candidates = [2]) ∧
      (let s := icr 0x00078006 guestRuns;
        s.guest = true ∧ s.candidates = [0] ∧ s.request.isSome = true) := by decide +kernel

/-- Level 2 permits the guest everything. -/
def permitted : State :=
  rep .hv (.dprU 0) 0xFFFFFFF8 (rep .hv (.dpre 0) 1 (rep .hv (.dpwe 0) 1 guestRuns))

/-- A CSA in a peripheral segment: of a guest whose level 2 permits it, and linked for RET, RFE, RFH and RSLCX. -/
theorem test_witness_unusable_contexts :
    let bad := fun (s : State) (ptr : BitVec 20) => ¬ s.DeniesCsa ptr 0 ∧ ¬ s.DeniesCsa ptr 1 ∧ s.csaUsable ptr = false
    (let s := rep .a .fcx 0xF0008 permitted;
      s.window = [] ∧ s.guest = true ∧ s.fcx ≠ 0 ∧ bad s s.fcx) ∧
      (let s := { start with pcxi := 0x1F0008#32, vcon0Written := true };
        s.window = [] ∧ pcx s.pcxi ≠ 0 ∧ bad s (pcx s.pcxi) ∧ pcxiUl s.pcxi = true ∧ s.cfg.hasVirt = true ∧
          s.cvmn = 0 ∧ cdcZero s.psw = true ∧ cdcCounts { s with psw := 0xBFF#32 }.psw = false) ∧
      (let s := { start with pcxi := 0x0F0008#32 };
        pcx s.pcxi ≠ 0 ∧ bad s (pcx s.pcxi) ∧ pcxiUl s.pcxi = false) := by decide +kernel

/-- An empty free list, one whose head lies in a peripheral segment, and a guest whose hypervisor's list is empty. -/
theorem test_witness_empty_free_list_takes_fcu :
    (let s := rep .hv .fcx 0 start;
      s.window = [] ∧ s.fcx = 0 ∧ callForm s (.call 0x10) = some (4, 0x80000020) ∧ s.supervisor = true ∧
        s.guest = false) ∧
      (let s := rep .hv .fcx 0xF0008 start;
        s.window = [] ∧ s.guest = false ∧ s.csaUsable s.fcx = false) ∧
      (let s := rep .hv .fcx 0 guestRuns;
        s.window = [] ∧ s.guest = true ∧ (s.setCvmn 0).fcx = 0) := by decide +kernel

/-- Every request alone and the ones before it absent; NMI for the hypervisor of a guest; FCD. -/
theorem test_witness_asynchronous_traps_in_order :
    bit (start.getRep start.res .tpsCon) 17 = false ∧ start.pendNmi = false ∧
      start.pendDae = false ∧ start.pendCae = false ∧ start.pendDie = none ∧
      (let s := rep .hv .tpsCon 0x20000 start;
        bit (s.getRep s.res .tpsCon) 17 = true) ∧
      (let s := { start with pendNmi := true, pendDae := true, pendCae := true, pendDie := some 0xD0000000#32 };
        s.pendNmi = true ∧ s.pendDae = true ∧ s.pendCae = true ∧ s.pendDie = some 0xD0000000#32 ∧ s.schedule = [] ∧
          s.halted = false ∧ s.fcdPending = false ∧ s.breakIn = false ∧ s.asyncTrap.isSome = true) ∧
      (let s := sysw .vcon0 3 { guestRuns with pendNmi := true };
        s.guest = true ∧ bit (s.eff .hv (.sys .vcon0) .irq) 1 = true ∧ s.pendNmi = true) ∧
      (let s := { start with fcdPending := true };
        s.schedule = [] ∧ s.halted = false ∧ s.fcdPending = true) := by decide +kernel

/-- A timer at its last cycle, and one with a cycle more; a counter that counts and will wrap. -/
theorem test_witness_timers_and_counters :
    (let s := rep .hv .corecon 4 (rep .hv (.tpsTimer 0) 1 (rep .hv (.tpsTimer 1) 2 start));
      bit (s.ctl (.rep .corecon) .count) 2 = true ∧ s.getRep s.res (.tpsTimer 0) = 1 ∧
        s.getRep s.res (.tpsTimer 1) = 2) ∧
      (let s := rep .hv .cctrl 2 (rep .hv .ccnt 0x7FFFFFFF start);
        s.window = [] ∧ s.counting s.res = true ∧ s.tick.getRep s.res .ccnt = 0x80000000) := by decide +kernel

/-- The largest finite numbers: their sum overflows. -/
def overflowing : State := data 1 0x7F7FFFFF (data 2 0x7F7FFFFF start)

theorem test_witness_floating_point :
    let s := overflowing
    let r := Precision.single.add s.rm (s.fD 1) (s.fD 2)
    (fpuForm s (.addF 3 1 2)).map FpuForm.result = some r ∧ (Instr.addF 3 1 2).wellFormed = true ∧
      s.fpuPresent false = true ∧ s.fpuSyncDue r = false ∧ s.fpuAsyncDue r = false := by decide +kernel

/-- No unit; FI enabled as a synchronous, FV as an asynchronous exception. -/
theorem test_witness_floating_point_traps :
    let none := { overflowing with cfg := { overflowing.cfg with hasSpFpu := false } }
    let sync := rep .hv .fpuSyncCon 0x00400000 (data 1 0x7F800000 (data 2 0xFF800000 start))
    let async := rep .hv .fpuTrapCon 0x00200000 overflowing
    none.fpuPresent false = false ∧ sync.fpuPresent false = true ∧
      sync.fpuSyncDue (Precision.single.add sync.rm (sync.fD 1) (sync.fD 2)) = true ∧
      (let r := Precision.single.add async.rm (async.fD 1) (async.fD 2);
        async.fpuSyncDue r = false ∧ async.fpuAsyncDue r = true) := by decide +kernel

theorem test_witness_floating_point_traps_of_updfl :
    let due := raisedFlags
    let sync := rep .hv .fpuSyncCon 0x00400000 (data 1 0x4040 start)
    let async := rep .hv .fpuTrapCon 0x00200000 (data 1 0x2020 start)
    sync.fpuPresent false = true ∧ sync.fpuSyncDue (due (sync.getD 1)) = true ∧
      async.fpuSyncDue (due (async.getD 1)) = false ∧ async.fpuAsyncDue (due (async.getD 1)) = true := by decide +kernel

theorem test_witness_floating_point_updfl :
    let s := data 1 0x7C7C start
    let due := raisedFlags (s.getD 1)
    s.fpuPresent false = true ∧ s.fpuSyncDue due = false ∧ s.fpuAsyncDue due = false := by decide +kernel

/-- A NaN in each place, the addend alone too. -/
theorem test_witness_nan_operands :
    (Precision.single.fmt.isNan 0x7FA00000 || Precision.single.fmt.isNan 0x3F800000) = true ∧
      (Precision.double.fmt.isNan 0 || Precision.double.fmt.isNan 0x7FF8000000000000) = true ∧
      Precision.single.fmt.isNan 0xFF800001 = true ∧ Precision.single.fmt.isNan 0x3F800000 = false := by decide +kernel

/-- No overflow, inexact; an overflow; below the smallest normal number of each precision. -/
theorem test_witness_rounding :
    (Precision.single.round 2 ⟨true, 0, 1⟩).value = 0x80000000 ∧
      (FloatFmt.single.round 0 ⟨false, 1, 3⟩).fv = false ∧ (FloatFmt.single.round 2 ⟨true, 2 ^ 128, 1⟩).fv = true ∧
      (Precision.single.round 0 ⟨false, 1, 2 ^ 127⟩).fu = true ∧
      (Precision.double.round 0 ⟨true, 1, 3 * 2 ^ 1030⟩).fu = true := by decide +kernel

/-- Finite operands, the quotient of a number and of a zero by a zero, infinities of both signs, a zero times an
infinity, an infinity times a number with an infinite addend. -/
theorem test_witness_float_arithmetic :
    let f := FloatFmt.single
    let p := Precision.single
    (∀ x ∈ [0x3F800000, 0x7F7FFFFF, 0x80000000, 1], f.exp x ≠ f.top ∧ x < 2 ^ 32 ∧ f.isNan x = false) ∧
      (f.isZero (p.ftz 0x80000000) = true ∧ f.isZero (p.ftz 1) = true ∧ f.isZero (p.ftz 0x3F800000) = false) ∧
      (f.isInf 0x7F800000 = true ∧ f.isInf 0xFF800000 = true ∧ f.neg 0x7F800000 = false ∧ f.neg 0xFF800000 = true ∧
        f.isNan 0x7F800000 = false ∧ f.isNan 0xFF800000 = false) := by decide +kernel

/-- A subnormal number below a normal one, two zeros of different signs, both infinities, a NaN; the seeds' cases. -/
theorem test_witness_comparisons_and_seeds :
    let f := FloatFmt.single
    let p := Precision.single
    (∀ x ∈ [1, 0x3F800000, 0x80000000, 0, 0x7F800000, 0xFF800000], x < 2 * 2 ^ (f.expBits + f.fracBits) ∧ f.isNan x = false) ∧
      f.isNan 0x7FC00000 = true ∧ f.isZero (p.ftz 1) = true ∧ f.isZero (p.ftz 0xFF800000) = false ∧
      f.isInf 0x7F800000 = true ∧ f.isZero (p.ftz 0x3F800000) = false ∧ f.isInf 0x3F800000 = false := by decide +kernel

-- R570, R574, R576, R581, R587, R588: the examples of the rules and hand calculation from them.
theorem test_comparisons_and_conversions :
    (Precision.single.cmp 0x3F800000 0x40000000).value = 1 ∧ (Precision.single.cmp 1 0).value = 0x14 ∧
      (Precision.single.min 0 0x80000000).value = 0x80000000 ∧ (Precision.single.max 0x80000000 0).value = 0 ∧
      Precision.single.toI32 0 0x40200000 = { value := 2, fx := true } ∧
      Precision.single.toU32 0 0xBF800000 = { value := 0, fi := true } ∧
      halfToSingle 1 = { value := 0x33800000 } ∧ singleToHalf 0 0x3F800000 = { value := 0x3C00 } ∧
      singleToHalf 0 0x477FF000 = { value := 0x7FE0, fi := true } := by decide +kernel

/-- The largest and the least datum of half precision, a NaN and an infinity of each format. -/
theorem test_witness_float_conversions :
    let h := FloatFmt.half
    let f := FloatFmt.single
    (∀ x ∈ [0x7BFF, 1, 0x8000], x < 2 ^ 16 ∧ h.exp x ≠ h.top) ∧ h.isNan 0x7E00 = true ∧ h.isInf 0xFC00 = true ∧
      (∀ x ∈ [0x477FE000, 0x477FF000, 0x33000000], x < 2 ^ 32 ∧ f.exp x ≠ f.top) ∧ f.isNan 0x7FA00000 = true ∧
      f.isInf 0xFF800000 = true := by decide +kernel

end Sys2Proof.Tests
end

section
/-! PROOFS. Reset (10_state R109, 70_reset R930 to R933): what the banks of registers hold, and the invariant. -/

namespace Sys2Proof.Machine

/-! ## Reset (10_state R109, 70_reset R930 to R932) -/

/-- The replicated registers after reset: PMA0 to PMA2 have a value of their own, every other one is 0. -/
theorem State.getRep_resetWith (c : Config) (r : Resource) (x : RepReg) : (State.resetWith c).getRep r x =
    if x = .pma2 then 0xC000 else if x = .pma1 ∨ x = .pma0 then 0x300 else 0 := by
  have hr : (State.resetWith c).hr r = HrSet.reset := by cases r <;> rfl
  have hne : ∀ y : RepReg, x ≠ y → y.index.val ≠ x.index.val :=
    fun y h e => h (RepReg.index_injective x y (Fin.ext e.symm))
  unfold State.getRep
  rw [hr, vector_get]
  by_cases h2 : x = .pma2
  · subst h2; simp [HrSet.reset]
  · by_cases h1 : x = .pma1
    · subst h1; rfl
    · by_cases h0 : x = .pma0
      · subst h0; rfl
      · simp [HrSet.reset, h2, h1, h0, hne]

/-- The single-copy registers after reset: five have a value of their own, every other one is 0. -/
theorem State.getSys_resetWith (c : Config) (x : SysReg) : (State.resetWith c).getSys x =
    match x with
    | .bootcon => if c.bootHalt then 1 else 0
    | .dbgsr => if c.bootHalt then 2 else 0
    | .dms => 0xA0000200 + (c.coreId.setWidth 32 <<< 6)
    | .dcx => 0xA0000400 + (c.coreId.setWidth 32 <<< 6)
    | .dbgtcr => 1
    | _ => 0 := by
  have h : (State.resetWith c).getSys x = (State.resetSys c)[x.index.val] := rfl
  rw [h]
  cases x with
  | dbgsr => cases hb : c.bootHalt <;> simp [State.resetSys, SysReg.index, hb]
  | vmIcr n | vmPeThresh n | trEvt n | trAdr n =>
    simp (disch := omega) only [State.resetSys, SysReg.index, Vector.getElem_set_ne, Vector.getElem_replicate]
  | _ => simp [State.resetSys, SysReg.index]

theorem State.cvmn_resetWith (c : Config) : (State.resetWith c).cvmn = 0 := by
  simp [State.cvmn, State.getSys_resetWith, field]

theorem State.raw_icr_resetWith (c : Config) (r : Resource) : (State.resetWith c).raw r .icr = 0 :=
  State.getSys_resetWith c (icrOf _)

/-- The core leaves reset in Supervisor mode (10_state R109). -/
theorem State.supervisor_resetWith (c : Config) : (State.resetWith c).supervisor = true := by
  have h : (State.resetWith c).ctl .psw .priv = 0xB80 := State.ctl_of_window_nil _ rfl _ _
  simp only [State.supervisor, State.io, h]
  decide

/-- BOOT_HALT is what BOOTCON.BHALT reads as, and it halts the core (70_reset R932). -/
theorem State.bootHalt_resetWith (c : Config) :
    bit ((State.resetWith c).getSys .bootcon) 0 = c.bootHalt ∧ (State.resetWith c).halted = c.bootHalt := by
  simp only [State.halted, State.debugMode, State.getSys_resetWith]
  cases c.bootHalt <;> decide

/-- No asynchronous trap is due after reset: the core holds no request, and TPS_CON.TPEND is 0. -/
theorem State.asyncTrap_resetWith (c : Config) : (State.resetWith c).asyncTrap = none := by
  have h : bit ((State.resetWith c).getRep (State.resetWith c).res .tpsCon) 17 = false := by
    rw [State.getRep_resetWith]
    rfl
  rw [State.asyncTrap, h]
  rfl

/-- Settles O7: the two banks of registers after reset, and the plain fields. -/
theorem resetValues : Obligations.reset_values := by
  intro c
  have hsys := State.getSys_resetWith c
  obtain ⟨hboot, hhalted⟩ := State.bootHalt_resetWith c
  refine ⟨rfl, rfl, State.supervisor_resetWith c, State.raw_icr_resetWith c _, rfl, fun r => ?_, fun n => ?_, ?_⟩
  · simp [State.getRep_resetWith]
  · exact ⟨hsys (.vmIcr n), hsys (.vmPeThresh n), hsys (.trEvt n), hsys (.trAdr n)⟩
  · exact ⟨hsys .dbgsr, hsys .exevt, hsys .crevt, hsys .swevt, hsys .trccfg, hsys .trcflt, hsys .trclim, hsys .dbgact,
      hsys .trigAcc, hsys .dbgcfg, hsys .dbgtcr, hsys .dms, hsys .dcx, hboot, hhalted, rfl, State.cvmn_resetWith c,
      State.asyncTrap_resetWith c, rfl⟩

/-- Settles O8. -/
theorem resetHasTheInvariant : Obligations.reset_has_the_invariant := ⟨reset_memory_wf, rfl, rfl⟩
end Sys2Proof.Machine
end

section
/-! PROOFS. The map of the core registers and the moves that read them (10_state R105, 42_system_instructions R450 to R455,
46_virtualization R705, R706). -/

namespace Sys2Proof.Machine

/-! ## The map of the core registers (10_state R105) -/

/-- What a table gives at an offset stands in it. -/
theorem mem_of_lookup {t : List (Nat × Csfr)} {off : Nat} {x : Csfr} (h : lookup t off = some x) : (off, x) ∈ t := by
  obtain ⟨e, he, rfl⟩ := Option.map_eq_some_iff.mp h
  have hoff : e.1 = off := by simpa using List.find?_some he
  rw [← hoff]
  exact List.mem_of_find?_eq_some he

theorem csfrOffset_csfrTable (c : Config) : ∀ e ∈ csfrTable, csfrOffset c e.2 = some e.1 := by
  simp [csfrTable, csfrOffset]

theorem csfrOffset_fpuTable {c : Config} (h : c.hasSpFpu = true) :
    ∀ e ∈ fpuTable c.hasDpFpu, csfrOffset c e.2 = some e.1 := by
  cases hd : c.hasDpFpu <;> simp [fpuTable, csfrOffset, h, hd]

theorem csfrOffset_hyperTable {c : Config} (h : c.hasVirt = true) :
    ∀ e ∈ hyperTable, csfrOffset c e.2 = some e.1 := by
  simp [hyperTable, csfrOffset, h]

/-- The range registers from `base` on: the lower bound of range `n` at 8 bytes a range, its upper bound 4 above. -/
theorem rangeReg_eq_some_iff {count base off : Nat} {l u : Fin 32 → RepReg} {x : Csfr} (hb : base ≤ off)
    (h8 : base % 8 = 0) : rangeReg count base off l u = some x ↔
      ∃ n : Fin 32, n.val < count ∧
        ((off = base + 8 * n.val ∧ x = .rep (l n)) ∨ (off = base + 4 + 8 * n.val ∧ x = .rep (u n))) := by
  unfold rangeReg
  dsimp only
  constructor
  · intro h
    split at h
    · rename_i hc
      simp only [Option.some.injEq] at h
      subst h
      refine ⟨range32 ((off - base) / 8), by simp only [range32]; omega, ?_⟩
      split
      · exact .inl ⟨by simp only [range32]; omega, rfl⟩
      · exact .inr ⟨by simp only [range32]; omega, rfl⟩
    · cases h
  · rintro ⟨n, hn, ⟨rfl, rfl⟩ | ⟨rfl, rfl⟩⟩
    · have hr : range32 ((base + 8 * n.val - base) / 8) = n := Fin.ext (by simp only [range32]; omega)
      rw [hr, if_pos (by omega), if_pos (by omega)]
    · have hr : range32 ((base + 4 + 8 * n.val - base) / 8) = n := Fin.ext (by simp only [range32]; omega)
      rw [hr, if_pos (by omega), if_neg (by omega)]

/-- The trigger registers: TRnEVT at 8 bytes a trigger, TRnADR 4 above (45_debug R668, R669). -/
theorem trigReg_eq_some_iff {count off : Nat} {x : Csfr} (hb : 0xF000 ≤ off) : trigReg count off = some x ↔
    ∃ n : Fin 8, n.val < count ∧
      ((off = 0xF000 + 8 * n.val ∧ x = .sys (.trEvt n)) ∨ (off = 0xF004 + 8 * n.val ∧ x = .sys (.trAdr n))) := by
  unfold trigReg
  dsimp only
  constructor
  · intro h
    split at h
    · rename_i hc
      simp only [Option.some.injEq] at h
      subst h
      refine ⟨eighth ((off - 0xF000) / 8), by simp only [eighth]; omega, ?_⟩
      split
      · exact .inl ⟨by simp only [eighth]; omega, rfl⟩
      · exact .inr ⟨by simp only [eighth]; omega, rfl⟩
    · cases h
  · rintro ⟨n, hn, ⟨rfl, rfl⟩ | ⟨rfl, rfl⟩⟩
    · have hr : eighth ((0xF000 + 8 * n.val - 0xF000) / 8) = n := Fin.ext (by simp only [eighth]; omega)
      rw [hr, if_pos (by omega), if_pos (by omega)]
    · have hr : eighth ((0xF004 + 8 * n.val - 0xF000) / 8) = n := Fin.ext (by simp only [eighth]; omega)
      rw [hr, if_pos (by omega), if_neg (by omega)]

/-- Where the enable registers of set `n` stand: sets 0 to 3 from E000H on, sets 4 to 7 from E040H on. -/
def enableOffset (bank : Nat) (n : Fin 8) : Nat := (if n.val < 4 then 0xE000 else 0xE030) + 0x10 * bank + 4 * n.val

theorem enableReg_enableOffset (count : Nat) (n : Fin 8) :
    enableReg count (enableOffset 0 n) = (if n.val < count then some (.rep (.cpxe n)) else none) ∧
    enableReg count (enableOffset 1 n) = (if n.val < count then some (.rep (.dpre n)) else none) ∧
    enableReg count (enableOffset 2 n) = (if n.val < count then some (.rep (.dpwe n)) else none) := by
  unfold enableReg
  fin_cases n <;> exact ⟨by simp [enableOffset]; rfl, by simp [enableOffset]; rfl, by simp [enableOffset]; rfl⟩

/-- The enable registers (10_state R91 to R93). -/
theorem enableReg_eq_some_iff {count off : Nat} {x : Csfr} (hb : 0xE000 ≤ off) : enableReg count off = some x ↔
    ∃ n : Fin 8, n.val < count ∧ ((off = enableOffset 0 n ∧ x = .rep (.cpxe n)) ∨
      (off = enableOffset 1 n ∧ x = .rep (.dpre n)) ∨ (off = enableOffset 2 n ∧ x = .rep (.dpwe n))) := by
  constructor
  · intro h
    unfold enableReg at h
    dsimp only at h
    have hn : ∃ n : Fin 8, n.val = off % 0x10 / 4 + if 4 ≤ (off - 0xE000) / 0x10 then 4 else 0 :=
      ⟨⟨_, by split <;> omega⟩, rfl⟩
    obtain ⟨n, hn⟩ := hn
    have hx : eighth n.val = n := Fin.ext (Nat.mod_eq_of_lt n.isLt)
    rw [← hn, hx] at h
    split at h
    · rename_i hc
      have hlow : ∀ b, (off - 0xE000) / 0x10 = b → b < 3 → off = enableOffset b n := fun b hbank hb3 => by
        rw [hbank, if_neg (by omega)] at hn
        rw [enableOffset, if_pos (by omega)]
        omega
      have hhigh : ∀ b, (off - 0xE000) / 0x10 = b + 4 → off = enableOffset b n := fun b hbank => by
        rw [hbank, if_pos (by omega)] at hn
        rw [enableOffset, if_neg (by omega)]
        omega
      refine ⟨n, hc.2, ?_⟩
      split at h
      · exact .inl ⟨hlow 0 ‹_› (by omega), (Option.some.inj h).symm⟩
      · exact .inr (.inl ⟨hlow 1 ‹_› (by omega), (Option.some.inj h).symm⟩)
      · exact .inr (.inr ⟨hlow 2 ‹_› (by omega), (Option.some.inj h).symm⟩)
      · exact .inl ⟨hhigh 0 ‹_›, (Option.some.inj h).symm⟩
      · exact .inr (.inl ⟨hhigh 1 ‹_›, (Option.some.inj h).symm⟩)
      · exact .inr (.inr ⟨hhigh 2 ‹_›, (Option.some.inj h).symm⟩)
      · cases h
    · cases h
  · rintro ⟨n, hn, h⟩
    obtain ⟨h0, h1, h2⟩ := enableReg_enableOffset count n
    rcases h with ⟨rfl, rfl⟩ | ⟨rfl, rfl⟩ | ⟨rfl, rfl⟩
    · rw [h0, if_pos hn]
    · rw [h1, if_pos hn]
    · rw [h2, if_pos hn]

theorem csfrOffset_of_csfrAt {c : Config} {off : Nat} {x : Csfr} (h : csfrAt c off = some x) :
    csfrOffset c x = some off := by
  have htable : lookup csfrTable off = some x → csfrOffset c x = some off :=
    fun h => csfrOffset_csfrTable c _ (mem_of_lookup h)
  unfold csfrAt at h
  split at h
  · exact htable h
  split at h
  · cases hsp : c.hasSpFpu with
    | true =>
      rw [hsp, if_pos rfl] at h
      exact csfrOffset_fpuTable hsp _ (mem_of_lookup h)
    | false => simp [hsp] at h
  split at h
  · cases hv : c.hasVirt with
    | false => simp [hv] at h
    | true =>
      simp only [hv, Bool.not_true, Bool.false_eq_true, if_false] at h
      split at h
      · cases h
        simp [csfrOffset, hv, eighth]
        omega
      split at h
      · cases h
        simp [csfrOffset, hv, eighth]
        omega
      · exact csfrOffset_hyperTable hv _ (mem_of_lookup h)
  split at h
  · obtain ⟨n, hn, ⟨rfl, rfl⟩ | ⟨rfl, rfl⟩⟩ := (rangeReg_eq_some_iff (by omega) (by omega)).mp h
    · simp [csfrOffset, hn]
    · simp [csfrOffset, hn]
  split at h
  · obtain ⟨n, hn, ⟨rfl, rfl⟩ | ⟨rfl, rfl⟩⟩ := (rangeReg_eq_some_iff (by omega) (by omega)).mp h
    · simp [csfrOffset, hn]
    · simp [csfrOffset, hn]
  split at h
  · obtain ⟨n, hn, ⟨rfl, rfl⟩ | ⟨rfl, rfl⟩ | ⟨rfl, rfl⟩⟩ := (enableReg_eq_some_iff (by omega)).mp h
    · simp [csfrOffset, hn, enableOffset]
    · simp [csfrOffset, hn, enableOffset]; split <;> rfl
    · simp [csfrOffset, hn, enableOffset]; split <;> rfl
  split at h
  · exact htable h
  split at h
  · obtain ⟨n, hn, ⟨rfl, rfl⟩ | ⟨rfl, rfl⟩⟩ := (trigReg_eq_some_iff (by omega)).mp h
    · simp [csfrOffset, hn]
    · simp [csfrOffset, hn]
  · exact htable h

/-! Which part of the map an offset lies in. -/

theorem csfrAt_dataRange (c : Config) {off : Nat} (h : 0xC000 ≤ off) (h' : off < 0xD000) :
    csfrAt c off = rangeReg c.nDpr 0xC000 off .dprL .dprU := by
  simp (disch := omega) only [csfrAt, if_neg, if_pos]

theorem csfrAt_codeRange (c : Config) {off : Nat} (h : 0xD000 ≤ off) (h' : off < 0xE000) :
    csfrAt c off = rangeReg c.nCpr 0xD000 off .cprL .cprU := by
  simp (disch := omega) only [csfrAt, if_neg, if_pos]

theorem csfrAt_enable (c : Config) {off : Nat} (h : 0xE000 ≤ off) (h' : off < 0xE400) :
    csfrAt c off = enableReg c.nPrs off := by
  simp (disch := omega) only [csfrAt, if_neg, if_pos]

theorem csfrAt_trigger (c : Config) {off : Nat} (h : 0xF000 ≤ off) (h' : off < 0xFC00) :
    csfrAt c off = trigReg c.nTrig off := by
  simp (disch := omega) only [csfrAt, if_neg, if_pos]

/-- The enable registers of a set that exists stand where the table has them. -/
theorem csfrAt_enableOffset {c : Config} {n : Fin 8} (hn : n.val < c.nPrs) :
    csfrAt c (enableOffset 0 n) = some (.rep (.cpxe n)) ∧ csfrAt c (enableOffset 1 n) = some (.rep (.dpre n)) ∧
      csfrAt c (enableOffset 2 n) = some (.rep (.dpwe n)) := by
  have hb : ∀ b, b < 3 → 0xE000 ≤ enableOffset b n ∧ enableOffset b n < 0xE400 := fun b hb => by
    unfold enableOffset
    split <;> omega
  obtain ⟨h0, h1, h2⟩ := enableReg_enableOffset c.nPrs n
  refine ⟨?_, ?_, ?_⟩
  · rw [csfrAt_enable c (hb 0 (by omega)).1 (hb 0 (by omega)).2, h0, if_pos hn]
  · rw [csfrAt_enable c (hb 1 (by omega)).1 (hb 1 (by omega)).2, h1, if_pos hn]
  · rw [csfrAt_enable c (hb 2 (by omega)).1 (hb 2 (by omega)).2, h2, if_pos hn]

theorem csfrOffset_enable (c : Config) (n : Fin 8) :
    csfrOffset c (.rep (.cpxe n)) = (if n.val < c.nPrs then some (enableOffset 0 n) else none) ∧
    csfrOffset c (.rep (.dpre n)) = (if n.val < c.nPrs then some (enableOffset 1 n) else none) ∧
    csfrOffset c (.rep (.dpwe n)) = (if n.val < c.nPrs then some (enableOffset 2 n) else none) := by
  by_cases h : n.val < 4 <;> simp [csfrOffset, enableOffset, h]

theorem csfrAt_of_csfrOffset_rep {c : Config} {off : Nat} {x : RepReg} (h : csfrOffset c (.rep x) = some off) :
    csfrAt c off = some (.rep x) := by
  cases x with
  | dprL n | dprU n =>
    simp only [csfrOffset, Option.ite_none_right_eq_some, Option.some.injEq] at h
    obtain ⟨hn, rfl⟩ := h
    rw [csfrAt_dataRange c (by omega) (by omega), rangeReg_eq_some_iff (by omega) (by omega)]
    exact ⟨n, hn, by simp⟩
  | cprL n | cprU n =>
    simp only [csfrOffset, Option.ite_none_right_eq_some, Option.some.injEq] at h
    obtain ⟨hn, rfl⟩ := h
    rw [csfrAt_codeRange c (by omega) (by omega), rangeReg_eq_some_iff (by omega) (by omega)]
    exact ⟨n, hn, by simp⟩
  | cpxe n | dpre n | dpwe n =>
    simp only [csfrOffset_enable, Option.ite_none_right_eq_some, Option.some.injEq] at h
    obtain ⟨hn, rfl⟩ := h
    simp only [csfrAt_enableOffset hn]
  | tpsTimer n | mcnt n =>
    simp only [csfrOffset, Option.some.injEq] at h
    subst h
    fin_cases n <;> rfl
  | fpuTrapCon | fpuTrapOpc | fpuTrapPc | fpuSrc1L | fpuSrc2L | fpuSrc3L | fpuSrc1U | fpuSrc2U | fpuSrc3U | fpuSyncCon
    | fpuSyncOpc =>
    simp only [csfrOffset, Option.ite_none_right_eq_some, Option.some.injEq, Bool.and_eq_true] at h
    obtain ⟨hc, rfl⟩ := h
    simp [csfrAt, hc]
    rfl
  | _ =>
    simp only [csfrOffset, Option.some.injEq] at h
    subst h
    rfl

theorem csfrAt_of_csfrOffset_sys {c : Config} {off : Nat} {x : SysReg} (h : csfrOffset c (.sys x) = some off) :
    csfrAt c off = some (.sys x) := by
  cases x with
  | vcon0 | vcon1 | vcon2 | bhv =>
    simp only [csfrOffset, Option.ite_none_right_eq_some, Option.some.injEq] at h
    obtain ⟨hv, rfl⟩ := h
    simp [csfrAt, hv]
    rfl
  | vmIcr n | vmPeThresh n =>
    simp only [csfrOffset, Option.ite_none_right_eq_some, Option.some.injEq] at h
    obtain ⟨hv, rfl⟩ := h
    fin_cases n <;> simp [csfrAt, hv] <;> rfl
  | trEvt n | trAdr n =>
    simp only [csfrOffset, Option.ite_none_right_eq_some, Option.some.injEq] at h
    obtain ⟨hn, rfl⟩ := h
    rw [csfrAt_trigger c (by omega) (by omega), trigReg_eq_some_iff (by omega)]
    exact ⟨n, hn, by simp⟩
  | _ =>
    simp only [csfrOffset, Option.some.injEq] at h
    subst h
    rfl

/-- The map and the table of offsets say the same. -/
theorem csfrAt_eq_some_iff {c : Config} {off : Nat} {x : Csfr} : csfrAt c off = some x ↔ csfrOffset c x = some off := by
  refine ⟨csfrOffset_of_csfrAt, fun h => ?_⟩
  cases x with
  | rep x => exact csfrAt_of_csfrOffset_rep h
  | sys x => exact csfrAt_of_csfrOffset_sys h
  | ga n => cases h
  | _ =>
    simp only [csfrOffset, Option.some.injEq] at h
    subst h
    rfl

theorem globalAt_eq_some_iff {off : Nat} {n : Fin 4} : globalAt off = some n ↔ globalOffset n = off := by
  constructor
  · intro h
    unfold globalAt at h
    split at h
    · cases h; simp [globalOffset, *]
    split at h
    · cases h; simp [globalOffset, *]
    split at h
    · cases h; simp [globalOffset, *]
    split at h
    · cases h; simp [globalOffset, *]
    · cases h
  · rintro rfl
    fin_cases n <;> rfl

/-- No register of the map stands where a global address register does. -/
theorem csfrAt_globalOffset (c : Config) (n : Fin 4) : csfrAt c (globalOffset n) = none := by
  fin_cases n <;> rfl

/-! ## The register that a move addresses (46_virtualization R705, R706) -/

variable {s u : State}

/-- The selector of a move addresses resource `q`: none the current one, the hypervisor's 1 and 2 HRA and HRB. -/
def State.Selects (s : State) (off : BitVec 16) (q : Resource) : Prop :=
  (off.extractLsb' 0 2 = 0 ∧ q = s.res) ∨
    (s.virtOn = true ∧ s.res = .hv ∧
      ((off.extractLsb' 0 2 = 1 ∧ q = .a) ∨ (off.extractLsb' 0 2 = 2 ∧ q = .b)))

/-- Register `x` stands at offset `o` for a move with the selector of `off`. -/
def State.StandsAt (s : State) (off : BitVec 16) (o : Nat) (x : Csfr) : Prop :=
  csfrOffset s.cfg x = some o ∨ (off.extractLsb' 0 2 ≠ 0 ∧ ∃ n, x = .ga n ∧ globalOffset n = o)

theorem State.Selects.moveRes {off : BitVec 16} {q : Resource} (h : s.Selects off q) : s.moveRes off = q := by
  rcases h with ⟨h0, rfl⟩ | ⟨hv, hr, ⟨h1, rfl⟩ | ⟨h2, rfl⟩⟩
  · exact State.moveRes_aligned h0
  · simp [State.moveRes, hv, hr, h1]
  · simp [State.moveRes, hv, hr, h2]

/-- The selector of another resource is there in HRHV alone. -/
theorem State.Selects.selector_ne_zero {off : BitVec 16} {q : Resource} (h : s.Selects off q) :
    (s.virtOn && s.res == .hv && s.moveRes off != .hv) = true ↔ off.extractLsb' 0 2 ≠ 0 := by
  rw [h.moveRes]
  rcases h with ⟨h0, rfl⟩ | ⟨hv, hr, ⟨h1, rfl⟩ | ⟨h2, rfl⟩⟩
  · simp [h0]
  · simp [hv, hr, h1]
  · simp [hv, hr, h2]

theorem State.Selects.moveReg_eq_some_iff {off : BitVec 16} {q : Resource} (h : s.Selects off q) {o : Nat} {x : Csfr} :
    s.moveReg off o = some x ↔ s.StandsAt off o x := by
  unfold State.moveReg State.StandsAt
  cases hg : globalAt o with
  | none =>
    have hno : ¬ ∃ n, x = .ga n ∧ globalOffset n = o := by
      rintro ⟨n, -, hn⟩
      rw [globalAt_eq_some_iff.mpr hn] at hg
      cases hg
    simp [csfrAt_eq_some_iff, hno]
  | some n =>
    have hn := globalAt_eq_some_iff.mp hg
    have hno : csfrOffset s.cfg x ≠ some o := fun e => by
      rw [← csfrAt_eq_some_iff, ← hn, csfrAt_globalOffset] at e
      cases e
    have hm : ∀ m, globalOffset m = o ↔ m = n := fun m => by
      rw [← globalAt_eq_some_iff, hg, Option.some.injEq, eq_comm]
    simp only [h.selector_ne_zero, hno, hm, Option.ite_none_right_eq_some, Option.some.injEq, false_or, ne_eq]
    simp [eq_comm]

theorem State.Selects.moveReg_eq_none_iff {off : BitVec 16} {q : Resource} (h : s.Selects off q) {o : Nat} :
    s.moveReg off o = none ↔ ∀ x, ¬ s.StandsAt off o x := by
  simp only [Option.eq_none_iff_forall_ne_some, ne_eq, h.moveReg_eq_some_iff]

/-! ## The course of a read (42_system_instructions R450, R453, R455) -/

/-- A guest that may read an offset meets no HVCSFR for it. -/
theorem State.hvOwned_read {o : Nat} (hg : s.GuestReads o) : (s.guest && s.hvOwned o false) = false := by
  cases h : s.guest with
  | false => rfl
  | true =>
    obtain ⟨hh, hl⟩ := hg h
    simp only [State.hvOwned, hh, Bool.false_and, Bool.or_false, Bool.true_and, Bool.false_or, List.any_eq_false,
      Bool.and_eq_true, beq_iff_eq, not_and, Bool.not_eq_true, Bool.false_eq_true, if_false]
    exact hl

/-- The selector of a move that addresses a resource is a proper one. -/
theorem State.Selects.offsetAligned {off : BitVec 16} {q : Resource} (h : s.Selects off q) {pair : Bool}
    (hp : pair = true → off.getLsbD 2 = false) : s.offsetAligned off pair = true := by
  have h2 : (pair && off.getLsbD 2) = false := by
    cases pair with
    | false => rfl
    | true => exact hp rfl
  unfold State.offsetAligned
  rw [h2]
  rcases h with ⟨h0, -⟩ | ⟨hv, hr, ⟨h1, -⟩ | ⟨h2, -⟩⟩
  · simp [h0]
  · simp [hv, hr, h1]
  · simp [hv, hr, h2]

/-- The offset checks of a read pass where one of its registers exists, and, where a half pair is OPD, each does. -/
theorem State.offsetCheck_read {off : BitVec 16} {q : Resource} (hq : s.Selects off q) {pair : Bool}
    (hv : s.cvmn = 0 ∨ hyperOffset (moveOffset off) = false) (hg : s.GuestReads (moveOffset off))
    (hp : pair = true → off.getLsbD 2 = false ∧ s.GuestReads (moveOffset off + 4))
    (hx : (s.moveRegs off pair).all Option.isNone = false)
    (hh : s.cfg.halfPairOpd = false ∨ (s.moveRegs off pair).any Option.isNone = false) :
    s.offsetCheck off pair false = .go := by
  have howned : (s.guest && (s.hvOwned (moveOffset off) false || (pair && s.hvOwned (moveOffset off + 4) false))) = false := by
    have h1 := State.hvOwned_read hg
    cases pair with
    | false => simpa using h1
    | true =>
      have h2 := State.hvOwned_read (hp rfl).2
      rw [Bool.true_and, Bool.and_or_distrib_left, h1, h2]
      rfl
  have hhalf : (pair && s.cfg.halfPairOpd && (s.moveRegs off pair).any Option.isNone) = false := by
    rcases hh with h | h <;> simp [h]
  have hhyper : (s.cvmn != 0 && hyperOffset (moveOffset off)) = false := by
    rcases hv with h | h <;> simp [h]
  have haligned := hq.offsetAligned fun h => (hp h).1
  unfold State.offsetCheck
  dsimp only
  rw [hx, Bool.false_or, howned, haligned, hhalf, hhyper]
  rfl

/-- A read that meets no check and no debug event. -/
theorem State.execMove_read {off : BitVec 16} {pair : Bool} (he : s.NoMoveEvent off)
    (hc : s.offsetCheck off pair false = .go) {effect : State → State} (hevt : (effect s).evt = s.evt) :
    s.execMove off pair false .go (fun _ => []) effect = .next ((effect s).advance 4) := by
  have hbefore : s.before (s.crEvent (off &&& 0xFFFC#16)) 1 .crevt = (s, false) := by
    rcases he with h | h
    · rw [h, State.before_unarmed]
    · exact State.before_acted h _ _ _
  have hafter : ((effect s).advance 4).after (s.crEvent (off &&& 0xFFFC#16)) 1 (s.dbg .crevt) s.pc =
      (effect s).advance 4 := by
    rcases he with h | h
    · rw [h, State.after_unarmed]
    · exact State.after_acted (by rw [State.advance_evt, hevt, h]) _ _ _ _
  have hw : s.writeCheck off [] = .go := by simp [State.writeCheck, Verdict.first_eq_go]
  unfold State.execMove
  simp only [hbefore, hc, hw, hafter]
  rfl

/-- `u` is `s` after reads of the registers `xs`: TRIG_ACC is 0 if it is among them, and nothing else has changed
(45_debug R670). -/
structure ReadsDone (s u : State) (xs : List Csfr) : Prop where
  pc : u.pc = s.pc
  mem : u.mem = s.mem
  evt : u.evt = s.evt
  res : u.res = s.res
  cleared : .sys .trigAcc ∈ xs → u.getSys .trigAcc = 0
  kept : Kept s u [] [] (if .sys .trigAcc ∈ xs then [.sys .trigAcc] else [])

theorem ReadsDone.nil (s : State) : ReadsDone s s [] :=
  ⟨rfl, rfl, rfl, rfl, fun h => (List.not_mem_nil h).elim, Kept.refl s⟩

theorem ReadsDone.read {xs : List Csfr} (h : ReadsDone s u xs) (y : Csfr) :
    ReadsDone s (u.csfrReadEffect y) (xs ++ [y]) := by
  obtain ⟨hpc, hmem, hres, hkept⟩ := State.csfrReadEffect_spec (s := u) y
  by_cases hy : y = .sys .trigAcc
  · subst hy
    have he : u.csfrReadEffect (.sys .trigAcc) = u.hw .hv (.sys .trigAcc) fun _ => 0 := rfl
    have hk := (h.kept.trans hkept h.res).mono (ds' := []) (as' := []) (cs' := [.sys .trigAcc]) (by simp) (by simp)
      (by split <;> simp)
    refine ⟨hpc.trans h.pc, hmem.trans h.mem, ?_, hres.trans h.res, fun _ => ?_, by simpa using hk⟩
    · rw [he, State.hwSys_evt, h.evt]
    · rw [he, State.getSys_hw_same]
  · have he : u.csfrReadEffect y = u := by simp [State.csfrReadEffect, hy]
    have hmem : .sys .trigAcc ∈ xs ++ [y] ↔ .sys .trigAcc ∈ xs := by simp [Ne.symm hy]
    rw [he]
    exact ⟨h.pc, h.mem, h.evt, h.res, fun hm => h.cleared (hmem.mp hm), by simpa only [hmem] using h.kept⟩

/-- The registers of a move that exist, in order, are read. -/
theorem ReadsDone.readMove {xs : List Csfr} (h : ReadsDone s u xs) (y : Option Csfr) :
    ReadsDone s (u.moveReadEffect y) (xs ++ y.toList) := by
  cases y with
  | none => simpa [State.moveReadEffect] using h
  | some y => exact h.read y

/-- The registers that a move which reads `xs` changes. -/
def readFrame (xs : List Csfr) : List Csfr := if .sys .trigAcc ∈ xs then [.pc, .sys .trigAcc] else [.pc]

/-- The end of a read: the data registers `ds` take what has been read, and the pc goes on. -/
theorem ReadsDone.finish {xs : List Csfr} (h : ReadsDone s u xs) {v : State} {ds : List Reg} (hv : Kept u v ds [] [])
    (hpc : v.pc = u.pc) (hmem : v.mem = u.mem) (hres : v.res = u.res) (hsys : v.sys = u.sys) :
    (v.advance 4).pc = s.pc + 4 ∧ KeepsMemory s (v.advance 4) ∧ Kept s (v.advance 4) ds [] (readFrame xs) ∧
      (.sys .trigAcc ∈ xs → (v.advance 4).getSys .trigAcc = 0) := by
  have hk := (h.kept.trans hv h.res).trans (Kept.advance 4) (hres.trans h.res)
  have hcfg : v.cfg = s.cfg := congrArg Prod.fst hk.fixed
  refine ⟨?_, KeepsMemory.of_mem hcfg (hmem.trans h.mem), hk.mono (by simp) (by simp) ?_, fun hx => ?_⟩
  · rw [State.advance_pc, hpc, h.pc]
    rfl
  · unfold readFrame
    split <;> simp
  · rw [State.getSys_advance, State.getSys, hsys]
    exact h.cleared hx

theorem Reg.ne_succ : ∀ c : Reg, c ≠ c + 1 := by decide

/-- MFCR of a register that the move addresses (R450). -/
theorem State.execMfcr_spec {off : BitVec 16} {q : Resource} {x : Csfr} (c : Reg) (hq : s.Selects off q)
    (he : s.NoMoveEvent off) (hv : s.cvmn = 0 ∨ hyperOffset (moveOffset off) = false)
    (hg : s.GuestReads (moveOffset off)) (hx : s.StandsAt off (moveOffset off) x) :
    ∃ t, exec (.mfcr c off) s = .next t ∧ t.pc = s.pc + 4 ∧ t.getD c = s.csfrRead q x ∧ KeepsMemory s t ∧
      Kept s t [c] [] (readFrame [x]) ∧ (x = .sys .trigAcc → t.getSys .trigAcc = 0) := by
  have hreg := hq.moveReg_eq_some_iff.mpr hx
  have hcheck : s.offsetCheck off false false = .go :=
    State.offsetCheck_read hq hv hg (fun h => nomatch h) (by simp [State.moveRegs, hreg])
      (.inr (by simp [State.moveRegs, hreg]))
  have hread := (ReadsDone.nil s).read x
  obtain ⟨hpc, hmem, hkept, hcleared⟩ := hread.finish (Kept.setD c (s.csfrRead q x)) rfl rfl rfl rfl
  refine ⟨((s.csfrReadEffect x).setD c (s.csfrRead q x)).advance 4, ?_, hpc, ?_, hmem, hkept, fun h => ?_⟩
  · have hexec := State.execMove_read (effect := fun t =>
      (t.moveReadEffect (t.moveReg off (moveOffset off))).setD c
        (t.moveRead (t.moveRes off) (t.moveReg off (moveOffset off)))) he hcheck (by simpa [hreg, State.moveReadEffect] using hread.evt)
    rw [hreg, hq.moveRes] at hexec
    exact hexec
  · rw [State.getD_advance, State.getD_setD_same]
  · exact hcleared (by simp [h])

/-- MFDCR of a pair of which a register exists, and both where a half pair is OPD (R453, 93 U16). -/
theorem State.execMfdcr_spec {off : BitVec 16} {q : Resource} (c : Reg) (hq : s.Selects off q)
    (he : s.NoMoveEvent off) (hv : s.cvmn = 0 ∨ hyperOffset (moveOffset off) = false)
    (hg : s.GuestReads (moveOffset off)) (hc : c.toNat % 2 = 0) (h2 : off.getLsbD 2 = false)
    (hg' : s.GuestReads (moveOffset off + 4)) {x y : Option Csfr} (hx : s.moveReg off (moveOffset off) = x)
    (hy : s.moveReg off (moveOffset off + 4) = y) (hsome : x.isSome ∨ y.isSome)
    (hhalf : s.cfg.halfPairOpd = false ∨ (x.isSome ∧ y.isSome)) :
    ∃ t, exec (.mfdcr c off) s = .next t ∧ t.pc = s.pc + 4 ∧ t.getD c = s.moveRead q x ∧
      t.getD (c + 1) = s.moveRead q y ∧ KeepsMemory s t ∧
      Kept s t [c, c + 1] [] (readFrame (x.toList ++ y.toList)) ∧
      (.sys .trigAcc ∈ x.toList ++ y.toList → t.getSys .trigAcc = 0) := by
  have hcheck : s.offsetCheck off true false = .go := by
    refine State.offsetCheck_read hq hv hg (fun _ => ⟨h2, hg'⟩) ?_ ?_
    · cases x <;> cases y <;> simp_all [State.moveRegs]
    · rcases hhalf with h | ⟨h, h'⟩
      · exact .inl h
      · exact .inr (by simp [State.moveRegs, hx, hy, h, h'])
  have hread := ((ReadsDone.nil s).readMove x).readMove y
  obtain ⟨hpc, hmem, hkept, hcleared⟩ := hread.finish
    ((Kept.setD c (s.moveRead q x)).trans (Kept.setD (c + 1) (s.moveRead q y)) rfl) rfl rfl rfl rfl
  refine ⟨((((s.moveReadEffect x).moveReadEffect y).setD c (s.moveRead q x)).setD (c + 1) (s.moveRead q y)).advance 4,
    ?_, hpc, ?_, ?_, hmem, hkept, hcleared⟩
  · have hpair : s.pairCheck c = .go := State.pairCheck_go (by simp [pairEven, hc])
    have hexec := State.execMove_read (effect := fun t =>
      (((t.moveReadEffect (t.moveReg off (moveOffset off))).moveReadEffect
        (t.moveReg off (moveOffset off + 4))).setD c
          (t.moveRead (t.moveRes off) (t.moveReg off (moveOffset off)))).setD (c + 1)
            (t.moveRead (t.moveRes off) (t.moveReg off (moveOffset off + 4)))) he hcheck
      (by simpa [hx, hy] using hread.evt)
    rw [hx, hy, hq.moveRes, ← hpair] at hexec
    exact hexec
  · rw [State.getD_advance, State.getD_setD_ne _ (Reg.ne_succ c), State.getD_setD_same]
  · rw [State.getD_advance, State.getD_setD_same]

/-! ## What a read gives (10_state R60, R62) -/

/-- A field without a reserved bit, of a register other than PSW and the FPU's, reads as it is. -/
theorem State.ReadsAs.field_eq {q : Resource} {x : Csfr} {v : Word} (h : s.ReadsAs q x v) (hx : x ≠ .psw)
    (hr : ∀ y, x ≠ .rep y) {lo len : Nat} (hl : lo + len ≤ 32) (hres : field (s.layout x).reserved lo len = 0) :
    field v lo len = field (s.raw q x) lo len := by
  rw [field_eq_iff]
  intro k hk
  have hbit : bit (s.layout x).reserved (lo + k) = false := by
    have h0 : (field (s.layout x).reserved lo len).getLsbD k = (0 : BitVec len).getLsbD k := by rw [hres]
    rw [getLsbD_field] at h0
    simpa [hk] using h0
  have hn : ¬ s.NotCaptured q x (lo + k) := fun ⟨y, _, hy, _⟩ => hr y hy
  simpa [hx] using h (lo + k) (by omega) hbit (fun e => absurd e hx) hn

/-- CORE_ID and its VMN (10_state R60). -/
theorem State.csfrRead_coreId (s : State) (q : Resource) :
    field (s.csfrRead q .coreId) 0 3 = s.cfg.coreId ∧ field (s.csfrRead q .coreId) 8 3 =
      if s.cfg.hasVirt ∧ bit (s.getSys .vcon0) 0 then s.cvmn else 1 := by
  have h := State.csfrRead_readsAs (s := s) q .coreId
  constructor
  · rw [h.field_eq (by simp) (by simp) (by omega) (by simp [State.layout, Layout.reserved, field])]
    rw [State.raw, State.coreIdWord, field_setField_ne _ (by omega) _ (by omega)]
    exact BitVec.eq_of_getLsbD_eq fun k hk => by
      rw [getLsbD_field]
      simp [bit, zext, hk]
      omega
  · rw [h.field_eq (by simp) (by simp) (by omega) (by simp [State.layout, Layout.reserved, field])]
    simp [State.raw, State.coreIdWord, field_setField_same, State.virtEnabled]

/-- TCCON (10_state R62). -/
theorem State.csfrRead_tccon (s : State) (q : Resource) :
    let w := s.csfrRead q .tccon
    bit w 0 = s.cfg.hasSpFpu ∧ bit w 1 = s.cfg.hasDpFpu ∧ bit w 2 = s.cfg.tcconOvl ∧
      bit w 3 = (s.cfg.hasVirt && bit (s.getSys .vcon0) 0) := by
  have h := field_eq_iff.mp
    ((State.csfrRead_readsAs (s := s) q .tccon).field_eq (by simp) (by simp) (lo := 0) (len := 4) (by omega)
      (by simp [State.layout, Layout.reserved, field]))
  have hraw : ∀ k, k < 4 → bit (s.csfrRead q .tccon) k = bit (s.tcconWord s.virtEnabled) k := fun k hk => by
    simpa [State.raw] using h k hk
  refine ⟨?_, ?_, ?_, ?_⟩
  · simp [hraw, State.tcconWord, bit_setBit]
  · simp [hraw, State.tcconWord, bit_setBit]
  · simp [hraw, State.tcconWord, bit_setBit]
  · simp [hraw, State.tcconWord, bit_setBit, State.virtEnabled]

/-- Settles O38. -/
theorem readsOfCoreRegisters : Obligations.reads_of_core_registers := by
  intro s c off
  dsimp only
  refine ⟨fun x h0 => ?_, fun q hq he hv hg => ⟨fun x hx => ?_, fun hc h2 hg' => ⟨fun x y hx hy => ?_, fun x hh hx => ?_⟩⟩⟩
  · rw [State.Selects.moveReg_eq_some_iff (.inl ⟨h0, rfl⟩)]
    simp [State.StandsAt, h0]
  · obtain ⟨t, hexec, hpc, hd, hmem, hkept, hacc⟩ := State.execMfcr_spec c hq he hv hg hx
    refine ⟨t, hexec, hpc, ?_, hacc, ?_, ?_, hmem, hkept⟩
    · rw [hd]
      exact State.csfrRead_readsAs q x
    · rintro rfl
      rw [hd]
      exact s.csfrRead_coreId q
    · rintro rfl
      rw [hd]
      exact s.csfrRead_tccon q
  · have hq : s.Selects off q := hq
    obtain ⟨t, hexec, hpc, hd, hd', hmem, hkept, hacc⟩ := State.execMfdcr_spec c hq he hv hg hc h2 hg'
      (hq.moveReg_eq_some_iff.mpr hx) (hq.moveReg_eq_some_iff.mpr hy) (.inl rfl) (.inr ⟨rfl, rfl⟩)
    refine ⟨t, hexec, hpc, ?_, ?_, hacc, hmem, hkept⟩
    · rw [hd]
      exact State.csfrRead_readsAs q x
    · rw [hd']
      exact State.csfrRead_readsAs q y
  · have hq : s.Selects off q := hq
    rcases hx with ⟨hx, hy⟩ | ⟨hy, hx⟩
    · obtain ⟨t, hexec, hpc, hd, hd', hmem, hkept, hacc⟩ := State.execMfdcr_spec c hq he hv hg hc h2 hg'
        (hq.moveReg_eq_some_iff.mpr hx) (hq.moveReg_eq_none_iff.mpr hy) (.inl rfl) (.inl hh)
      refine ⟨t, hexec, hpc, fun _ => ?_, fun h => absurd h (hy x), fun h => hacc (by simp [h]), hmem, hkept⟩
      rw [hd]
      exact State.csfrRead_readsAs q x
    · obtain ⟨t, hexec, hpc, hd, hd', hmem, hkept, hacc⟩ := State.execMfdcr_spec c hq he hv hg hc h2 hg'
        (hq.moveReg_eq_none_iff.mpr hx) (hq.moveReg_eq_some_iff.mpr hy) (.inr rfl) (.inl hh)
      refine ⟨t, hexec, hpc, fun h => absurd h (hx x), fun _ => ?_, fun h => hacc (by simp [h]), hmem, hkept⟩
      rw [hd']
      exact State.csfrRead_readsAs q x

end Sys2Proof.Machine
end

section
/-! PROOFS. What every step keeps: memory in canonical form and PC[0] = 0 (10_state R46). One lemma for each operation on the
state, in the order of the model's files, then the instructions, the host's events and the step. -/

namespace Sys2Proof.Machine

/-! ## Half-word addresses: bit 0 is 0 -/

@[simp] theorem even_bit0 (a : Word) : (even a).getLsbD 0 = false := by simp [even]

theorem add_bit0 {a b : Word} (ha : a.getLsbD 0 = false) (hb : b.getLsbD 0 = false) : (a + b).getLsbD 0 = false := by
  rw [BitVec.getLsbD_add (by omega), ha, hb]
  simp

theorem shiftLeft_bit0 (a : Word) {n : Nat} (hn : 0 < n) : (a <<< n).getLsbD 0 = false := by
  simp [hn]

theorem ofNat_bit0 {n : Nat} (hn : n % 2 = 0) : (BitVec.ofNat 32 n).getLsbD 0 = false := by
  rw [BitVec.getLsbD_ofNat]
  simp [hn]

theorem absoluteTarget_bit0 (d : BitVec 24) : (absoluteTarget d).getLsbD 0 = false := by
  unfold absoluteTarget
  rw [BitVec.getLsbD_append]
  rfl

variable {s t : State}

theorem State.vectorPc_bit0 (s : State) (v : HandlerVector) : (s.vectorPc v).getLsbD 0 = false := by
  cases v with
  | biv p =>
    simp only [State.vectorPc, BitVec.getLsbD_or, even_bit0, Bool.false_or]
    exact shiftLeft_bit0 _ (by split <;> omega)
  | btv c | bhv c =>
    simp only [State.vectorPc, BitVec.getLsbD_or, even_bit0, Bool.false_or]
    exact shiftLeft_bit0 _ (by omega)

namespace State.Inv

/-- The invariant speaks of memory, the pc and the configuration alone. -/
theorem of_eq (h : s.Inv) (hm : t.mem = s.mem) (hp : t.pc = s.pc) (hc : t.cfg = s.cfg) : t.Inv :=
  ⟨hm ▸ h.memory, hp ▸ h.pc, hc ▸ h.resetPc⟩

/-! ## The pc -/

theorem withPc (h : s.Inv) {a : Word} (ha : a.getLsbD 0 = false) : ({ s with pc := a } : State).Inv :=
  ⟨h.memory, ha, h.resetPc⟩

theorem jump (h : s.Inv) {a : Word} (ha : a.getLsbD 0 = false) : (s.jump a).Inv := h.withPc ha

theorem pc_add (h : s.Inv) {n : Nat} (hn : n % 2 = 0) : (s.pc + BitVec.ofNat 32 n).getLsbD 0 = false :=
  add_bit0 h.pc (ofNat_bit0 hn)

theorem advance (h : s.Inv) {n : Nat} (hn : n % 2 = 0) : (s.advance n).Inv := h.withPc (h.pc_add hn)

theorem relative (h : s.Inv) {n : Nat} (disp : BitVec n) : (s.relative disp).getLsbD 0 = false :=
  add_bit0 h.pc (shiftLeft_bit0 _ (by omega))

theorem atHandler (h : s.Inv) {a : Word} (ha : a.getLsbD 0 = false) : (s.atHandler a).Inv :=
  ⟨h.memory, ha, h.resetPc⟩

/-! ## Registers -/

theorem setD (h : s.Inv) (n : Reg) (v : Word) : (s.setD n v).Inv := h.of_eq rfl rfl rfl

theorem setA (h : s.Inv) (n : Reg) (v : Word) : (s.setA n v).Inv := h.of_eq (by simp) (by simp) (by simp)

theorem setE (h : s.Inv) (n : Reg) (v : Dword) : (s.setE n v).Inv := (h.setD _ _).setD _ _

theorem setQ (h : s.Inv) (n : Reg) (v : BitVec 128) : (s.setQ n v).Inv :=
  (((h.setD _ _).setD _ _).setD _ _).setD _ _

theorem setHr (h : s.Inv) (r : Resource) (x : HrSet) : (s.setHr r x).Inv := h.of_eq (by simp) (by simp) (by simp)

theorem setRaw (h : s.Inv) (r : Resource) {c : Csfr} (hc : c ≠ .pc) (v : Word) : (s.setRaw r c v).Inv := by
  cases c with
  | pc => exact absurd rfl hc
  | rep x | ga n => exact h.setHr r _
  | _ => exact h.of_eq rfl rfl rfl

/-- A hardware update of any register but the pc. -/
theorem hw (h : s.Inv) (r : Resource) {c : Csfr} (hc : c ≠ .pc) (f : Word → Word) : (s.hw r c f).Inv :=
  (h.setRaw r hc _).of_eq rfl rfl rfl

theorem hwRep (h : s.Inv) (r : Resource) (x : RepReg) (f : Word → Word) : (s.hw r (.rep x) f).Inv :=
  h.hw r (by simp) f

theorem hwSys (h : s.Inv) (r : Resource) (x : SysReg) (f : Word → Word) : (s.hw r (.sys x) f).Inv :=
  h.hw r (by simp) f

theorem hwPcxi (h : s.Inv) (r : Resource) (f : Word → Word) : (s.hw r .pcxi f).Inv := h.hw r (by simp) f

theorem hwPprs (h : s.Inv) (r : Resource) (f : Word → Word) : (s.hw r .pprs f).Inv := h.hw r (by simp) f

theorem hwCurRep (h : s.Inv) (x : RepReg) (f : Word → Word) : (s.hwCur (.rep x) f).Inv := h.hwRep _ x f

theorem hwCurIcr (h : s.Inv) (f : Word → Word) : (s.hwCur .icr f).Inv := h.hw _ (by simp) f

theorem modPsw (h : s.Inv) (f : Word → Word) : (s.modPsw f).Inv := h.hw _ (by simp) f

theorem emit (h : s.Inv) (e : OutEvent) : (s.emit e).Inv := h.of_eq rfl rfl rfl

theorem sync (h : s.Inv) : s.sync.Inv := h.of_eq rfl rfl rfl

theorem settle (h : s.Inv) (r : Resource) (c : Csfr) : (s.settle r c).Inv := h.of_eq rfl rfl rfl

/-! ## Memory -/

theorem writeAt (h : s.Inv) {addrs : List Nat} (ha : ∀ a ∈ addrs, a < 2 ^ 32) (v : Nat) : (s.writeAt addrs v).Inv :=
  ⟨State.writeAt_wf v ha h.memory, h.pc, h.resetPc⟩

theorem putWord (h : s.Inv) {a : Word} (ha : a.toNat % 4 = 0) (v : Word) : (s.putWord a v).Inv :=
  h.writeAt (span_lt ha) _

theorem putWords (h : s.Inv) {a : Word} (ha : a.toNat % 4 = 0) (ws : List Word) : (s.putWords a ws).Inv := by
  induction ws generalizing s a with
  | nil => exact h
  | cons w rest ih =>
    have ha' : (a + 4).toNat % 4 = 0 := by
      rw [BitVec.toNat_add, show (4 : Word).toNat = 4 from rfl]
      omega
    exact ih (h.putWord ha w) ha'

theorem loaded (h : s.Inv) (x : Access) : (s.loaded x).Inv := by
  rw [State.loaded_eq]
  exact h.of_eq rfl rfl rfl

theorem store (h : s.Inv) (x : Access) (v : Nat) : (s.store x v).Inv := by
  unfold State.store
  extract_lets t
  have ht : t.Inv := by
    unfold t
    split
    · exact h.writeAt x.addrs_lt v
    · exact h
    · exact h.of_eq rfl rfl rfl
  split
  · exact ht.emit _
  · exact ht

theorem issued (h : s.Inv) (x : Access) (v : Verdict) : (s.issued x v).Inv := by
  unfold State.issued
  split
  · exact h.loaded x
  · exact h

/-! ## Contexts -/

theorem csaEa_mod4 (p : BitVec 20) : (csaEa p).toNat % 4 = 0 := by
  have := csaEa_aligned p
  omega

theorem saveList (h : s.Inv) (ul : Bool) (block : List Word) : (s.saveList ul block).Inv := by
  unfold State.saveList
  extract_lets ptr ea next icr hit s1 s2 s3
  have h1 : s1.Inv := h.putWords (csaEa_mod4 ptr) _
  have h2 : s2.Inv := h1.hwPcxi _ _
  have h3 : s3.Inv := h2.hwCurRep _ _
  exact h3.of_eq rfl rfl rfl

theorem restoreList (h : s.Inv) : s.restoreList.Inv := by
  unfold State.restoreList
  extract_lets ptr ea w s1 s2
  have h1 : s1.Inv := h.putWord (csaEa_mod4 ptr) _
  have h2 : s2.Inv := h1.hwCurRep _ _
  exact h2.hwPcxi _ _

theorem setUpper (h : s.Inv) (w : Nat → Word) : (s.setUpper w).Inv := h.of_eq (by simp) (by simp) (by simp)

theorem setLower (h : s.Inv) (w : Nat → Word) : (s.setLower w).Inv := h.of_eq (by simp) (by simp) (by simp)

theorem scramble (h : s.Inv) : s.scramble.Inv := h.of_eq (by simp) (by simp) (by simp)

theorem saveUpper (h : s.Inv) (p : Word) : (s.saveUpper p).Inv := by
  rw [State.saveUpper_eq]
  exact (h.saveList _ _).hwPprs _ _

theorem saveLower (h : s.Inv) : s.saveLower.Inv := h.saveList _ _

theorem restoreUpper (h : s.Inv) (keepRm : Bool) : (s.restoreUpper keepRm).Inv := by
  rw [State.restoreUpper_eq]
  exact ((h.restoreList.setUpper _).modPsw _).hwPprs _ _

theorem restoreLower (h : s.Inv) : s.restoreLower.Inv := h.restoreList.setLower _

/-! ## Taking an exception and returning from one -/

theorem setCvmn (h : s.Inv) (n : BitVec 3) : (s.setCvmn n).Inv := h.hwSys _ _ _

theorem handlerRegs (h : s.Inv) (e : Entry) : (s.handlerRegs e).Inv := by
  have h2 := (((h.saveUpper s.pswImage).scramble).setA 11 e.ra).setD 15 e.d15
  unfold State.handlerRegs
  dsimp only
  split
  · exact h2
  · exact h2.setA _ _

theorem enterBody (h : s.Inv) (e : Entry) : (s.enterBody e).Inv := by
  have hprep : (s.prepared e).Inv := ((h.handlerRegs e).modPsw _).hw _ (by simp) _
  rw [State.enterBody_prepared]
  refine atHandler ?_ (s.vectorPc_bit0 e.vector)
  split
  · exact hprep.emit _
  · exact hprep

theorem lostAddrs_lt (s : State) (lost : Lost) : ∀ a ∈ s.lostAddrs lost, a < 2 ^ 32 := by
  intro a ha
  cases lost with
  | none => simp [State.lostAddrs] at ha
  | save =>
    have := csaEa_room s.fcx
    rw [State.lostAddrs, mem_span] at ha
    omega
  | upper | lower =>
    have := csaEa_room (pcx s.link)
    rw [State.lostAddrs, mem_span] at ha
    omega

theorem loseMemory (h : s.Inv) (lost : Lost) : (s.loseMemory lost).Inv :=
  h.writeAt (fun a ha => lostAddrs_lt s lost a (List.mem_filter.mp ha).1) _

theorem loseContext (h : s.Inv) (lost : Lost) : (s.loseContext lost).Inv := by
  unfold State.loseContext
  split
  · exact h
  · exact h
  · exact h.setUpper _
  · exact h.setLower _

theorem dropPending (h : s.Inv) : s.dropPending.Inv :=
  (h.hwCurRep .tpsCon fun w => setBit w 17 (bit w 17 && s.freeB 204)).of_eq rfl rfl rfl

theorem fcuEntry (h : s.Inv) (lost : Lost) : (s.fcuEntry lost).Inv := by
  unfold State.fcuEntry
  extract_lets isp own ts target any s1 s2 s3 s4 s5
  have h1 : s1.Inv := (((h.loseMemory lost).loseContext lost).scramble.setA 11 _).setD 15 4
  have h2 : s2.Inv := by
    unfold s2
    split
    · exact h1
    · exact h1.setA _ _
  have h3 : s3.Inv := h2.modPsw _
  have h4 : s4.Inv := (h3.hwPcxi _ _).hwCurRep _ _
  have h5 : s5.Inv := (h4.hwPprs _ _).hwCurIcr _
  exact h5.dropPending.atHandler (s.vectorPc_bit0 (.btv 3))

theorem enter (h : s.Inv) (e : Entry) : (s.enter e).Inv := by
  have h0 : (if e.hyper then s.setCvmn 0 else s).Inv := by
    split
    · exact h.setCvmn 0
    · exact h
  unfold State.enter
  dsimp only
  split
  · exact h0.enterBody e
  · split
    · exact (h0.setCvmn 0).enterBody _
    · exact (h0.setCvmn 0).fcuEntry _
  · exact h0.fcuEntry _

theorem inform (h : s.Inv) (cls : BitVec 3) (tin : Byte) : (s.inform cls tin).Inv := by
  obtain ⟨hpc, -, -, -, hmem, -, -, hcfg, -, -⟩ := s.inform_fields cls tin
  exact h.of_eq hmem hpc hcfg

theorem takeTrap (h : s.Inv) (cls : BitVec 3) (tin : Byte) (ra : Word) : (s.takeTrap cls tin ra).Inv :=
  (h.enter _).inform cls tin

theorem takeHvTrap (h : s.Inv) (cls : BitVec 3) (hvtin ra : Word) : (s.takeHvTrap cls hvtin ra).Inv := h.enter _

theorem takeTrapInHv (h : s.Inv) (cls : BitVec 3) (tin : Byte) (ra : Word) : (s.takeTrapInHv cls tin ra).Inv := by
  unfold State.takeTrapInHv
  split
  · exact (h.enter _).inform cls tin
  · exact h.takeTrap cls tin ra

theorem informAt (h : s.Inv) (x : RepReg) (a : Word) : (s.informAt x a).Inv := h.hwCurRep x _

theorem takePie (h : s.Inv) (a : Word) : (s.takePie a).Inv := (h.takeTrap 4 5 s.pc).informAt .piear a

theorem takeDie (h : s.Inv) (a : Word) : (s.takeDie a).Inv := (h.takeTrapInHv 4 6 s.pc).informAt .diear a

theorem restoreIcr (h : s.Inv) : s.restoreIcr.Inv := h.hwCurIcr _

theorem leave (h : s.Inv) : s.leave.Inv := (h.restoreIcr.restoreUpper false).sync.withPc (even_bit0 _)

/-! ## Debug events (45_debug R635 to R655) -/

/-- The debug context is aligned to 64 bytes (R651). -/
theorem dcxBase_mod4 (w : Word) : (w &&& 0xFFFFFFC0#32).toNat % 4 = 0 := by
  have h : (w &&& 0xFFFFFFC0#32).setWidth 2 = 0 := by
    rw [BitVec.setWidth_and, show (0xFFFFFFC0#32).setWidth 2 = 0 from rfl]
    simp
  exact (BitVec.toNat_setWidth 2 _).symm.trans (congrArg BitVec.toNat h)

theorem putDebugContext (h : s.Inv) : s.putDebugContext.Inv := by
  unfold State.putDebugContext
  extract_lets dcx
  have hd : dcx.toNat % 4 = 0 := dcxBase_mod4 _
  have hadd : ∀ k : Word, k.toNat % 4 = 0 → (dcx + k).toNat % 4 = 0 := fun k hk => by
    rw [BitVec.toNat_add]
    omega
  split
  · exact (((h.putWord (hadd 4 rfl) _).putWord (by omega) _).putWord (hadd 8 rfl) _).putWord (hadd 12 rfl) _
  · exact h

theorem breakpointTrap (h : s.Inv) (ra : Word) : (s.breakpointTrap ra).Inv := by
  unfold State.breakpointTrap
  extract_lets icr isp dms own s1 s2 s3 s4 s5 s6
  have h1 : s1.Inv := h.putDebugContext.setA 11 ra
  have h2 : s2.Inv := by
    unfold s2
    split
    · exact h1
    · exact h1.setA _ _
  have h3 : s3.Inv := h2.hwPcxi _ _
  have h4 : s4.Inv := h3.modPsw _
  have h5 : s5.Inv := h4.hwCurIcr _
  have h6 : s6.Inv := h5.hwSys _ _ _
  exact h6.atHandler (even_bit0 dms)

theorem noteEvent (h : s.Inv) (src : BitVec 5) : (s.noteEvent src).Inv := by
  unfold State.noteEvent
  extract_lets vmn on
  exact h.hwSys _ _ _

theorem gate (h : s.Inv) (cnt : BitVec 2) : (s.gate cnt).Inv := h.of_eq rfl rfl rfl

theorem record (h : s.Inv) (active : Fin 8 → Bool) : (s.record active).Inv := by
  unfold State.record
  split
  · exact h.hwSys _ _ _
  · exact h

/-- A debug event that leaves off at a half-word address. -/
theorem debugEvent (h : s.Inv) (src : BitVec 5) (ereg : Word) {ra : Word} (hra : ra.getLsbD 0 = false) :
    (s.debugEvent src ereg ra).1.Inv := by
  unfold State.debugEvent
  extract_lets act a noted s1 s2 s3 halted
  split
  · exact h
  have h1 : s1.Inv := ((h.noteEvent src).gate (field ereg 6 2)).of_eq rfl rfl rfl
  have h2 : s2.Inv := by
    unfold s2
    split
    · exact (h1.hwSys _ _ _).emit _
    split
    · exact h1.hwSys _ _ _
    · exact h1
  have h3 : s3.Inv := by
    unfold s3
    split
    · exact h2.emit _
    · exact h2
  split
  · have hh : halted.Inv := h3.hwSys _ _ _
    exact hh.withPc hra
  split
  · exact h3.breakpointTrap ra
  · exact h3

theorem trigEvent (h : s.Inv) (n : Fin 8) {ra : Word} (hra : ra.getLsbD 0 = false) : (s.trigEvent n ra).1.Inv :=
  h.debugEvent _ _ hra

theorem before (h : s.Inv) (armed : Bool) (src : BitVec 5) (x : SysReg) : (s.before armed src x).1.Inv := by
  unfold State.before
  split
  · exact h.debugEvent _ _ h.pc
  · exact h

theorem after (h : s.Inv) (armed : Bool) (src : BitVec 5) (ereg pc : Word) : (s.after armed src ereg pc).Inv := by
  unfold State.after
  split
  · exact h.debugEvent _ _ h.pc
  · exact h

end State.Inv

/-! ## Outcomes -/

/-- An outcome that goes on does so in a state with property `p`. -/
def EndsIn (p : State → Prop) : Host.Outcome State Fault Refusal → Prop
  | .next t => p t
  | .fault _ => True
  | .refused _ => True

@[simp] theorem endsIn_next (p : State → Prop) (t : State) : EndsIn p (.next t) ↔ p t := Iff.rfl

namespace State.Inv

/-- Whatever a verdict comes to, its outcome keeps the invariant if the effect does. -/
theorem conclude (h : s.Inv) (v : Verdict) {e : State} (he : e.Inv) : EndsIn State.Inv (s.conclude v e) := by
  cases v with
  | go => exact he
  | trap cls tin => exact h.takeTrap cls tin s.pc
  | hv cls tin => exact h.takeHvTrap cls tin s.pc
  | fcu lost => exact h.fcuEntry lost
  | refuse r | fault f => trivial

/-! ## The courses of the instructions -/

section Courses
variable {len : Nat}

theorem applyUpdate (h : s.Inv) (r : Resolved) : (s.applyUpdate r).Inv := h.of_eq (by simp) (by simp) (by simp)

theorem loadConflict (h : s.Inv) (r : Resolved) (dst : List Reg) : (s.loadConflict r dst).Inv := by
  unfold State.loadConflict
  split
  · split
    · exact h.setA _ _
    · exact h
  · exact h

theorem execLoad (h : s.Inv) (hlen : len % 2 = 0) (m : MemOp) (size align : Nat) (pre : Verdict) (dst : List Reg)
    {put : State → Nat → State} (hput : ∀ t v, State.Inv t → (put t v).Inv) :
    EndsIn State.Inv (s.execLoad len m size align pre dst put) := by
  unfold State.execLoad
  extract_lets r x v
  exact (h.issued x v).conclude v ((((hput _ _ (h.loaded x)).applyUpdate r).loadConflict r dst).advance hlen)

theorem execStore (h : s.Inv) (hlen : len % 2 = 0) (m : MemOp) (size align : Nat) (pre : Verdict) (src : List Reg)
    (value : State → Nat) : EndsIn State.Inv (s.execStore len m size align pre src value) := by
  unfold State.execStore
  extract_lets r x
  exact h.conclude _ (((h.store x _).applyUpdate r).advance hlen)

theorem execRmw (h : s.Inv) (hlen : len % 2 = 0) (m : MemOp) (size align : Nat) (pre : Verdict) (new : Nat → Nat)
    (ret : Option Reg) : EndsIn State.Inv (s.execRmw len m size align pre new ret) := by
  unfold State.execRmw
  extract_lets r x old s1 s2 v
  have h1 : s1.Inv := (h.loaded x).store x (new old)
  have h2 : s2.Inv := by
    unfold s2
    split
    · exact h1.setD _ _
    · exact h1
  exact (h.issued x v).conclude v ((h2.applyUpdate r).advance hlen)

theorem execD (h : s.Inv) (hlen : len % 2 = 0) (v : Verdict) (c : Reg) (value : Word) :
    EndsIn State.Inv (s.execD len v c value) := h.conclude v ((h.setD c value).advance hlen)

theorem execA (h : s.Inv) (hlen : len % 2 = 0) (c : Reg) (value : Word) :
    EndsIn State.Inv (s.execA len c value) := h.conclude _ ((h.setA c value).advance hlen)

theorem writeD (h : s.Inv) (hlen : len % 2 = 0) (c : Reg) (v : Word) : EndsIn State.Inv (s.writeD len c v) :=
  (h.setD c v).advance hlen

theorem execArith (h : s.Inv) (hlen : len % 2 = 0) (c : Reg) (result : Int) (carry : Option Bool) :
    EndsIn State.Inv (s.execArith len c result carry) := ((h.modPsw _).setD c _).advance hlen

theorem execBranch (h : s.Inv) (hlen : len % 2 = 0) (taken : Bool) {n : Nat} (disp : BitVec n) :
    EndsIn State.Inv (s.execBranch len taken disp) := by
  unfold State.execBranch
  cases taken with
  | true => exact h.jump (h.relative disp)
  | false => exact h.advance hlen

theorem execLink (h : s.Inv) (len : Nat) {target : Word} (ht : target.getLsbD 0 = false) :
    EndsIn State.Inv (s.execLink len target) := (h.setA 11 _).jump ht

theorem execLoop (h : s.Inv) (b : Reg) (disp : BitVec 15) : EndsIn State.Inv (Machine.execLoop b disp s) := by
  unfold Machine.execLoop
  extract_lets t
  have ht : t.Inv := h.setA b _
  refine h.conclude _ ?_
  split
  · exact ht.jump (h.relative disp)
  · exact ht.advance (by decide)

theorem execCallTo (h : s.Inv) (len : Nat) {target : Word} (ht : target.getLsbD 0 = false) :
    EndsIn State.Inv (s.execCallTo len target) := by
  unfold State.execCallTo
  extract_lets p counts t
  have h1 : t.Inv := (h.saveUpper _).modPsw _
  exact h.conclude _ ((h1.setA 11 _).jump ht)

theorem execReturn (h : s.Inv) : EndsIn State.Inv s.execReturn :=
  h.conclude _ ((h.restoreUpper _).jump (even_bit0 _))

theorem execRfeBody (h : s.Inv) : EndsIn State.Inv s.execRfeBody := h.conclude _ h.leave

theorem execBisrTo (h : s.Inv) (hlen : len % 2 = 0) (ccpn : Byte) : EndsIn State.Inv (s.execBisrTo len ccpn) :=
  h.conclude _ ((h.saveLower.hwCurIcr _).advance hlen)

theorem execFcallTo (h : s.Inv) {target : Word} (ht : target.getLsbD 0 = false) :
    EndsIn State.Inv (s.execFcallTo target) := by
  unfold State.execFcallTo
  extract_lets ea x
  exact h.conclude _ ((((h.store x _).setA 10 ea).setA 11 _).jump ht)

theorem execFastReturn (h : s.Inv) : EndsIn State.Inv s.execFastReturn := by
  unfold State.execFastReturn
  extract_lets ea x
  exact (h.issued x _).conclude _ ((((h.loaded x).setA 11 _).setA 10 _).jump (even_bit0 _))

theorem storeContext (h : s.Inv) (m : MemOp) (block : List Word) : EndsIn State.Inv (s.storeContext m block) := by
  unfold State.storeContext
  extract_lets x
  exact h.conclude _ ((h.store x _).advance (by decide))

theorem loadContext (h : s.Inv) (m : MemOp) {put : State → (Nat → Word) → State}
    (hput : ∀ t w, State.Inv t → (put t w).Inv) : EndsIn State.Inv (s.loadContext m put) := by
  unfold State.loadContext
  extract_lets x
  exact (h.issued x _).conclude _ ((hput _ _ (h.loaded x)).advance (by decide))

theorem execCache (h : s.Inv) (priv : Verdict) (m : MemOp) : EndsIn State.Inv (s.execCache priv m) := by
  unfold State.execCache
  extract_lets r
  exact h.conclude _ ((h.applyUpdate r).advance (by decide))

theorem setIe (h : s.Inv) (b : Bool) : (s.setIe b).Inv := h.hwCurIcr _

theorem execDebugBody (h : s.Inv) (hlen : len % 2 = 0) : EndsIn State.Inv (s.execDebugBody len) := by
  unfold State.execDebugBody
  extract_lets armed
  have hb := h.before armed 2 .swevt
  split
  · rename_i t ht
    rw [ht] at hb
    exact hb.of_eq rfl rfl rfl
  · rename_i t ht
    rw [ht] at hb
    exact (hb.advance hlen).after _ _ _ _

theorem leaveMonitor (h : s.Inv) : s.leaveMonitor.Inv := by
  unfold State.leaveMonitor
  extract_lets target s1 s2
  have h1 : s1.Inv := h.restoreIcr.hwPcxi _ _
  have h2 : s2.Inv := (h1.modPsw _).hwSys _ _ _
  exact ((h2.setA 10 _).setA 11 _).sync.withPc (even_bit0 _)

theorem execRfm (h : s.Inv) : EndsIn State.Inv (Machine.execRfm s) := by
  refine h.conclude _ ?_
  split
  · exact h.leaveMonitor
  · exact h.advance (by decide)

theorem execHvcall (h : s.Inv) (k : BitVec 8) : EndsIn State.Inv (Machine.execHvcall k s) := by
  unfold Machine.execHvcall
  split
  · exact h.conclude _ h
  split
  · exact h.advance (by decide)
  · exact h.takeHvTrap _ _ _

theorem execRfh (h : s.Inv) : EndsIn State.Inv (Machine.execRfh s) := h.conclude _ (h.leave.setCvmn _)

/-! ### The FPU -/

theorem captureSrc (h : s.Inv) (l u : RepReg) (use : Nat) (src : Option Nat) : (s.captureSrc l u use src).Inv := by
  unfold State.captureSrc
  extract_lets w
  exact (h.hwCurRep l _).hwCurRep u _

theorem captureAsync (h : s.Inv) (op : FpuOp) (r : FpResult) (rm : BitVec 2) : (s.captureAsync op r rm).Inv := by
  unfold State.captureAsync
  extract_lets s1 s2 s3 s4
  have h1 : s1.Inv := h.hwCurRep _ _
  have h2 : s2.Inv := (h1.hwCurRep _ _).hwCurRep _ _
  have h3 : s3.Inv := (h2.captureSrc _ _ _ _).captureSrc _ _ _ _
  have h4 : s4.Inv := h3.captureSrc _ _ _ _
  exact h4.of_eq rfl rfl rfl

theorem captureSync (h : s.Inv) (op : FpuOp) (r : FpResult) (rm : BitVec 2) : (s.captureSync op r rm).Inv := by
  unfold State.captureSync
  extract_lets s1
  have h1 : s1.Inv := h.hwCurRep _ _
  exact h1.hwCurRep _ _

theorem execFpu (h : s.Inv) (op : FpuOp) (opd : Verdict) (r : FpResult) (flags : Word → Word) {put : State → State}
    (hput : (put s).Inv) : EndsIn State.Inv (s.execFpu op opd r flags put) := by
  unfold State.execFpu
  split
  · split
    · exact (h.captureSync op r s.rm).takeTrap 2 6 s.pc
    · extract_lets s1
      have h1 : s1.Inv := hput.modPsw flags
      refine advance ?_ (by decide)
      split
      · exact h1.captureAsync op r s.rm
      · exact h1
  · exact h.conclude _ h

theorem execSp (h : s.Inv) (c : Reg) (opc : Option (Bool × Byte)) (src1 src2 src3 : Option Nat) (r : FpResult) :
    EndsIn State.Inv (s.execSp c opc src1 src2 src3 r) := h.execFpu _ _ r _ (h.setD c _)

theorem execDp (h : s.Inv) (c : Reg) (pairs : List Reg) (src1 src2 src3 : Option Nat) (r : FpResult) :
    EndsIn State.Inv (s.execDp c pairs src1 src2 src3 r) := h.execFpu _ _ r _ (h.setE c _)

theorem execDpWord (h : s.Inv) (c : Reg) (pairs : List Reg) (src1 src2 : Option Nat) (r : FpResult) :
    EndsIn State.Inv (s.execDpWord c pairs src1 src2 r) := h.execFpu _ _ r _ (h.setD c _)

theorem execUpdfl (h : s.Inv) (a : Reg) : EndsIn State.Inv (Machine.execUpdfl a s) := by
  unfold Machine.execUpdfl
  extract_lets m v set r
  exact h.execFpu _ _ r _ h

/-! ### The moves of core registers -/

theorem csfrReadEffect (h : s.Inv) (c : Csfr) : (s.csfrReadEffect c).Inv := by
  unfold State.csfrReadEffect
  split
  · rename_i hc
    subst hc
    exact h.hwSys _ _ _
  · exact h

theorem moveReadEffect (h : s.Inv) (c : Option Csfr) : (s.moveReadEffect c).Inv := by
  cases c with
  | none => exact h
  | some c => exact h.csfrReadEffect c

theorem csfrWriteEffect (h : s.Inv) (r : Resource) (c : Csfr) (v : Word) : (s.csfrWriteEffect r c v).Inv := by
  unfold State.csfrWriteEffect
  split
  · exact h.hwRep _ _ _
  · exact h.of_eq rfl rfl rfl
  · split
    · exact h.hwSys _ _ _
    · exact h
  · split
    · exact h.hwSys _ _ _
    · exact h
  · exact h.of_eq rfl rfl rfl
  · exact h

/-- A write to the pc has no effect (10_state R46); any other register is no part of the invariant. -/
theorem csfrWrite (h : s.Inv) (r : Resource) (c : Csfr) (v : Word) (override : Bool) :
    (s.csfrWrite r c v override).Inv := by
  unfold State.csfrWrite
  by_cases hc : c = .pc
  · subst hc
    exact h.of_eq rfl rfl rfl
  · exact (h.csfrWriteEffect r c v).setRaw r hc _

theorem moveWrite (h : s.Inv) (r : Resource) (c : Csfr) (v : Word) : (s.moveWrite r c v).Inv := by
  unfold State.moveWrite
  split
  · exact h
  · extract_lets own override k t
    have ht : t.Inv := h.csfrWrite r c v override
    exact ht.of_eq rfl rfl rfl

theorem movePut (h : s.Inv) (r : Resource) (c : Option Csfr) (v : Word) : (s.movePut r c v).Inv := by
  cases c with
  | none => exact h
  | some c => exact h.moveWrite r c v

theorem execMove (h : s.Inv) (const16 : BitVec 16) (pair write : Bool) (opd : Verdict)
    (writes : State → List (Option Csfr × Word)) {effect : State → State}
    (heffect : ∀ t, State.Inv t → (effect t).Inv) :
    EndsIn State.Inv (s.execMove const16 pair write opd writes effect) := by
  unfold State.execMove
  extract_lets armed
  split
  · have hb := h.before armed 1 .crevt
    split
    · rename_i t ht
      rw [ht] at hb
      exact hb.of_eq rfl rfl rfl
    · rename_i t ht
      rw [ht] at hb
      exact hb.conclude _ (((heffect t hb).advance (by decide)).after _ _ _ _)
  · exact h.conclude _ h

theorem execMfcr (h : s.Inv) (c : Reg) (k : BitVec 16) : EndsIn State.Inv (Machine.execMfcr c k s) :=
  h.execMove _ _ _ _ _ fun _ ht => (ht.moveReadEffect _).setD c _

theorem execMtcr (h : s.Inv) (k : BitVec 16) (a : Reg) : EndsIn State.Inv (Machine.execMtcr k a s) :=
  h.execMove _ _ _ _ _ fun _ ht => ht.movePut _ _ _

theorem execMfdcr (h : s.Inv) (c : Reg) (k : BitVec 16) : EndsIn State.Inv (Machine.execMfdcr c k s) :=
  h.execMove _ _ _ _ _ fun _ ht => (((ht.moveReadEffect _).moveReadEffect _).setD c _).setD (c + 1) _

theorem execMtdcr (h : s.Inv) (k : BitVec 16) (a : Reg) : EndsIn State.Inv (Machine.execMtdcr k a s) :=
  h.execMove _ _ _ _ _ fun _ ht => (ht.movePut _ _ _).movePut _ _ _

/-! ### Loads, stores and read-modify-writes -/

theorem ldB (h : s.Inv) (hlen : len % 2 = 0) (a : Reg) (m : MemOp) : EndsIn State.Inv (s.ldB len a m) :=
  h.execLoad hlen _ _ _ _ _ fun _ _ ht => ht.setD a _

theorem ldBu (h : s.Inv) (hlen : len % 2 = 0) (a : Reg) (m : MemOp) : EndsIn State.Inv (s.ldBu len a m) :=
  h.execLoad hlen _ _ _ _ _ fun _ _ ht => ht.setD a _

theorem ldH (h : s.Inv) (hlen : len % 2 = 0) (a : Reg) (m : MemOp) : EndsIn State.Inv (s.ldH len a m) :=
  h.execLoad hlen _ _ _ _ _ fun _ _ ht => ht.setD a _

theorem ldHu (h : s.Inv) (hlen : len % 2 = 0) (a : Reg) (m : MemOp) : EndsIn State.Inv (s.ldHu len a m) :=
  h.execLoad hlen _ _ _ _ _ fun _ _ ht => ht.setD a _

theorem ldW (h : s.Inv) (hlen : len % 2 = 0) (a : Reg) (m : MemOp) : EndsIn State.Inv (s.ldW len a m) :=
  h.execLoad hlen _ _ _ _ _ fun _ _ ht => ht.setD a _

theorem ldD (h : s.Inv) (hlen : len % 2 = 0) (a : Reg) (m : MemOp) : EndsIn State.Inv (s.ldD len a m) :=
  h.execLoad hlen _ _ _ _ _ fun _ _ ht => ht.setE a _

theorem ldA (h : s.Inv) (hlen : len % 2 = 0) (a : Reg) (m : MemOp) : EndsIn State.Inv (s.ldA len a m) :=
  h.execLoad hlen _ _ _ _ _ fun _ _ ht => ht.setA a _

theorem ldDa (h : s.Inv) (hlen : len % 2 = 0) (a : Reg) (m : MemOp) : EndsIn State.Inv (s.ldDa len a m) :=
  h.execLoad hlen _ _ _ _ _ fun _ _ ht => (ht.setA a _).setA (a + 1) _

theorem stB (h : s.Inv) (hlen : len % 2 = 0) (m : MemOp) (a : Reg) : EndsIn State.Inv (s.stB len m a) :=
  h.execStore hlen _ _ _ _ _ _

theorem stH (h : s.Inv) (hlen : len % 2 = 0) (m : MemOp) (a : Reg) : EndsIn State.Inv (s.stH len m a) :=
  h.execStore hlen _ _ _ _ _ _

theorem stW (h : s.Inv) (hlen : len % 2 = 0) (m : MemOp) (a : Reg) : EndsIn State.Inv (s.stW len m a) :=
  h.execStore hlen _ _ _ _ _ _

theorem stD (h : s.Inv) (hlen : len % 2 = 0) (m : MemOp) (a : Reg) : EndsIn State.Inv (s.stD len m a) :=
  h.execStore hlen _ _ _ _ _ _

theorem stA (h : s.Inv) (hlen : len % 2 = 0) (m : MemOp) (a : Reg) : EndsIn State.Inv (s.stA len m a) :=
  h.execStore hlen _ _ _ _ _ _

theorem stDa (h : s.Inv) (hlen : len % 2 = 0) (m : MemOp) (a : Reg) : EndsIn State.Inv (s.stDa len m a) :=
  h.execStore hlen _ _ _ _ _ _

theorem swapW (h : s.Inv) (hlen : len % 2 = 0) (m : MemOp) (a : Reg) : EndsIn State.Inv (s.swapW len m a) :=
  h.execRmw hlen _ _ _ _ _ _

theorem ldmst (h : s.Inv) (hlen : len % 2 = 0) (m : MemOp) (a : Reg) : EndsIn State.Inv (s.ldmst len m a) :=
  h.execRmw hlen _ _ _ _ _ _

theorem swapmskW (h : s.Inv) (hlen : len % 2 = 0) (m : MemOp) (a : Reg) : EndsIn State.Inv (s.swapmskW len m a) :=
  h.execRmw hlen _ _ _ _ _ _

theorem cmpswapW (h : s.Inv) (hlen : len % 2 = 0) (m : MemOp) (a : Reg) : EndsIn State.Inv (s.cmpswapW len m a) :=
  h.execRmw hlen _ _ _ _ _ _

end Courses

/-- Every instruction keeps the invariant: each goes through one of the courses above. -/
theorem exec (h : s.Inv) (i : Instr) : EndsIn State.Inv (Machine.exec i s) := by
  unfold Machine.exec
  cases i with
  | restore | enable | disable => exact h.conclude _ ((h.setIe _).advance (by decide))
  | disableD => exact h.conclude _ (((h.setIe _).setD _ _).advance (by decide))
  | bisr | bisr16 => exact h.execBisrTo (by decide) _
  | syscall => exact h.takeTrap _ _ _
  | mfcr => exact h.execMfcr _ _
  | mtcr => exact h.execMtcr _ _
  | call | call16 => exact h.execCallTo _ (h.relative _)
  | calla => exact h.execCallTo _ (absoluteTarget_bit0 _)
  | calli => exact h.execCallTo _ (even_bit0 _)
  | fcall => exact h.execFcallTo (h.relative _)
  | fcalla => exact h.execFcallTo (absoluteTarget_bit0 _)
  | fcalli => exact h.execFcallTo (even_bit0 _)
  | jl => exact h.execLink _ (h.relative _)
  | jzT | jzT16 | j | jeq | jeqC | jne | jneC | jnzT => exact h.execBranch (by decide) _ _
  | stlcxAbs | stucxAbs | stlcxOff | stucxOff => exact h.storeContext _ _
  | ldlcxAbs | ldlcxOff => exact h.loadContext _ fun _ _ ht => ht.setLower _
  | lducxAbs | lducxOff => exact h.loadContext _ fun _ _ ht => ht.setUpper _
  | leaOff | leaAbs | leaLong | addscA | addscAt | movhA | movA | movAa => exact h.execA (by decide) _ _
  | swapWOff | swapWPost | swapWPre | swapWRev | swapWCirc | swapWAbs => exact h.swapW (by decide) _ _
  | ldmstOff | ldmstPost | ldmstPre | ldmstRev | ldmstCirc | ldmstAbs => exact h.ldmst (by decide) _ _
  | swapmskWOff | swapmskWPost | swapmskWPre | swapmskWRev | swapmskWCirc => exact h.swapmskW (by decide) _ _
  | cmpswapWOff | cmpswapWPost | cmpswapWPre | cmpswapWRev | cmpswapWCirc => exact h.cmpswapW (by decide) _ _
  | stT => exact h.execRmw (by decide) _ _ _ _ _ _
  | ldBAbs | ldBOff | ldBPost | ldBPre | ldBRev | ldBCirc | ldBLong => exact h.ldB (by decide) _ _
  | ldBuAbs | ldBuOff | ldBuPost | ldBuPre | ldBuRev | ldBuCirc | ldBuLong => exact h.ldBu (by decide) _ _
  | ldHAbs | ldHOff | ldHPost | ldHPre | ldHRev | ldHCirc | ldHLong => exact h.ldH (by decide) _ _
  | ldHuAbs | ldHuOff | ldHuPost | ldHuPre | ldHuRev | ldHuCirc | ldHuLong => exact h.ldHu (by decide) _ _
  | ldWAbs | ldWOff | ldWPost | ldWPre | ldWRev | ldWCirc | ldWLong | ldW16 => exact h.ldW (by decide) _ _
  | ldDAbs | ldDOff | ldDPost | ldDPre | ldDRev | ldDCirc => exact h.ldD (by decide) _ _
  | ldAAbs | ldAOff | ldAPost | ldAPre | ldARev | ldACirc | ldALong => exact h.ldA (by decide) _ _
  | ldDaAbs | ldDaOff | ldDaPost | ldDaPre | ldDaRev | ldDaCirc => exact h.ldDa (by decide) _ _
  | stBAbs | stBOff | stBPost | stBPre | stBRev | stBCirc | stBLong => exact h.stB (by decide) _ _
  | stHAbs | stHOff | stHPost | stHPre | stHRev | stHCirc | stHLong => exact h.stH (by decide) _ _
  | stWAbs | stWOff | stWPost | stWPre | stWRev | stWCirc | stWLong | stW16 => exact h.stW (by decide) _ _
  | stDAbs | stDOff | stDPost | stDPre | stDRev | stDCirc => exact h.stD (by decide) _ _
  | stAAbs | stAOff | stAPost | stAPre | stARev | stACirc | stALong => exact h.stA (by decide) _ _
  | stDaAbs | stDaOff | stDaPost | stDaPre | stDaRev | stDaCirc => exact h.stDa (by decide) _ _
  | cacheaWOff | cacheaWPost | cacheaWPre | cacheaWiOff | cacheaWiPost | cacheaWiPre | cacheaIOff | cacheaIPost
  | cacheaIPre | cacheiWOff | cacheiWPost | cacheiWPre | cacheiIOff | cacheiIPost | cacheiIPre | cacheiWiOff
  | cacheiWiPost | cacheiWiPre =>
    exact h.execCache _ _
  | add | addC | addx | addxC | addc | addcC | addi | sub | add16C | add16R => exact h.execArith (by decide) _ _ _
  | extrU | extrUWidth | movConst | movh | mov | movD | and | andC | or | orC | xor | xorC | eq | eqC | lt | ltC
  | mov16C | mov16R =>
    exact h.writeD (by decide) _ _
  | extrUReg => exact h.execD (by decide) _ _ _
  | addF | subF | maddF | msubF | cmpF | mulF | divF | ftoi | ftoq31 | ftou | ftoiz | itof | q31tof | utof | ftouz
  | ftoq31z | qseedF | hptof | ftohp | absF | negF | minF | maxF | ftoin =>
    exact h.execSp _ _ _ _ _ _
  | updfl => exact h.execUpdfl _
  | ja => exact h.jump (absoluteTarget_bit0 _)
  | jla => exact h.execLink _ (absoluteTarget_bit0 _)
  | ji | jri => exact h.jump (even_bit0 _)
  | jli => exact h.execLink _ (even_bit0 _)
  | loop => exact h.execLoop _ _
  | nop | dsync | nop16 => exact h.advance (by decide)
  | fret | fret16 => exact h.execFastReturn
  | debug | debug16 => exact h.execDebugBody (by decide)
  | rfm => exact h.execRfm
  | ret | ret16 => exact h.execReturn
  | rfe | rfe16 => exact h.execRfeBody
  | svlcx => exact h.conclude _ (h.saveLower.advance (by decide))
  | rslcx => exact h.conclude _ (h.restoreLower.advance (by decide))
  | isync => exact h.sync.advance (by decide)
  | trapv | trapsv => exact h.conclude _ (h.advance (by decide))
  | mfdcr => exact h.execMfdcr _ _
  | mtdcr => exact h.execMtdcr _ _
  | hvcall => exact h.execHvcall _
  | rfh => exact h.execRfh
  | trapinv => exact h.conclude _ h
  | ldDd => exact h.execLoad (by decide) _ _ _ _ _ fun _ _ ht => ht.setQ _ _
  | stDd => exact h.execStore (by decide) _ _ _ _ _ _
  | addDf | subDf | mulDf | divDf | maddDf | msubDf | qseedDf | dftol | dftolz | dftoul | dftoulz | ltodf =>
    exact h.execDp _ _ _ _ _ _
  | cmpDf | dftoi | dftoin | dftoiz | dftou | dftouz => exact h.execDpWord _ _ _ _ _

/-! ## Boundaries -/

theorem takeFcd (h : s.Inv) : s.takeFcd.Inv := by
  have hp : ({ s with fcdPending := false } : State).Inv := h.of_eq rfl rfl rfl
  exact (hp.hwCurRep .corecon fun w => setBit w 0 true).takeTrap 3 1 s.pc

theorem takeNmi (h : s.Inv) : s.takeNmi.Inv := by
  unfold State.takeNmi
  extract_lets t
  have ht : t.Inv := h.of_eq rfl rfl rfl
  split
  · exact ht.takeTrapInHv 7 0 s.pc
  · exact ht.takeTrap 7 0 s.pc

theorem takeTae (h : s.Inv) : s.takeTae.Inv := (h.hwCurRep _ _).takeTrap 4 7 s.pc

theorem asyncTrap (h : s.Inv) : ∀ t ∈ s.asyncTrap, t.Inv := by
  unfold State.asyncTrap
  intro t ht
  split at ht
  · exact Option.some.inj ht ▸ h.takeNmi
  split at ht
  · have hp : ({ s with pendDae := false } : State).Inv := h.of_eq rfl rfl rfl
    exact Option.some.inj ht ▸ hp.takeTrapInHv 4 3 s.pc
  split at ht
  · have hp : ({ s with pendCae := false } : State).Inv := h.of_eq rfl rfl rfl
    exact Option.some.inj ht ▸ hp.takeTrap 4 4 s.pc
  split at ht
  · exact Option.some.inj ht ▸ h.takeTae
  · obtain ⟨a, -, rfl⟩ := Option.map_eq_some_iff.mp ht
    have hp : ({ s with pendDie := none } : State).Inv := h.of_eq rfl rfl rfl
    exact hp.takeDie a

theorem takeIrqOf (h : s.Inv) (n : BitVec 3) : (s.takeIrqOf n).Inv := by
  unfold State.takeIrqOf
  extract_lets pipn
  split
  · exact h.enter _
  split
  · exact h.enter _
  · exact h.enter _

theorem interrupt (h : s.Inv) : ∀ t ∈ s.interrupt, t.Inv := by
  intro t ht
  obtain ⟨n, -, rfl⟩ := Option.map_eq_some_iff.mp ht
  exact h.takeIrqOf n

theorem externalEvent (h : s.Inv) : ∀ t ∈ s.externalEvent, t.Inv := by
  unfold State.externalEvent
  intro t ht
  split at ht
  · have hp : ({ s with breakIn := false } : State).Inv := h.of_eq rfl rfl rfl
    exact Option.some.inj ht ▸ hp.debugEvent 0 _ h.pc
  · contradiction

theorem request (h : s.Inv) : ∀ t ∈ s.request, t.Inv := by
  unfold State.request
  intro t ht
  split at ht
  next u hu => exact Option.some.inj ht ▸ h.externalEvent u hu
  next =>
    split at ht
    next u hu => exact Option.some.inj ht ▸ h.asyncTrap u hu
    next => exact h.interrupt t ht

/-! ## Counters and timers -/

theorem count (h : s.Inv) (x : RepReg) (n : Nat) : (s.count x n).Inv := by
  unfold State.count
  split
  · exact h.hwCurRep x _
  · exact h

theorem tickTimer (h : s.Inv) (x : Fin 3) : (s.tickTimer x).Inv := by
  unfold State.tickTimer
  extract_lets v t
  have ht : t.Inv := h.hwCurRep _ _
  split
  · exact h
  split
  · exact ht.hwCurRep _ _
  · exact ht

theorem tick (h : s.Inv) : s.tick.Inv := (((h.tickTimer 0).tickTimer 1).tickTimer 2).count .ccnt 1

theorem clock (h : s.Inv) : s.clock.Inv := (((h.count _ _).count _ _).count _ _).tick

/-! ## Around an instruction -/

theorem finish (s : State) (i : Instr) (ht : t.Inv) : (s.finish i t).Inv := by
  unfold State.finish
  extract_lets t1 t2
  have h1 : t1.Inv := (ht.count .icnt 1).record _
  have h2 : t2.Inv := by
    unfold t2
    split
    · exact h1.debugEvent _ _ h1.pc
    · exact h1
  split
  · exact ht.clock
  · exact h2.clock

theorem around (h : s.Inv) (i : Instr) : EndsIn State.Inv (s.around i) := by
  have hi := h.exec i
  unfold State.around
  split
  next t he =>
    rw [he] at hi
    exact finish s i hi
  all_goals trivial

theorem takeFetchTrap (h : s.Inv) (cls : BitVec 3) (tin : Byte) : (s.takeFetchTrap cls tin).Inv := by
  unfold State.takeFetchTrap
  split
  next a _ =>
    have hp : ({ s with fetchError := none } : State).Inv := h.of_eq rfl rfl rfl
    split
    · exact hp.takePie a
    · exact h.takeTrap cls tin s.pc
  next => exact h.takeTrap cls tin s.pc

theorem fetchAndRun (h : s.Inv) : EndsIn State.Inv s.fetchAndRun := by
  unfold State.fetchAndRun
  cases s.fetchCheck with
  | go =>
    cases s.fetched with
    | some i => exact h.around i
    | none => exact (h.takeTrap 2 1 s.pc).clock
  | hv cls tin => exact (h.takeHvTrap cls tin s.pc).clock
  | trap cls tin => exact (h.takeFetchTrap cls tin).clock
  | fcu lost => exact (h.fcuEntry lost).clock
  | refuse r | fault f => trivial

theorem begin (h : s.Inv) : s.begin.Inv := by
  unfold State.begin
  extract_lets t
  have ht : t.Inv := h.of_eq rfl rfl rfl
  exact ht.record _

theorem runInstr (h : s.Inv) : EndsIn State.Inv s.runInstr := by
  unfold State.runInstr
  extract_lets t
  have ht : t.Inv := h.begin
  cases t.pcBbm t.pc with
  | none => exact ht.fetchAndRun
  | some n =>
    have hu := ht.trigEvent n ht.pc
    cases hev : t.trigEvent n t.pc with
    | mk u acted =>
      rw [hev] at hu
      cases acted with
      | true => simpa only [hev, endsIn_next] using hu
      | false => simpa only [hev] using hu.fetchAndRun

theorem coreStep (h : s.Inv) (hold : Bool) : EndsIn State.Inv (s.coreStep hold) := by
  unfold State.coreStep
  split
  · exact h
  split
  · exact h.takeFcd
  split
  next t ht =>
    cases hold with
    | true => contradiction
    | false => exact h.request t ht
  next => exact h.runInstr

/-! ## The host -/

theorem doReset (h : s.Inv) : s.doReset.Inv := ⟨h.memory, h.resetPc, h.resetPc⟩

theorem hostReadMem (h : s.Inv) (addr : Word) (size : Nat) : (s.hostReadMem addr size).Inv := by
  unfold State.hostReadMem
  extract_lets addrs
  split
  · exact h.emit _
  · exact h
  · exact h.emit _

theorem hostWriteMem (h : s.Inv) (addr : Word) (size value : Nat) : (s.hostWriteMem addr size value).Inv := by
  unfold State.hostWriteMem
  extract_lets addrs
  have haddrs : ∀ a ∈ addrs, a < 2 ^ 32 := by
    intro a ha
    obtain ⟨k, -, rfl⟩ := List.mem_map.mp ha
    exact BitVec.isLt _
  split
  · exact h.writeAt haddrs value
  · exact h
  · exact h.emit _

theorem hostRead (h : s.Inv) (r : Resource) (offset : BitVec 16) : (s.hostRead r offset).Inv := by
  unfold State.hostRead
  split
  · exact h.emit _
  · exact h.emit _
  · exact h.emit _
  · exact (h.csfrReadEffect _).emit _

theorem hostWrite (h : s.Inv) (r : Resource) (offset : BitVec 16) (v : Word) : (s.hostWrite r offset v).Inv := by
  unfold State.hostWrite
  split
  · exact h.emit _
  · exact h.setD _ _
  · split
    · exact h.setHr r _
    · exact h.of_eq rfl rfl rfl
  · split
    · exact h.withPc (even_bit0 v)
    · exact h
  · split
    · exact h
    · exact (h.csfrWrite r _ v false).settle r _

theorem hostStep (h : s.Inv) (e : HostEvent) : (s.hostStep e).Inv := by
  unfold State.hostStep
  cases e with
  | setPipn vm pipn => exact h.hwSys .hv (.vmIcr vm) _
  | suspendIn level | debugEnable level => exact h.hwSys .hv .dbgsr _
  | nmi | dae | die addr | fetchError addr | breakIn | endinit isOpen | safetyEndinit isOpen =>
    exact h.of_eq rfl rfl rfl
  | readMem addr size => exact h.hostReadMem addr size
  | writeMem addr size value => exact h.hostWriteMem addr size value
  | readCsfr res offset => exact h.hostRead res offset
  | writeCsfr res offset value => exact h.hostWrite res offset value
  | tick =>
    change (if s.halted then s else s.tick).Inv
    split
    · exact h
    · exact h.tick
  | reset => exact h.doReset

/-! ## The step -/

theorem withSchedule (h : s.Inv) (rest : List Sched) : ({ s with schedule := rest } : State).Inv := h.of_eq rfl rfl rfl

theorem scheduled (h : s.Inv) : EndsIn State.Inv s.scheduled := by
  unfold State.scheduled
  split
  · exact h.coreStep false
  · exact (h.withSchedule _).coreStep false
  · exact (h.withSchedule _).coreStep true
  · exact (h.withSchedule _).hostStep _

theorem nextDraw (h : s.Inv) (n : Nat) : (s.nextDraw n).Inv := h.of_eq rfl rfl rfl

theorem step (h : s.Inv) : EndsIn State.Inv (Machine.step s) := by
  have hsched := h.scheduled
  unfold Machine.step
  split
  next t he =>
    rw [he] at hsched
    exact State.Inv.nextDraw hsched _
  all_goals trivial

end State.Inv

/-- Settles O9: whatever a step does, be it an instruction, an entry, a debug event or an event of the host, keeps
the invariant. -/
theorem stepKeepsTheInvariant : Obligations.step_keeps_the_invariant := by
  unfold Obligations.step_keeps_the_invariant
  intro s t h hstep
  have hnext := h.step
  rwa [hstep] at hnext

end Sys2Proof.Machine
end

section
/-! PROOFS. The checks of a data access and of a fetch: their order (20_memory R260, 46_virtualization R736) and the ranges
that decide them (20_memory R241 to R252, 46 R742). -/

namespace Sys2Proof.Machine

variable {s : State}

/-! ## The first check that fails (60_exceptions R852) -/

/-- A check that passes leaves the decision to the next, one that fails decides. -/
theorem Verdict.first_need {b : Bool} {v : Verdict} (hv : v ≠ .go) (rest : List Verdict) :
    Verdict.first (.need b v :: rest) = if b = true then Verdict.first rest else v := by
  cases b with
  | true => rfl
  | false => exact Verdict.first_append (vs := []) hv (by simp)

theorem Verdict.first_nil : Verdict.first [] = .go := rfl

/-! ## The order of the checks of a data access (20_memory R260) -/

/-- The mode may not access peripheral space (20 R232; IO = 11B as User-0, 93 U20). -/
theorem State.mppOk_iff {x : Access} : s.mppOk x = true ↔ ¬ (s.InPeripheral (segment x.ea) .data ∧
    (pswIo (s.ctl .psw .periphery) = 0 ∨ pswIo (s.ctl .psw .periphery) = 3)) := by
  rw [← State.peripheral_iff]
  simp [State.mppOk, imp_iff_not_or]

/-- A permission is asked about each of the listed bytes, of an access of its kind alone. -/
theorem permitted_iff {kind : Bool} {bytes : List Word} {ok : Word → Bool} :
    (!kind || bytes.all ok) = true ↔ (kind = true → ∀ a ∈ bytes, ok a = true) := by
  cases kind <;> simp

/-- The bus answers every load where nothing is with an error. -/
theorem State.loadError_of_none {x : Access} (h : s.kindOf x.addrs = none) : s.loadError x = true := by
  simp [State.loadError, h]

/-- The bus answers no load from memory with an error. -/
theorem State.loadError_of_ram {x : Access} (h : s.kindOf x.addrs = some .ram) : s.loadError x = false := by
  simp [State.loadError, h]

/-- The checks of a data access as one chain of decisions. -/
theorem State.check_eq (s : State) (x : Access) : s.check x =
    if s.memOk x = true then if s.alnOk x = true then if x.ea ≠ 0 then if s.mppOk x = true then
      if (!x.loads || (s.checkedBytes x).all s.l1Read) = true then
      if (!x.stores || (s.checkedBytes x).all s.l1Write) = true then
      if (!x.loads || (s.checkedBytes x).all s.l2Read) = true then
      if (!x.stores || (s.checkedBytes x).all s.l2Write) = true then
      if (!x.loads || !s.loadError x) = true then .go
      else .trap 4 2 else .hv 2 1 else .hv 2 0 else .trap 1 3 else .trap 1 2 else .trap 1 5 else .trap 1 6
      else .trap 2 4 else .trap 2 5 := by
  simp only [State.check, Verdict.first_need, Verdict.first_nil, ne_eq, reduceCtorEq, not_false_eq_true, bne_iff_ne]

/-- Settles O23: the checks are one chain of decisions, and each clause is a path through it. -/
theorem accessTrapsInOrder : Obligations.access_traps_in_order := by
  unfold Obligations.access_traps_in_order
  intro s x bytes io closed address reads writes reads2 writes2
  have hchain := s.check_eq x
  simp only [State.memOk_iff, State.alnOk_iff, State.mppOk_iff, permitted_iff] at hchain
  change s.check x = if s.Placed x then if s.Aligned x then if x.ea ≠ 0 then if ¬ closed then if reads then
    if writes then if reads2 then if writes2 then _ else _ else _ else _ else _ else _ else _ else _ else _ at hchain
  rw [hchain]
  refine ⟨rfl, fun hp => if_neg hp, fun hp ha => ?_, fun hp ha he => ?_, fun hp ha he hc => ?_, ?_, ?_, ?_, ?_, ?_, ?_⟩
  · rw [if_pos hp, if_neg ha]
  · rw [if_pos hp, if_pos ha, if_neg (not_not.mpr he)]
  · rw [if_pos hp, if_pos ha, if_pos he, if_neg (not_not.mpr hc)]
  all_goals rintro ⟨hp, ha, he, hc⟩; rw [if_pos hp, if_pos ha, if_pos he, if_pos hc]
  · exact fun hr => if_neg hr
  · intro hr hw
    rw [if_pos hr, if_neg hw]
  · intro hr hw hr2
    rw [if_pos hr, if_pos hw, if_neg hr2]
  · intro hr hw hr2 hw2
    rw [if_pos hr, if_pos hw, if_pos hr2, if_neg hw2]
  · intro hr hw hr2 hw2 hl hk
    rw [if_pos hr, if_pos hw, if_pos hr2, if_pos hw2]
    simp [hl, State.loadError_of_none hk]
  · intro hr hw hr2 hw2 h
    rw [if_pos hr, if_pos hw, if_pos hr2, if_pos hw2]
    rcases h with hl | hk
    · simp [hl]
    · simp [State.loadError_of_ram hk]

/-! ## The ranges (20_memory R241 to R252) -/

/-- An address is covered exactly by a range that exists, is enabled and holds it, its upper bound exclusive. -/
theorem covered_iff {count : Nat} {mask : Word} {lower upper : Fin 32 → Word} {a : Word} :
    covered count mask lower upper a = true ↔ ∃ n : Fin 32, n.val < count ∧ bit mask n.val = true ∧
      (lower n).toNat ≤ a.toNat ∧ a.toNat < (upper n).toNat := by
  simp [covered, and_assoc]

/-- With no update open, the enable register of a set enables a range only if the set exists (20 R246, 92 D17). -/
theorem State.bit_setMask (hw : s.window = []) (r : Resource) (reg : Fin 8 → RepReg) (x : BitVec 3) (u : Use) (k : Nat) :
    bit (s.setMask r reg x u) k = true ↔ x.toNat < s.cfg.nPrs ∧ bit (s.getRep r (reg x.toFin)) k = true := by
  unfold State.setMask
  split
  · simp [*, State.eff_of_window_nil s hw, State.raw]
  · simp [*, bit]

theorem State.readAllowed_iff (hw : s.window = []) (r : Resource) (x : BitVec 3) (a : Word) :
    s.readAllowed r x a = true ↔ s.InDataRange r x .dpre a := by
  simp only [State.readAllowed, covered_iff, State.bit_setMask hw, State.eff_of_window_nil s hw, State.raw]
  grind

theorem State.writeAllowed_iff (hw : s.window = []) (r : Resource) (x : BitVec 3) (a : Word) :
    s.writeAllowed r x a = true ↔ s.InDataRange r x .dpwe a := by
  simp only [State.writeAllowed, covered_iff, State.bit_setMask hw, State.eff_of_window_nil s hw, State.raw]
  grind

theorem State.fetchAllowed_iff (hw : s.window = []) (r : Resource) (x : BitVec 3) (a : Word) :
    s.fetchAllowed r x a = true ↔ s.InCodeRange r x a := by
  simp only [State.fetchAllowed, covered_iff, State.bit_setMask hw, State.eff_of_window_nil s hw, State.raw]
  grind

/-- Outside debug mode there is no emulator space (45_debug R646). -/
theorem State.emulatorSpace_off (h : s.debugMode = false) (u : Use) : s.emulatorSpace u = false := by
  simp [State.emulatorSpace, h]

/-- A level of protection permits an access where it does not act, or where a range does. -/
theorem level_iff {acts range : Bool} {p q : Prop} (ha : acts = true ↔ p) (hr : range = true ↔ q) :
    (!acts || range) = true ↔ (p → q) := by
  rw [← ha, ← hr]
  cases acts <;> simp

/-- Settles O24: each level permits an access where it does not act or one of its enabled ranges holds the address. -/
theorem rangesDecideAccess : Obligations.ranges_decide_access := by
  unfold Obligations.ranges_decide_access
  intro s a hw on set guestSet
  have hon : ∀ u, s.protEn u = true ↔ on := fun u => by
    rw [State.protEn, State.ctl_of_window_nil s hw]
    rfl
  have hset : ∀ u, s.prs u = set := fun u => by
    rw [State.prs, State.ctl_of_window_nil s hw]
    rfl
  have hguestSet : s.l2Prs = guestSet := by
    rw [State.l2Prs, State.eff_of_window_nil s hw]
    rfl
  refine ⟨fun hd => ⟨?_, ?_, ?_⟩, level_iff Iff.rfl ?_, level_iff Iff.rfl ?_, level_iff Iff.rfl ?_⟩
  · rw [State.l1Read, State.emuData, State.emulatorSpace_off hd, Bool.false_and, Bool.or_false, hset]
    exact level_iff (hon .data) (State.readAllowed_iff hw s.res set a)
  · rw [State.l1Write, State.emuData, State.emulatorSpace_off hd, Bool.false_and, Bool.or_false, hset]
    exact level_iff (hon .data) (State.writeAllowed_iff hw s.res set a)
  · rw [State.l1Fetch, State.emuFetch, State.emulatorSpace_off hd, Bool.false_and, Bool.or_false, hset]
    exact level_iff (hon .fetch) (State.fetchAllowed_iff hw s.res set a)
  · exact hguestSet ▸ State.readAllowed_iff hw .hv s.l2Prs a
  · exact hguestSet ▸ State.writeAllowed_iff hw .hv s.l2Prs a
  · exact hguestSet ▸ State.fetchAllowed_iff hw .hv s.l2Prs a

end Sys2Proof.Machine
end

section
/-! PROOFS. A step of a ready machine (20_memory R261, 60_exceptions R852): the state in which the instruction starts, its
fetch, and what the fetch comes to. -/

namespace Sys2Proof.Machine

variable {s : State}

/-! ## The start of an instruction (45_debug R630) -/

/-- The record of the active triggers writes TRIG_ACC alone. -/
theorem State.record_cases (s : State) (active : Fin 8 → Bool) :
    s.record active = s ∨ ∃ f, s.record active = s.hw .hv (.sys .trigAcc) f := by
  unfold State.record
  split
  · exact .inr ⟨_, rfl⟩
  · exact .inl rfl

/-- The start of an instruction marks the state and writes TRIG_ACC alone. -/
theorem State.begin_cases (s : State) : s.begin = { s with entered := false, evt := false } ∨
    ∃ f, s.begin = ({ s with entered := false, evt := false } : State).hw .hv (.sys .trigAcc) f :=
  State.record_cases _ _

@[simp] theorem State.begin_pc (s : State) : s.begin.pc = s.pc := by
  rcases s.begin_cases with h | ⟨f, h⟩ <;> simp [h]

@[simp] theorem State.begin_cfg (s : State) : s.begin.cfg = s.cfg := by
  rcases s.begin_cases with h | ⟨f, h⟩ <;> simp [h]

@[simp] theorem State.begin_mem (s : State) : s.begin.mem = s.mem := by
  rcases s.begin_cases with h | ⟨f, h⟩ <;> simp [h]

@[simp] theorem State.begin_fetchError (s : State) : s.begin.fetchError = s.fetchError := by
  rcases s.begin_cases with h | ⟨f, h⟩ <;> simp [h]

theorem State.getSys_begin (s : State) {x : SysReg} (hx : x ≠ .trigAcc) : s.begin.getSys x = s.getSys x := by
  rcases s.begin_cases with h | ⟨f, h⟩ <;> rw [h]
  · rfl
  · rw [State.getSys_hw_ne _ hx]
    rfl

@[simp] theorem State.begin_debugMode (s : State) : s.begin.debugMode = s.debugMode := by
  simp only [State.debugMode, s.getSys_begin (x := .dbgsr) (by simp)]

@[simp] theorem State.res_begin (s : State) : s.begin.res = s.res := by
  simp only [State.res, State.cvmn, State.begin_cfg, s.getSys_begin (x := .vcon1) (by simp)]

@[simp] theorem State.begin_byteAt (s : State) (a : Nat) : s.begin.byteAt a = s.byteAt a :=
  State.byteAt_of_mem s.begin_cfg s.begin_mem a

@[simp] theorem State.begin_codeBytes (s : State) (n : Nat) : s.begin.codeBytes n = s.codeBytes n := by
  simp [State.codeBytes, State.fetchAddr]

/-! ## The step -/

/-- A ready machine runs the instruction at the pc. -/
theorem State.scheduled_of_ready (h : s.ready = true) : s.scheduled = s.begin.fetchAndRun := by
  simp only [State.ready, Bool.and_eq_true, Bool.not_eq_true', List.isEmpty_iff, Option.isNone_iff_eq_none] at h
  obtain ⟨⟨⟨⟨hsched, hhalted⟩, hfcd⟩, hreq⟩, hbbm⟩ := h
  have hcore : s.coreStep false = s.runInstr := by simp [State.coreStep, hhalted, hfcd, hreq]
  have hrun : s.runInstr = s.begin.fetchAndRun := by simp [State.runInstr, hbbm]
  rw [← hrun, ← hcore]
  simp [State.scheduled, hsched]

/-- The step of a ready machine, from the run of its instruction. -/
theorem step_of_ready {t : State} (h : s.ready = true) (hrun : s.begin.fetchAndRun = .next t) :
    step s = .next (t.nextDraw s.draws) := by
  rw [← State.scheduled_of_ready h] at hrun
  simp [step, hrun]

/-! ## The instruction fetched (30_encoding R312) -/

/-- A decoder row of the configuration names the fetched word, and keeps to the length rule. -/
abbrev State.Names (s : State) (row : CodeRow) : Prop := row.word = s.begin.fetchWord ∧ FollowsLengthRule row

theorem State.codeRow_begin (s : State) : s.begin.codeRow = s.cfg.codes.find? fun row => decide (s.Names row) := by
  rw [State.codeRow_eq, State.begin_cfg]

theorem State.codeRow_begin_none (h : ∀ row ∈ s.cfg.codes, ¬ s.Names row) : s.begin.codeRow = none := by
  rw [State.codeRow_begin, List.find?_eq_none]
  simpa using h

/-- Where no row names the word, what the table decodes is fetched. -/
theorem State.fetched_of_decode {i : Instr} {rest : List Byte} (h : ∀ row ∈ s.cfg.codes, ¬ s.Names row)
    (hd : decode (s.codeBytes 4) = .ok (i, rest)) : s.begin.fetched = some i := by
  simp [State.fetched, State.codeRow_begin_none h, hd]

/-- Where no row names the word and the table decodes nothing, nothing is fetched. -/
theorem State.fetched_of_not_decode (h : ∀ row ∈ s.cfg.codes, ¬ s.Names row)
    (hd : ∀ i rest, decode (s.codeBytes 4) ≠ .ok (i, rest)) : s.begin.fetched = none := by
  cases hc : decode (s.codeBytes 4) with
  | ok p => exact absurd hc (hd p.1 p.2)
  | error e => simp [State.fetched, State.codeRow_begin_none h, hc]

/-- What the first row that names the word says is fetched. -/
theorem State.fetched_of_row {row : CodeRow} (h : (s.cfg.codes.find? fun row => decide (s.Names row)) = some row) :
    s.begin.fetched = row.instr.map Prod.fst := by
  simp [State.fetched, s.codeRow_begin.trans h]

/-- Settles O4: the step fetches the instruction and executes it. -/
theorem stepRunsTheDecodedInstruction : Obligations.step_runs_the_decoded_instruction := by
  unfold Obligations.step_runs_the_decoded_instruction
  intro s i rest hready hcheck names hnames
  have hfetched : s.begin.fetched = some i := by
    rcases hnames with ⟨hrows, hdecode⟩ | ⟨row, len, hrow, hinstr⟩
    · exact State.fetched_of_decode hrows hdecode
    · rw [State.fetched_of_row hrow, hinstr]
      rfl
  have hrun : s.begin.fetchAndRun = s.begin.around i := by simp [State.fetchAndRun, hcheck, hfetched]
  unfold step
  rw [State.scheduled_of_ready hready, hrun, State.around]
  cases exec i s.begin <;> rfl

/-! ## The addresses of the fetch (30_encoding R300, 20_memory R261) -/

/-- Where the first half-word can be read, bit 0 of the first byte gives the bytes of the instruction. -/
theorem State.fetchAddrs_begin (h : s.begin.codeRam 2 = true) : s.begin.fetchAddrs =
    (List.range (if (s.byteAt s.pc.toNat).getLsbD 0 then 4 else 2)).map fun k => s.pc + BitVec.ofNat 32 k := by
  simp only [State.fetchAddrs, State.fetchLen, h, State.begin_pc, State.begin_byteAt, Bool.true_and]
  congr 1
  funext k
  simp [State.fetchAddr]

/-- All bytes of an access are memory exactly if what stands behind it is. -/
theorem State.kindOf_ram {addrs : List Nat} : s.kindOf addrs = some .ram ↔ ∀ a ∈ addrs, s.kindAt a = some .ram := by
  have hall : (addrs.all fun a => s.kindAt a == some .ram) = true ↔ ∀ a ∈ addrs, s.kindAt a = some .ram := by simp
  rw [← hall]
  unfold State.kindOf
  split
  · simp [*]
  · split <;> simp [*]

/-- The fetch finds code exactly if each byte is memory outside peripheral space (20 R225, R232). -/
theorem State.codeThere_iff : s.codeThere = true ↔
    ∀ a ∈ s.fetchAddrs, ¬ s.InPeripheral (segment a) .fetch ∧ s.kindAt a.toNat = some .ram := by
  have hram : s.codeRam s.fetchLen = true ↔ ∀ a ∈ s.fetchAddrs, s.kindAt a.toNat = some .ram := by
    rw [State.codeRam, beq_iff_eq, State.kindOf_ram]
    simp [State.fetchAddrs]
  rw [State.codeThere, Bool.and_eq_true, hram]
  simp only [List.all_eq_true, Bool.not_eq_true', ← Bool.not_eq_true, State.peripheral_iff]
  exact ⟨fun ⟨hp, hk⟩ a ha => ⟨hp a ha, hk a ha⟩, fun h => ⟨fun a ha => (h a ha).1, fun a ha => (h a ha).2⟩⟩

/-! ## The checks of a fetch (60_exceptions R852, 46_virtualization R736) -/

/-- The checks of a fetch as one chain of decisions. -/
theorem State.fetchCheck_eq (s : State) : s.fetchCheck =
    if s.fetchAddrs.all s.l1Fetch = true then if s.fetchAddrs.all s.l2Fetch = true then if s.codeThere = true then
      if s.fetchError.isNone = true then .go else .trap 4 5 else .trap 4 1 else .hv 3 0 else .trap 1 4 := by
  simp only [State.fetchCheck, Verdict.first_need, Verdict.first_nil, ne_eq, reduceCtorEq, not_false_eq_true]

/-- A byte that no enabled code range holds may not be fetched while protection is on (20 R250). -/
theorem State.l1Fetch_denied {a : Word} (hp : s.protEn .fetch = true) (hd : s.debugMode = false)
    (h : ∀ n : Fin 32, n.val < s.cfg.nCpr → bit (s.setMask s.res .cpxe (s.prs .fetch) .fetch) n.val = true →
      ¬ ((s.eff s.res (.rep (.cprL n)) .fetch).toNat ≤ a.toNat ∧ a.toNat < (s.eff s.res (.rep (.cprU n)) .fetch).toNat)) :
    s.l1Fetch a = false := by
  have hno : s.fetchAllowed s.res (s.prs .fetch) a = false := by
    rw [Bool.eq_false_iff, State.fetchAllowed, ne_eq, covered_iff]
    rintro ⟨n, hn, hbit, hlower, hupper⟩
    exact h n hn hbit ⟨hlower, hupper⟩
  simp [State.l1Fetch, State.emuFetch, State.emulatorSpace_off hd, hp, hno]

/-- The trap of a check that is not about an announced error leaves the announcement. -/
theorem State.takeFetchTrap_ne {cls : BitVec 3} {tin : Byte} (h : ¬ (cls = 4 ∧ tin = 5)) :
    s.takeFetchTrap cls tin = s.takeTrap cls tin s.pc := by
  unfold State.takeFetchTrap
  split
  · rw [if_neg h]
  · rfl

/-- PIE takes the announced error with it. -/
theorem State.takeFetchTrap_pie {a : Word} (h : s.fetchError = some a) :
    s.takeFetchTrap 4 5 = ({ s with fetchError := none } : State).takePie a := by
  simp [State.takeFetchTrap, h]

/-- A ready machine whose fetch fails a check takes the trap of that check. -/
theorem step_of_fetch_trap {cls : BitVec 3} {tin : Byte} (h : s.ready = true) (hc : s.begin.fetchCheck = .trap cls tin) :
    step s = .next ((s.begin.takeFetchTrap cls tin).clock.nextDraw s.draws) :=
  step_of_ready h (by simp [State.fetchAndRun, hc])

/-- A ready machine whose fetch level 2 denies takes the hypervisor trap. -/
theorem step_of_fetch_hv {cls : BitVec 3} {tin : Word} (h : s.ready = true) (hc : s.begin.fetchCheck = .hv cls tin) :
    step s = .next ((s.begin.takeHvTrap cls tin s.pc).clock.nextDraw s.draws) :=
  step_of_ready h (by simp [State.fetchAndRun, hc])

/-- A ready machine that fetches no instruction takes IOPC. -/
theorem step_of_no_instruction (h : s.ready = true) (hc : s.begin.fetchCheck = .go) (hf : s.begin.fetched = none) :
    step s = .next ((s.begin.takeTrap 2 1 s.pc).clock.nextDraw s.draws) :=
  step_of_ready h (by simp [State.fetchAndRun, hc, hf])

/-- Settles O5: the checks of the fetch are one chain of decisions, MPX, L2MPX, PSE, PIE, and IOPC stands behind it. -/
theorem failedFetchesTrap : Obligations.failed_fetches_trap := by
  unfold Obligations.failed_fetches_trap
  intro s hready
  refine ⟨State.fetchAddrs_begin, ?_, ?_, ?_⟩
  · rintro hprot hdebug ⟨a, ha, hno⟩
    have hdenied : s.begin.l1Fetch a = false :=
      State.l1Fetch_denied hprot (by simpa using hdebug) (by simpa using hno)
    have hcheck : s.begin.fetchCheck = .trap 1 4 := by
      rw [State.fetchCheck_eq, if_neg (by simpa using ⟨a, ha, hdenied⟩)]
    rw [step_of_fetch_trap hready hcheck, State.takeFetchTrap_ne (by decide), State.begin_pc]
  · rintro b rfl code hl1
    have hl1 : s.begin.fetchAddrs.all s.begin.l1Fetch = true := by simpa using hl1
    refine ⟨fun ⟨a, ha, hdenied⟩ => ?_, fun hl2 => ?_⟩
    · have hcheck : s.begin.fetchCheck = .hv 3 0 := by
        rw [State.fetchCheck_eq, if_pos hl1, if_neg (by simpa using ⟨a, ha, hdenied⟩)]
      exact step_of_fetch_hv hready hcheck
    have hl2 : s.begin.fetchAddrs.all s.begin.l2Fetch = true := by simpa using hl2
    refine ⟨fun hno => ?_, fun hcode a herror => ?_⟩
    · have hcheck : s.begin.fetchCheck = .trap 4 1 := by
        rw [State.fetchCheck_eq, if_pos hl1, if_pos hl2, if_neg (mt State.codeThere_iff.mp hno)]
      rw [step_of_fetch_trap hready hcheck, State.takeFetchTrap_ne (by decide), State.begin_pc]
    · have herror : s.begin.fetchError = some a := s.begin_fetchError.trans herror
      have hcheck : s.begin.fetchCheck = .trap 4 5 := by
        rw [State.fetchCheck_eq, if_pos hl1, if_pos hl2, if_pos (State.codeThere_iff.mpr hcode), if_neg (by rw [herror]; simp)]
      rw [step_of_fetch_trap hready hcheck, State.takeFetchTrap_pie herror]
  · intro hcheck names hnames
    refine step_of_no_instruction hready hcheck ?_
    rcases hnames with ⟨hrows, hdecode⟩ | ⟨row, hrow, hinstr⟩
    · exact State.fetched_of_not_decode hrows hdecode
    · rw [State.fetched_of_row hrow, hinstr]
      rfl

end Sys2Proof.Machine
end

section
/-! PROOFS. The courses of the instructions that access memory (40_addressing R342 to R364, 41_context_call_return R420 to
R427, 42_system_instructions R468): which course each instruction takes, and what it comes to where the check of its access
fails. -/

namespace Sys2Proof.Machine

variable {s : State} {i : Instr}

/-! ## Operands (10_state R43, 30_encoding R307) -/

theorem Instr.pairs_even (h : i.wellFormed = true) : i.pairs.all pairEven = true := ((Bool.and_eq_true _ _).mp h).1

theorem Instr.quads_aligned (h : i.wellFormed = true) : i.quads.all quadAligned = true :=
  ((Bool.and_eq_true _ _).mp h).2

/-- A displacement counts half-words. -/
theorem State.relative_eq (s : State) {n : Nat} (disp : BitVec n) : s.relative disp = relativeTarget s.pc disp := by
  rw [State.relative, relativeTarget, sext, BitVec.shiftLeft_eq_mul_twoPow, BitVec.mul_comm]
  rfl

/-- The number of two words side by side. -/
theorem toNat_wordPair {m : Nat} (hi : BitVec m) (lo : Word) : (hi ++ lo).toNat = lo.toNat + 2 ^ 32 * hi.toNat := by
  rw [BitVec.toNat_append, Nat.shiftLeft_eq, Nat.mul_comm, ← Nat.two_pow_add_eq_or_of_lt lo.isLt, Nat.add_comm]

theorem Place.value_d (s : State) (n : Reg) : (Place.d n).value s = (s.getD n).toNat := by
  simp [Place.value, Place.dataRegs, Place.addrRegs, wordsValue]

theorem Place.value_e (s : State) (n : Reg) : (Place.e n).value s = (s.getE n).toNat := by
  rw [State.getE, toNat_wordPair]
  simp [Place.value, Place.dataRegs, Place.addrRegs, wordsValue]

theorem Place.value_q (s : State) (n : Reg) : (Place.q n).value s = (s.getQ n).toNat := by
  rw [State.getQ, toNat_wordPair, toNat_wordPair, toNat_wordPair]
  simp [Place.value, Place.dataRegs, Place.addrRegs, wordsValue]

theorem Place.value_a (s : State) (n : Reg) : (Place.a n).value s = (s.getA n).toNat := by
  simp [Place.value, Place.dataRegs, Place.addrRegs, wordsValue]

theorem Place.value_p (s : State) (n : Reg) : (Place.p n).value s = (s.getP n).toNat := by
  rw [State.getP, toNat_wordPair]
  simp [Place.value, Place.dataRegs, Place.addrRegs, wordsValue]

/-- A register that may be written passes GRWP. -/
theorem State.globalCheck_go {rs : List Reg} (h : s.mayWrite rs = true) : ∀ n ∈ rs, s.globalCheck n = .go := by
  intro n hn
  have hok := List.all_eq_true.mp h n hn
  rw [State.globalCheck, hok]
  rfl

/-- A mode whose register may be written passes its check. -/
theorem State.updateCheck_of_mayWrite {r : Resolved} (h : s.mayWrite r.target = true) : s.updateCheck r = .go :=
  State.updateCheck_go fun n w hu => State.globalCheck_go h n (by simp [Resolved.target, hu])

/-! ## The course of a load (40_addressing R343 to R351) -/

/-- `i` takes the course of a load of form `f`, and passes the checks of its operands where it is well formed. -/
def LoadCourse (s : State) (i : Instr) (f : MemForm) : Prop :=
  ∃ pre put, exec i s = s.execLoad f.len f.mem f.size f.align pre f.place.addrRegs put ∧
    (i.wellFormed = true → pre = .go ∧ s.modeCheck f.mem = .go)

/-- A load to a single register. -/
theorem LoadCourse.single {f : MemForm} {put : State → Nat → State}
    (he : exec i s = s.execLoad f.len f.mem f.size f.align .go f.place.addrRegs put) (hp : i.pairs = f.mem.pairs) :
    LoadCourse s i f :=
  ⟨.go, put, he, fun hw => ⟨rfl, State.modeCheck_go (hp ▸ Instr.pairs_even hw)⟩⟩

/-- A load to a register pair. -/
theorem LoadCourse.pair {f : MemForm} {a : Reg} {put : State → Nat → State}
    (he : exec i s = s.execLoad f.len f.mem f.size f.align (s.pairCheck a) f.place.addrRegs put)
    (hp : i.pairs = a :: f.mem.pairs) : LoadCourse s i f := by
  refine ⟨s.pairCheck a, put, he, fun hw => ?_⟩
  have heven := Instr.pairs_even hw
  rw [hp, List.all_cons, Bool.and_eq_true] at heven
  exact ⟨State.pairCheck_go heven.1, State.modeCheck_go heven.2⟩

theorem loadCourse {f : MemForm} (h : loadForm i = some f) (s : State) : LoadCourse s i f := by
  cases i with
  | ldBAbs a | ldBOff a | ldBPost a | ldBPre a | ldBRev a | ldBCirc a | ldBLong a =>
    cases h
    exact .single (show s.ldB _ a _ = _ from rfl) rfl
  | ldBuAbs a | ldBuOff a | ldBuPost a | ldBuPre a | ldBuRev a | ldBuCirc a | ldBuLong a =>
    cases h
    exact .single (show s.ldBu _ a _ = _ from rfl) rfl
  | ldHAbs a | ldHOff a | ldHPost a | ldHPre a | ldHRev a | ldHCirc a | ldHLong a =>
    cases h
    exact .single (show s.ldH _ a _ = _ from rfl) rfl
  | ldHuAbs a | ldHuOff a | ldHuPost a | ldHuPre a | ldHuRev a | ldHuCirc a | ldHuLong a =>
    cases h
    exact .single (show s.ldHu _ a _ = _ from rfl) rfl
  | ldWAbs a | ldWOff a | ldWPost a | ldWPre a | ldWRev a | ldWCirc a | ldWLong a | ldW16 a =>
    cases h
    exact .single (show s.ldW _ a _ = _ from rfl) rfl
  | ldAAbs a | ldAOff a | ldAPost a | ldAPre a | ldARev a | ldACirc a | ldALong a =>
    cases h
    exact .single (show s.ldA _ a _ = _ from rfl) rfl
  | ldDAbs a | ldDOff a | ldDPost a | ldDPre a | ldDRev a | ldDCirc a =>
    cases h
    exact .pair (show s.ldD _ a _ = _ from rfl) rfl
  | ldDaAbs a | ldDaOff a | ldDaPost a | ldDaPre a | ldDaRev a | ldDaCirc a =>
    cases h
    exact .pair (show s.ldDa _ a _ = _ from rfl) rfl
  | ldDd a mem =>
    cases h
    refine ⟨s.quadCheck a, _, show execLdDd a mem s = _ from rfl, fun hw => ⟨?_, State.modeCheck_go (Instr.pairs_even hw)⟩⟩
    have haligned := Instr.quads_aligned hw
    exact State.quadCheck_go (by simpa [Instr.quads] using haligned)
  | _ => cases h

/-! ## The course of a store (40 R352 to R358) -/

/-- `i` takes the course of a store of form `f`, and passes the checks of its operands where it is well formed. -/
def StoreCourse (s : State) (i : Instr) (f : MemForm) : Prop :=
  ∃ pre, exec i s = s.execStore f.len f.mem f.size f.align pre f.place.addrRegs (fun t => f.place.value t) ∧
    (i.wellFormed = true → pre = .go ∧ s.modeCheck f.mem = .go)

/-- A store of a single register. -/
theorem StoreCourse.single {f : MemForm} {value : State → Nat}
    (he : exec i s = s.execStore f.len f.mem f.size f.align .go f.place.addrRegs value)
    (hv : ∀ t, f.place.value t = value t) (hp : i.pairs = f.mem.pairs) : StoreCourse s i f := by
  cases funext hv
  exact ⟨.go, he, fun hw => ⟨rfl, State.modeCheck_go (hp ▸ Instr.pairs_even hw)⟩⟩

/-- A store of a register pair. -/
theorem StoreCourse.pair {f : MemForm} {a : Reg} {value : State → Nat}
    (he : exec i s = s.execStore f.len f.mem f.size f.align (s.pairCheck a) f.place.addrRegs value)
    (hv : ∀ t, f.place.value t = value t) (hp : i.pairs = f.mem.pairs ++ [a]) : StoreCourse s i f := by
  cases funext hv
  refine ⟨s.pairCheck a, he, fun hw => ?_⟩
  have heven := Instr.pairs_even hw
  rw [hp, List.all_append, Bool.and_eq_true, List.all_cons, Bool.and_eq_true] at heven
  exact ⟨State.pairCheck_go heven.2.1, State.modeCheck_go heven.1⟩

theorem storeCourse {f : MemForm} (h : storeForm i = some f) (s : State) : StoreCourse s i f := by
  cases i with
  | stBAbs _ a | stBOff _ _ a | stBPost _ _ a | stBPre _ _ a | stBRev _ a | stBCirc _ _ a | stBLong _ _ a =>
    cases h
    exact .single (show s.stB _ _ a = _ from rfl) (Place.value_d · a) rfl
  | stHAbs _ a | stHOff _ _ a | stHPost _ _ a | stHPre _ _ a | stHRev _ a | stHCirc _ _ a | stHLong _ _ a =>
    cases h
    exact .single (show s.stH _ _ a = _ from rfl) (Place.value_d · a) rfl
  | stWAbs _ a | stWOff _ _ a | stWPost _ _ a | stWPre _ _ a | stWRev _ a | stWCirc _ _ a | stWLong _ _ a | stW16 _ a =>
    cases h
    exact .single (show s.stW _ _ a = _ from rfl) (Place.value_d · a) rfl
  | stAAbs _ a | stAOff _ _ a | stAPost _ _ a | stAPre _ _ a | stARev _ a | stACirc _ _ a | stALong _ _ a =>
    cases h
    exact .single (show s.stA _ _ a = _ from rfl) (Place.value_a · a) rfl
  | stDAbs _ a | stDOff _ _ a | stDPost _ _ a | stDPre _ _ a | stDRev _ a | stDCirc _ _ a =>
    cases h
    exact .pair (show s.stD _ _ a = _ from rfl) (Place.value_e · a) rfl
  | stDaAbs _ a | stDaOff _ _ a | stDaPost _ _ a | stDaPre _ _ a | stDaRev _ a | stDaCirc _ _ a =>
    cases h
    exact .pair (show s.stDa _ _ a = _ from rfl) (Place.value_p · a) rfl
  | stDd mem a =>
    cases h
    refine ⟨s.quadCheck a, ?_, fun hw => ⟨?_, State.modeCheck_go (Instr.pairs_even hw)⟩⟩
    · have hv : (fun t => (Place.q a).value t) = fun t => (t.getQ a).toNat := funext (Place.value_q · a)
      rw [hv]
      rfl
    · have haligned := Instr.quads_aligned hw
      exact State.quadCheck_go (by simpa [Instr.quads] using haligned)
  | _ => cases h

/-! ## The course of an atomic read-modify-write (40 R360 to R364) -/

/-- `i` takes the course of an atomic read-modify-write of form `f`, and passes the checks of its operands where it is
well formed. -/
def RmwCourse (s : State) (i : Instr) (f : RmwForm) : Prop :=
  ∃ pre new ret, exec i s = s.execRmw f.len f.mem 4 4 pre new ret ∧ ret.toList = f.dest ∧
    (∀ old, old < 2 ^ 32 → new old = (f.new s (BitVec.ofNat 32 old)).toNat) ∧
    (i.wellFormed = true → pre = .go ∧ s.modeCheck f.mem = .go)

/-- An atomic instruction with a register pair. -/
theorem RmwCourse.pair {f : RmwForm} {a : Reg} {new : Nat → Nat} {ret : Option Reg}
    (he : exec i s = s.execRmw f.len f.mem 4 4 (s.pairCheck a) new ret) (hret : ret.toList = f.dest)
    (hnew : ∀ old, old < 2 ^ 32 → new old = (f.new s (BitVec.ofNat 32 old)).toNat)
    (hp : i.pairs = f.mem.pairs ++ [a]) : RmwCourse s i f := by
  refine ⟨s.pairCheck a, new, ret, he, hret, hnew, fun hw => ?_⟩
  have heven := Instr.pairs_even hw
  rw [hp, List.all_append, Bool.and_eq_true, List.all_cons, Bool.and_eq_true] at heven
  exact ⟨State.pairCheck_go heven.2.1, State.modeCheck_go heven.1⟩

/-- A word is the register's exactly if its number is. -/
theorem ofNat_eq_iff {old : Nat} (h : old < 2 ^ 32) (w : Word) : BitVec.ofNat 32 old = w ↔ old = w.toNat := by
  rw [← BitVec.toNat_inj, BitVec.toNat_ofNat, Nat.mod_eq_of_lt h]

theorem rmwCourse {f : RmwForm} (h : rmwForm i = some f) (s : State) : RmwCourse s i f := by
  cases i with
  | swapWOff _ _ a | swapWPost _ _ a | swapWPre _ _ a | swapWRev _ a | swapWCirc _ _ a | swapWAbs _ a =>
    cases h
    exact ⟨.go, _, some a, show s.swapW _ _ a = _ from rfl, rfl, fun _ _ => rfl, fun hw =>
      ⟨rfl, State.modeCheck_go (Instr.pairs_even hw)⟩⟩
  | ldmstOff _ _ a | ldmstPost _ _ a | ldmstPre _ _ a | ldmstRev _ a | ldmstCirc _ _ a | ldmstAbs _ a =>
    cases h
    exact .pair (show s.ldmst _ _ a = _ from rfl) rfl (fun _ _ => rfl) rfl
  | swapmskWOff _ _ a | swapmskWPost _ _ a | swapmskWPre _ _ a | swapmskWRev _ a | swapmskWCirc _ _ a =>
    cases h
    exact .pair (show s.swapmskW _ _ a = _ from rfl) rfl (fun _ _ => rfl) rfl
  | cmpswapWOff _ _ a | cmpswapWPost _ _ a | cmpswapWPre _ _ a | cmpswapWRev _ a | cmpswapWCirc _ _ a =>
    cases h
    refine .pair (show s.cmpswapW _ _ a = _ from rfl) rfl (fun old hold => ?_) rfl
    simp only [RmwForm.new, ofNat_eq_iff hold, apply_ite BitVec.toNat, BitVec.toNat_ofNat, Nat.mod_eq_of_lt hold]
  | _ => cases h

/-! ## The courses of the fast calls and of the context and cache instructions -/

/-- A fast call takes its form's target (41_context R420 to R422). -/
theorem exec_of_fastCallForm {target : Word} (h : fastCallForm s i = some target) : exec i s = s.execFcallTo target := by
  unfold fastCallForm at h
  split at h
  next k => exact Option.some.inj h ▸ congrArg s.execFcallTo (s.relative_eq k)
  next k => exact Option.some.inj h ▸ rfl
  next a => exact Option.some.inj h ▸ rfl
  next => cases h

/-- A store of a context stores PCXI and a block (41 R424, R425). -/
theorem exec_of_contextStoreForm {m : MemOp} {ws : List Word} (h : contextStoreForm s i = some (m, ws)) :
    ∃ block, ws = s.link :: block ∧ exec i s = s.storeContext m block := by
  unfold contextStoreForm at h
  split at h
  all_goals cases h
  all_goals exact ⟨_, rfl, rfl⟩

/-- A load of a context takes the upper or the lower registers (41 R426, R427). -/
theorem exec_of_contextLoadForm {m : MemOp} {upper : Bool} (h : contextLoadForm i = some (m, upper)) (s : State) :
    exec i s = s.loadContext m (if upper then State.setUpper else State.setLower) := by
  unfold contextLoadForm at h
  split at h
  all_goals cases h
  all_goals rfl

/-- A cache instruction makes its checks and its update (42_system R468). -/
theorem exec_of_cacheForm {m : MemOp} {index : Bool} (h : cacheForm i = some (m, index)) (s : State) :
    ∃ priv, exec i s = s.execCache priv m ∧ ((index = true → s.supervisor = true) → priv = .go) := by
  unfold cacheForm at h
  split at h
  all_goals cases h
  all_goals first
    | exact ⟨.go, rfl, fun _ => rfl⟩
    | exact ⟨s.supervisorCheck, rfl, fun hs => by rw [State.supervisorCheck, hs rfl]; rfl⟩

end Sys2Proof.Machine
end

section
/-! PROOFS. Accesses that fail a check (20_memory R260, 60_exceptions R843) and accesses that no memory is behind (20 R225, 60
R847). -/

namespace Sys2Proof.Machine

variable {s t : State} {i : Instr} {x : Access}

/-! ## What the host is told, and DAE (60_exceptions R847, R902) -/

/-- The state after the bus has taken an access that no memory is behind: what the host is told, and DAE where nothing
answers. -/
def State.told (s : State) (dae : Bool) (es : List OutEvent) : State :=
  { s with pendDae := s.pendDae || dae, out := es ++ s.out }

@[simp] theorem State.told_pc (dae : Bool) (es : List OutEvent) : (s.told dae es).pc = s.pc := rfl
@[simp] theorem State.told_cfg (dae : Bool) (es : List OutEvent) : (s.told dae es).cfg = s.cfg := rfl
@[simp] theorem State.told_mem (dae : Bool) (es : List OutEvent) : (s.told dae es).mem = s.mem := rfl
@[simp] theorem State.told_out (dae : Bool) (es : List OutEvent) : (s.told dae es).out = es ++ s.out := rfl
@[simp] theorem State.told_pendDae (dae : Bool) (es : List OutEvent) :
    (s.told dae es).pendDae = (s.pendDae || dae) := rfl
@[simp] theorem State.res_told (dae : Bool) (es : List OutEvent) : (s.told dae es).res = s.res := rfl
@[simp] theorem State.told_told (dae dae' : Bool) (es es' : List OutEvent) :
    (s.told dae es).told dae' es' = s.told (dae || dae') (es' ++ es) := by
  simp [State.told, Bool.or_assoc]

/-- A read tells the host of what it sees of it. -/
theorem State.loaded_told (s : State) (x : Access) : s.loaded x = s.told false (s.toldRead x) := by
  unfold State.loaded State.toldRead
  split <;> simp [State.told, State.emit]

/-- A write that no memory is behind leaves memory alone; where nothing is, DAE is pending. -/
theorem State.store_told (h : s.kindOf x.addrs ≠ some .ram) (v : Nat) :
    s.store x v = s.told (s.kindOf x.addrs == none) (s.toldWrite x v) := by
  cases hs : s.seen x <;> cases hk : s.kindOf x.addrs with
  | none => simp [State.store, State.toldWrite, State.told, State.emit, hk, hs]
  | some k =>
    cases k with
    | ram => exact absurd hk h
    | device => simp [State.store, State.toldWrite, State.told, State.emit, hk, hs]

/-- A frame from the state after the bus has taken the access is one from before, but for what that state tells. -/
theorem Kept.ofTold {dae : Bool} {es : List OutEvent} {ds as : List Reg} {cs : List Csfr}
    (h : Kept (s.told dae es) t ds as cs) : Kept s { t.withOut s with pendDae := s.pendDae } ds as cs := by
  have e := h.hidden
  simp only [Prod.mk.injEq, State.told] at e
  exact ⟨h.data, h.addr, h.csfr, h.openUpdates, h.undef, by simp [State.withOut, e], h.fixed⟩

/-- Where no DAE is raised, the frame leaves aside only what the host is told. -/
theorem Kept.ofTold_out {es : List OutEvent} {ds as : List Reg} {cs : List Csfr}
    (h : Kept (s.told false es) t ds as cs) : Kept s (t.withOut s) ds as cs := by
  have hk := Kept.ofTold h
  have hdae : t.pendDae = s.pendDae := by
    have e := h.hidden
    simp only [Prod.mk.injEq, State.told, Bool.or_false] at e
    exact e.2.1
  rw [← hdae] at hk
  exact hk

/-! ## A check that fails (20_memory R260) -/

/-- The bus error is a load's. -/
theorem State.check_ne_dse (h : x.loads = false) : s.check x ≠ .trap 4 2 := by
  rw [State.check_eq]
  simp only [h, Bool.not_false, Bool.true_or]
  split_ifs <;> simp

/-- A store is presented to the bus only where it meets no trap. -/
theorem State.issued_store (h : x.loads = false) : s.issued x (s.check x) = s := by
  rw [State.issued, if_neg (State.check_ne_dse h)]

/-- The instruction `i` comes to what the check of access `x` says: where it fails, its trap with the instruction's own
address, a load that the bus answers with an error having been presented. -/
def DecidedBy (s : State) (i : Instr) (x : Access) : Prop :=
  ∃ effect, exec i s = (s.issued x (s.check x)).conclude (s.check x) effect

/-- An instruction whose access fails a check takes its trap and nothing else. -/
theorem DecidedBy.trap (h : DecidedBy s i x) {cls : BitVec 3} {tin : Byte} (hc : s.check x = .trap cls tin) :
    exec i s = .next ((if cls = 4 ∧ tin = 2 then { s with out := s.toldRead x ++ s.out } else s).takeTrap cls tin s.pc) := by
  obtain ⟨effect, he⟩ := h
  rw [he, hc, State.issued]
  by_cases hdse : cls = 4 ∧ tin = 2
  · obtain ⟨rfl, rfl⟩ := hdse
    rw [State.loaded_told]
    simp [State.conclude, State.told]
  · rw [if_neg hdse, if_neg (by simpa using hdse)]
    rfl

/-- An instruction whose access level 2 denies takes the hypervisor trap and nothing else. -/
theorem DecidedBy.hv (h : DecidedBy s i x) {cls : BitVec 3} {tin : Word} (hc : s.check x = .hv cls tin) :
    exec i s = .next (s.takeHvTrap cls tin s.pc) := by
  obtain ⟨effect, he⟩ := h
  rw [he, hc, State.issued, if_neg (by simp)]
  rfl

/-- Behind checks that pass, the last one decides. -/
theorem Verdict.first_last (v : Verdict) : ∀ {vs : List Verdict}, (∀ w ∈ vs, w = .go) → Verdict.first (vs ++ [v]) = v
  | [], _ => by cases v <;> rfl
  | w :: vs, h => by
    rw [List.cons_append, h w (by simp), Verdict.first_cons_go]
    exact Verdict.first_last v fun u hu => h u (by simp [hu])

/-- A load whose registers may be written is decided by the check of its access. -/
theorem LoadCourse.decided {f : MemForm} (h : LoadCourse s i f) (hwf : i.wellFormed = true)
    (hdst : s.mayWrite f.place.addrRegs = true) (hmode : s.mayWrite (s.resolve f.mem).target = true) :
    DecidedBy s i ((s.resolve f.mem).access f.size f.align f.size true false) := by
  obtain ⟨pre, put, he, hchecks⟩ := h
  obtain ⟨rfl, hm⟩ := hchecks hwf
  have hpass : ∀ v ∈ [.go, s.modeCheck f.mem] ++ f.place.addrRegs.map s.globalCheck ++ [s.updateCheck (s.resolve f.mem)],
      v = .go := by
    simp only [hm, State.updateCheck_of_mayWrite hmode, List.mem_append, List.mem_cons, List.not_mem_nil, or_false,
      or_self, List.mem_map]
    rintro v ((rfl | ⟨n, hn, rfl⟩) | rfl)
    exacts [rfl, State.globalCheck_go hdst n hn, rfl]
  have hfirst := Verdict.first_last (s.check ((s.resolve f.mem).access f.size f.align f.size true false)) hpass
  rw [List.append_assoc, List.singleton_append] at hfirst
  exact ⟨_, by rw [he, State.execLoad, hfirst]⟩

/-- A store whose mode may update its register is decided by the check of its access. -/
theorem StoreCourse.decided {f : MemForm} (h : StoreCourse s i f) (hwf : i.wellFormed = true)
    (hmode : s.mayWrite (s.resolve f.mem).target = true) :
    DecidedBy s i ((s.resolve f.mem).access f.size f.align f.size false true) := by
  obtain ⟨pre, he, hchecks⟩ := h
  obtain ⟨rfl, hm⟩ := hchecks hwf
  have hfirst := Verdict.first_last (vs := [.go, s.modeCheck f.mem, s.updateCheck (s.resolve f.mem)])
    (s.check ((s.resolve f.mem).access f.size f.align f.size false true))
    (by simp [hm, State.updateCheck_of_mayWrite hmode])
  simp only [List.cons_append, List.nil_append] at hfirst
  exact ⟨_, by rw [he, State.execStore, State.issued_store rfl, hfirst]⟩

/-- An atomic read-modify-write is decided by the check of its access. -/
theorem State.execRmw_decided {m : MemOp} {len size align : Nat} {new : Nat → Nat} {ret : Option Reg}
    (he : exec i s = s.execRmw len m size align .go new ret) (hm : s.modeCheck m = .go)
    (hmode : s.mayWrite (s.resolve m).target = true) :
    DecidedBy s i ((s.resolve m).access size align size true true) := by
  have hfirst := Verdict.first_last (vs := [.go, s.modeCheck m, s.updateCheck (s.resolve m)])
    (s.check ((s.resolve m).access size align size true true)) (by simp [hm, State.updateCheck_of_mayWrite hmode])
  simp only [List.cons_append, List.nil_append] at hfirst
  unfold State.execRmw at he
  dsimp only at he
  rw [hfirst] at he
  exact ⟨_, he⟩

theorem RmwCourse.decided {f : RmwForm} (h : RmwCourse s i f) (hwf : i.wellFormed = true)
    (hmode : s.mayWrite (s.resolve f.mem).target = true) :
    DecidedBy s i ((s.resolve f.mem).access 4 4 4 true true) := by
  obtain ⟨pre, new, ret, he, -, -, hchecks⟩ := h
  obtain ⟨rfl, hm⟩ := hchecks hwf
  exact State.execRmw_decided he hm hmode

theorem fastCall_decided {target : Word} (h : fastCallForm s i = some target) :
    DecidedBy s i (s.stackAccess (s.getA 10 - 4) false true) :=
  ⟨_, by rw [exec_of_fastCallForm h, State.issued_store rfl, State.execFcallTo]⟩

theorem fastReturn_decided (h : i = .fret ∨ i = .fret16) (s : State) :
    DecidedBy s i (s.stackAccess (s.getA 10) true false) := by
  rcases h with rfl | rfl <;> exact ⟨_, rfl⟩

theorem contextStore_decided {m : MemOp} {ws : List Word} (h : contextStoreForm s i = some (m, ws)) :
    DecidedBy s i (s.contextAccess m false true) := by
  obtain ⟨block, -, he⟩ := exec_of_contextStoreForm h
  exact ⟨_, by rw [he, State.issued_store rfl, State.storeContext]⟩

theorem contextLoad_decided {m : MemOp} {upper : Bool} (h : contextLoadForm i = some (m, upper)) (s : State) :
    DecidedBy s i (s.contextAccess m true false) :=
  ⟨_, exec_of_contextLoadForm h s⟩

/-- A cache instruction asks the ranges about its effective address: MPR, then MPW (42_system R468). -/
theorem State.execCache_eq {m : MemOp} (hmode : s.mayWrite (s.resolve m).target = true) :
    s.execCache .go m = s.conclude (if s.l1Read (s.resolve m).ea = true then
      if s.l1Write (s.resolve m).ea = true then .go else .trap 1 3 else .trap 1 2)
      ((s.applyUpdate (s.resolve m)).advance 4) := by
  simp only [State.execCache, State.updateCheck_of_mayWrite hmode, Verdict.first_cons_go, Verdict.first_need,
    Verdict.first_nil, ne_eq, reduceCtorEq, not_false_eq_true]

/-- Settles O22: each of these instructions is decided by the check of its access, a cache instruction by its own. -/
theorem failedAccessesTrap : Obligations.failed_accesses_trap := by
  unfold Obligations.failed_accesses_trap
  intro s i traps
  have htraps : ∀ x, DecidedBy s i x → traps x := fun x h => ⟨fun cls tin hc => h.trap hc, fun cls tin hc => h.hv hc⟩
  refine ⟨?_, ?_, ?_, ?_, ?_, ?_⟩
  · rintro m size align loads stores hwf hform hmode
    rcases hform with ⟨f, hf, rfl, rfl, rfl, rfl, rfl, hdst⟩ | ⟨f, hf, rfl, rfl, rfl, rfl, rfl⟩ |
      ⟨f, hf, rfl, rfl, rfl, rfl, rfl⟩ | ⟨off18, n, b, rfl, rfl, rfl, rfl, rfl, rfl⟩
    · exact htraps _ ((loadCourse hf s).decided hwf hdst hmode)
    · exact htraps _ ((storeCourse hf s).decided hwf hmode)
    · exact htraps _ ((rmwCourse hf s).decided hwf hmode)
    · exact htraps _ (State.execRmw_decided (show execStT off18 n b s = _ from rfl) rfl hmode)
  · intro hcall
    obtain ⟨target, htarget⟩ := Option.isSome_iff_exists.mp hcall
    exact htraps _ (fastCall_decided htarget)
  · exact fun hret => htraps _ (fastReturn_decided hret s)
  · exact fun m ws hstore => htraps _ (contextStore_decided hstore)
  · exact fun m upper hload => htraps _ (contextLoad_decided hload s)
  · intro m index hcache hindex hmode
    obtain ⟨priv, he, hpriv⟩ := exec_of_cacheForm hcache s
    rw [hpriv hindex, State.execCache_eq hmode] at he
    refine ⟨fun hread => ?_, fun hread hwrite => ?_⟩
    · rw [he, if_neg (by simp [hread])]
      rfl
    · rw [he, if_pos hread, if_neg (by simp [hwrite])]
      rfl

end Sys2Proof.Machine
end

section
/-! PROOFS. Accesses that no memory is behind and that complete (20_memory R225, 60_exceptions R847), and a write by another
master (20_memory R272). -/

namespace Sys2Proof.Machine

variable {s t : State} {i : Instr} {x : Access}

/-! ## The datum of a store (40_addressing R336) -/

theorem Resolved.updates_iff {r : Resolved} {n : Reg} : r.updates n = true ↔ n ∈ r.target := by
  unfold Resolved.updates Resolved.target
  cases r.update with
  | none => simp
  | some p =>
    simp only [beq_iff_eq, Option.map_some, Option.toList_some, List.mem_singleton]
    exact eq_comm

/-- A store takes its datum before the mode's update, or, where the mode updates a source register, after it. -/
theorem State.storeValue_cases (s : State) (r : Resolved) (src : List Reg) (value : State → Nat) :
    s.storeValue r src value = value s ∨
      ((∃ n ∈ src, n ∈ r.target) ∧ s.storeValue r src value = value (s.applyUpdate r)) := by
  unfold State.storeValue
  split
  · rename_i h
    rw [Bool.and_eq_true, List.any_eq_true] at h
    obtain ⟨⟨n, hn, hu⟩, -⟩ := h
    exact .inr ⟨⟨n, hn, Resolved.updates_iff.mp hu⟩, rfl⟩
  · exact .inl rfl

/-! ## The end of an access (40_addressing R342) -/

@[simp] theorem State.applyUpdate_pendDae (r : Resolved) : (s.applyUpdate r).pendDae = s.pendDae := by
  unfold State.applyUpdate
  split <;> simp

/-- What an access that no memory is behind leaves, where its mode updates a register and the pc goes on. -/
theorem State.told_updated (s : State) (dae : Bool) (es : List OutEvent) (r : Resolved) (len : Nat) :
    let t := ((s.told dae es).applyUpdate r).advance len
    t.pc = s.pc + BitVec.ofNat 32 len ∧ t.pendDae = (s.pendDae || dae) ∧ t.out = es ++ s.out ∧ KeepsMemory s t ∧
      (∀ n w, r.update = some (n, w) → t.getA n = w) ∧ Kept (s.told dae es) t [] r.target [.pc] := by
  refine ⟨by simp, by simp, by simp, KeepsMemory.of_mem (by simp) (by simp), fun n w h => ?_, ?_⟩
  · exact State.getA_applyUpdate h
  · exact ((Kept.applyUpdate r).trans (Kept.advance len) (by simp)).mono (by simp) (by simp [Resolved.target]) (by simp)

/-- A store that no memory is behind completes. -/
theorem StoreCourse.off_ram {f : MemForm} (h : StoreCourse s i f) (hwf : i.wellFormed = true)
    (hmode : s.mayWrite (s.resolve f.mem).target = true)
    (hc : s.check ((s.resolve f.mem).access f.size f.align f.size false true) = .go)
    (hk : s.kindOf ((s.resolve f.mem).access f.size f.align f.size false true).addrs ≠ some .ram) :
    let x := (s.resolve f.mem).access f.size f.align f.size false true
    let v := s.storeValue (s.resolve f.mem) f.place.addrRegs fun t => f.place.value t
    exec i s = .next (((s.told (s.kindOf x.addrs == none) (s.toldWrite x v)).applyUpdate (s.resolve f.mem)).advance f.len) := by
  obtain ⟨pre, he, hchecks⟩ := h
  obtain ⟨rfl, hm⟩ := hchecks hwf
  rw [he, State.execStore_go f.len _ _ rfl hm (State.updateCheck_of_mayWrite hmode) hc, State.store_told hk]

/-! ## Atomic instructions on a device (40 R360 to R364) -/

/-- What an atomic instruction on a device leaves: `ret` holds the word that the device gave. -/
theorem State.told_swapped (s : State) (es : List OutEvent) (ret : Option Reg) (old : Word) (r : Resolved) (len : Nat)
    {u : State} (hu : u = match ret with
      | some d => (s.told false es).setD d old
      | none => s.told false es) :
    let t := (u.applyUpdate r).advance len
    t.pc = s.pc + BitVec.ofNat 32 len ∧ (∀ n ∈ ret.toList, t.getD n = old) ∧
      (∀ n w, r.update = some (n, w) → t.getA n = w) ∧ t.out = es ++ s.out ∧ KeepsMemory s t ∧
      Kept s (t.withOut s) ret.toList r.target [.pc] := by
  have hu' : u.pc = s.pc ∧ u.cfg = s.cfg ∧ u.mem = s.mem ∧ u.out = es ++ s.out ∧ u.res = s.res ∧
      (∀ n ∈ ret.toList, u.getD n = old) ∧ Kept (s.told false es) u ret.toList [] [] := by
    cases ret with
    | none =>
      subst hu
      exact ⟨rfl, rfl, rfl, rfl, rfl, by simp, Kept.refl _⟩
    | some d =>
      subst hu
      exact ⟨rfl, rfl, rfl, rfl, rfl, by simp, Kept.setD d old⟩
  obtain ⟨hpc, hcfg, hmem, hout, hres, hold, hkept⟩ := hu'
  refine ⟨by simp [hpc], fun n hn => ?_, fun n w h => ?_, by simp [hout], KeepsMemory.of_mem (by simp [hcfg]) (by simp [hmem]),
    ?_⟩
  · rw [State.getD_advance, State.getD_applyUpdate, hold n hn]
  · exact State.getA_applyUpdate h
  · have h := (hkept.trans (Kept.applyUpdate r) hres).trans (Kept.advance len) (by simp [hres])
    exact Kept.ofTold_out (h.mono (by simp) (by simp [Resolved.target]) (by simp))

/-- An atomic instruction on a device completes: the device takes the new datum, and gives any word as the old one. -/
theorem RmwCourse.device {f : RmwForm} (h : RmwCourse s i f) (hwf : i.wellFormed = true)
    (hmode : s.mayWrite (s.resolve f.mem).target = true)
    (hc : s.check ((s.resolve f.mem).access 4 4 4 true true) = .go)
    (hk : s.kindOf ((s.resolve f.mem).access 4 4 4 true true).addrs = some .device) :
    let r := s.resolve f.mem
    let x := r.access 4 4 4 true true
    ∃ (t : State) (old : Word), exec i s = .next t ∧ t.pc = s.pc + BitVec.ofNat 32 f.len ∧
      (∀ n ∈ f.dest, t.getD n = old) ∧ (∀ n w, r.update = some (n, w) → t.getA n = w) ∧
      t.out = s.toldWrite x (f.new s old).toNat ++ s.toldRead x ++ s.out ∧ KeepsMemory s t ∧
      Kept s (t.withOut s) f.dest r.target [.pc] := by
  intro r x
  obtain ⟨pre, new, ret, he, hret, hnew, hchecks⟩ := h
  obtain ⟨rfl, hm⟩ := hchecks hwf
  have hlt : s.load x < 2 ^ 32 := by
    have hlt := s.load_lt x
    rwa [show x.size = 4 from rfl] at hlt
  have hnew : new (s.load x) = (f.new s (BitVec.ofNat 32 (s.load x))).toNat := hnew _ hlt
  have hstore : (s.loaded x).store x (new (s.load x)) =
      s.told false (s.toldWrite x (f.new s (BitVec.ofNat 32 (s.load x))).toNat ++ s.toldRead x) := by
    have hoff : (s.told false (s.toldRead x)).kindOf x.addrs ≠ some .ram := by
      change s.kindOf x.addrs ≠ _
      simp [x, r, hk]
    have hdae : ((s.told false (s.toldRead x)).kindOf x.addrs == none) = false := by
      change (s.kindOf x.addrs == none) = false
      simp [x, r, hk]
    rw [State.loaded_told, State.store_told hoff, hdae, State.told_told, hnew]
    rfl
  have hgo := State.execRmw_go f.len new ret rfl hm (State.updateCheck_of_mayWrite hmode) hc
  have hend := s.told_swapped (s.toldWrite x (f.new s (BitVec.ofNat 32 (s.load x))).toNat ++ s.toldRead x) ret
    (BitVec.ofNat 32 (s.load x)) r f.len rfl
  rw [hret, ← hstore] at hend
  obtain ⟨hpc, hdest, hupd, hout, hmem, hkept⟩ := hend
  refine ⟨_, _, he.trans (hgo.trans ?_), hpc, hdest, hupd, hout, hmem, hkept⟩
  cases ret <;> rfl

/-! ## Fast calls and contexts (41_context_call_return R420 to R427) -/

/-- A fast call whose access no memory is behind. -/
theorem fastCall_off_ram {target : Word} (h : fastCallForm s i = some target)
    (hc : s.check (s.stackAccess (s.getA 10 - 4) false true) = .go)
    (hk : s.kindOf (s.stackAccess (s.getA 10 - 4) false true).addrs ≠ some .ram) :
    let ea := s.getA 10 - 4
    let x := s.stackAccess ea false true
    ∃ t, exec i s = .next t ∧ t.pc = target ∧ t.getA 11 = s.pc + 4 ∧ t.getA 10 = ea ∧
      t.pendDae = (s.pendDae || s.kindOf x.addrs == none) ∧ t.out = s.toldWrite x (s.getA 11).toNat ++ s.out ∧
      KeepsMemory s t ∧ Kept s { t.withOut s with pendDae := s.pendDae } [] [10, 11] [.pc] := by
  intro ea x
  have he : exec i s = .next ((((s.told (s.kindOf x.addrs == none) (s.toldWrite x (s.getA 11).toNat)).setA 10 ea).setA 11
      (s.pc + 4)).jump target) := by
    rw [exec_of_fastCallForm h, State.execFcallTo, State.conclude_go hc, State.store_told hk]
  refine ⟨_, he, rfl, ?_, ?_, by simp, by simp, KeepsMemory.of_mem (by simp) (by simp), ?_⟩
  · rw [State.getA_jump, State.getA_setA_same]
  · rw [State.getA_jump, State.getA_setA_ne _ (by decide), State.getA_setA_same]
  · exact Kept.ofTold (((Kept.setA 10 ea).trans (Kept.setA 11 (s.pc + 4)) (by simp)).trans (Kept.jump target) (by simp))

/-- A store of a context that no memory is behind. -/
theorem contextStore_off_ram {m : MemOp} {ws : List Word} (h : contextStoreForm s i = some (m, ws))
    (hc : s.check (s.contextAccess m false true) = .go)
    (hk : s.kindOf (s.contextAccess m false true).addrs ≠ some .ram) :
    let x := s.contextAccess m false true
    ∃ t, exec i s = .next t ∧ t.pc = s.pc + 4 ∧ t.pendDae = (s.pendDae || s.kindOf x.addrs == none) ∧
      t.out = s.toldWrite x (wordsValue ws) ++ s.out ∧ KeepsMemory s t ∧
      Kept s { t.withOut s with pendDae := s.pendDae } [] [] [.pc] := by
  intro x
  obtain ⟨block, rfl, he⟩ := exec_of_contextStoreForm h
  have he : exec i s =
      .next ((s.told (s.kindOf x.addrs == none) (s.toldWrite x (wordsValue (s.link :: block)))).advance 4) := by
    rw [he, State.storeContext, State.conclude_go hc, State.store_told hk]
  exact ⟨_, he, rfl, rfl, rfl, KeepsMemory.of_mem rfl rfl, Kept.ofTold (Kept.advance 4)⟩

/-- A fast return that meets no trap (R423). -/
theorem fastReturn_go (h : i = .fret ∨ i = .fret16) (hc : s.check (s.stackAccess (s.getA 10) true false) = .go) :
    let x := s.stackAccess (s.getA 10) true false
    ∃ t, exec i s = .next t ∧ t.out = s.toldRead x ++ s.out ∧ KeepsMemory s t ∧
      t.pc = s.getA 11 &&& 0xFFFFFFFE#32 ∧ t.getA 10 = s.getA 10 + 4 ∧ Kept s (t.withOut s) [] [10, 11] [.pc] := by
  intro x
  have he : exec i s = .next ((((s.told false (s.toldRead x)).setA 11 (BitVec.ofNat 32 (s.load x))).setA 10
      (s.getA 10 + 4)).jump (even (s.getA 11))) := by
    have hret : exec i s = s.execFastReturn := by rcases h with rfl | rfl <;> rfl
    rw [hret, State.execFastReturn, State.conclude_go hc, State.loaded_told]
  refine ⟨_, he, by simp, KeepsMemory.of_mem (by simp) (by simp), rfl, ?_, ?_⟩
  · rw [State.getA_jump, State.getA_setA_same]
  · have hkept := ((Kept.setA (s := s.told false (s.toldRead x)) 11 (BitVec.ofNat 32 (s.load x))).trans
      (Kept.setA 10 (s.getA 10 + 4)) (by simp)).trans (Kept.jump (even (s.getA 11))) (by simp)
    exact Kept.ofTold_out (hkept.mono (by simp) (by simp) (by simp))

/-- The end of an instruction that a device has answered and that writes general registers alone. -/
theorem Kept.told_advance {u : State} {es : List OutEvent} {ds as : List Reg} (hkept : Kept (s.told false es) u ds as [])
    (hpc : u.pc = s.pc) (hmem : u.mem = s.mem) (hout : u.out = es ++ s.out) (hres : u.res = s.res) (len : Nat) :
    (u.advance len).out = es ++ s.out ∧ KeepsMemory s (u.advance len) ∧
      (u.advance len).pc = s.pc + BitVec.ofNat 32 len ∧ Kept s ((u.advance len).withOut s) ds as [.pc] := by
  have hcfg : u.cfg = s.cfg := congrArg Prod.fst hkept.fixed
  refine ⟨hout, KeepsMemory.of_mem hcfg hmem, by rw [State.advance_pc, hpc], Kept.ofTold_out (es := es) ?_⟩
  exact (hkept.trans (Kept.advance len) hres).mono (by simp) (by simp) (by simp)

/-- A load of a context that meets no trap (R426, R427). -/
theorem contextLoad_go {m : MemOp} {upper : Bool} (h : contextLoadForm i = some (m, upper))
    (hc : s.check (s.contextAccess m true false) = .go) :
    let x := s.contextAccess m true false
    ∃ t, exec i s = .next t ∧ t.out = s.toldRead x ++ s.out ∧ KeepsMemory s t ∧ t.pc = s.pc + 4 ∧
      Kept s (t.withOut s) (if upper then upperData else lowerData) (if upper then upperAddr else lowerAddr) [.pc] := by
  intro x
  have hload := exec_of_contextLoadForm h s
  rw [State.loadContext, State.conclude_go hc, State.loaded_told] at hload
  cases upper with
  | true => exact ⟨_, hload, (Kept.setUpper _).told_advance (State.setUpper_pc _ _) (State.setUpper_mem _)
      (State.setUpper_out _ _) (State.res_setUpper _) 4⟩
  | false => exact ⟨_, hload, (Kept.setLower _).told_advance (State.setLower_pc _ _) (State.setLower_mem _)
      (State.setLower_out _ _) (State.res_setLower _) 4⟩

/-! ## Another master (20_memory R272) -/

/-- The bytes of an access by another master within one segment have a cell each. -/
theorem hostAddrs_cells_nodup {a : Word} {n : Nat} (hn : n ≤ 64)
    (hseg : ∀ k, k < n → segment (a + BitVec.ofNat 32 k) = segment a) : ((hostAddrs a n).map s.cell).Nodup := by
  refine State.cells_nodup (List.Nodup.map_on (fun j hj k hk e => ?_) List.nodup_range) fun b hb c hc => ?_
  · rw [List.mem_range] at hj hk
    have he : BitVec.ofNat 32 j = BitVec.ofNat 32 k := by simpa using BitVec.eq_of_toNat_eq e
    have he := congrArg BitVec.toNat he
    simp only [BitVec.toNat_ofNat] at he
    omega
  · obtain ⟨j, hj, rfl⟩ := List.mem_map.mp hb
    obtain ⟨k, hk, rfl⟩ := List.mem_map.mp hc
    exact segment_eq_iff.mp ((hseg j (List.mem_range.mp hj)).trans (hseg k (List.mem_range.mp hk)).symm)

/-- A write of memory by another master changes its bytes and nothing of the core. -/
theorem step_writeMem {a : Word} {n v : Nat} {rest : List Sched} (hs : s.schedule = .host (.writeMem a n v) :: rest)
    (hn : n ≤ 64) (hseg : ∀ k, k < n → segment (a + BitVec.ofNat 32 k) = segment a)
    (hk : s.kindOf (hostAddrs a n) = some .ram) :
    ∃ t, step s = .next t ∧ (∀ k, k < n → t.byteAt (a + BitVec.ofNat 32 k).toNat = byteOf v k) ∧
      KeepsMemoryBut s t (hostAddrs a n) ∧ t = { s with schedule := rest, mem := t.mem, draws := s.draws + 1 } := by
  have hwrite : ({ s with schedule := rest } : State).hostWriteMem a n v =
      ({ s with schedule := rest } : State).writeAt (hostAddrs a n) v := by
    have hk' : ({ s with schedule := rest } : State).kindOf (hostAddrs a n) = some .ram := hk
    simp [State.hostWriteMem, hk']
  have hstep : step s = .next ((({ s with schedule := rest } : State).writeAt (hostAddrs a n) v).nextDraw s.draws) := by
    simp [step, State.scheduled, hs, State.hostStep, hwrite]
  refine ⟨_, hstep, fun k hkn => ?_, fun b hb => ?_, rfl⟩
  · exact State.byteAt_writeAt (s := s) (hostAddrs_cells_nodup hn hseg) (by simp [hostAddrs, hkn])
  · exact State.byteAt_writeAt_outside (s := s) v hb

/-- Settles O20: each of these accesses ends in the state that tells the host of it, memory being kept. -/
theorem devicesAndOtherMasters : Obligations.devices_and_other_masters := by
  unfold Obligations.devices_and_other_masters
  intro s
  refine ⟨?_, ?_, ?_, ?_, ?_, ?_⟩
  · intro i f hf hwf r x hmode hc hk
    obtain ⟨hpc, hdae, hout, hmem, hupd, hkept⟩ := s.told_updated (s.kindOf x.addrs == none)
      (s.toldWrite x (s.storeValue r f.place.addrRegs fun t => f.place.value t)) r f.len
    exact ⟨_, _, (storeCourse hf s).off_ram hwf hmode hc hk, hpc, hdae, s.storeValue_cases r _ _, hout, hmem, hupd,
      Kept.ofTold hkept⟩
  · intro i f hf hwf r x hmode hc hk
    have hcourse := rmwCourse hf s
    rcases hc with hgo | hdse
    · rw [if_pos hgo]
      exact hcourse.device hwf hmode hgo hk
    · rw [if_neg (by simp [hdse])]
      exact (hcourse.decided hwf hmode).trap hdse
  · exact fun i target htarget hc hk => fastCall_off_ram htarget hc hk
  · exact fun i m ws hstore hc hk => contextStore_off_ram hstore hc hk
  · intro i x fret loads hform hc hk
    have hdecided : DecidedBy s i x := by
      rcases hform with ⟨hret, rfl⟩ | ⟨m, hload, rfl⟩ | ⟨m, hload, rfl⟩
      exacts [fastReturn_decided hret s, contextLoad_decided hload s, contextLoad_decided hload s]
    rcases hc with hgo | hdse
    · rw [if_pos hgo]
      have hcontext : ∀ upper, loads upper → ∃ t, exec i s = .next t ∧ t.out = s.toldRead x ++ s.out ∧ KeepsMemory s t ∧
          (fret → t.pc = s.getA 11 &&& 0xFFFFFFFE#32 ∧ t.getA 10 = s.getA 10 + 4 ∧
            Kept s (t.withOut s) [] [10, 11] [.pc]) ∧
          (∀ upper, loads upper → t.pc = s.pc + 4 ∧ Kept s (t.withOut s) (if upper then upperData else lowerData)
            (if upper then upperAddr else lowerAddr) [.pc]) := by
        rintro upper ⟨m, hload, rfl⟩
        obtain ⟨t, he, hout, hmem, hpc, hkept⟩ := contextLoad_go hload hgo
        refine ⟨t, he, hout, hmem, fun ⟨hret, _⟩ => ?_, fun upper' ⟨m', hload', _⟩ => ?_⟩
        · rcases hret with rfl | rfl <;> cases hload
        · obtain ⟨-, rfl⟩ : m = m' ∧ upper = upper' := by simpa using hload.symm.trans hload'
          exact ⟨hpc, hkept⟩
      rcases hform with ⟨hret, rfl⟩ | hload | hload
      · obtain ⟨t, he, hout, hmem, hend⟩ := fastReturn_go hret hgo
        refine ⟨t, he, hout, hmem, fun _ => hend, fun upper ⟨m, hload, _⟩ => ?_⟩
        rcases hret with rfl | rfl <;> cases hload
      · exact hcontext true hload
      · exact hcontext false hload
    · rw [if_neg (by simp [hdse])]
      exact hdecided.trap hdse
  · exact fun a n v rest hs hn hseg hk => step_writeMem hs hn hseg hk

end Sys2Proof.Machine
end

section
/-! PROOFS. The FCU entry (60_exceptions R834, R842): what it fixes, when a context save ends in it, and when a restore does
(41_context_call_return R395). -/

namespace Sys2Proof.Machine

variable {s t u : State} {lost : Lost}

/-! ## The FCU entry in stages (60_exceptions R842) -/

/-- The memory that is lost and the general registers. -/
def State.fcuRegs (s : State) (lost : Lost) : State :=
  let s1 := ((((s.loseMemory lost).loseContext lost).scramble).setA 11 (s.freeW 210)).setD 15 4
  if pswIs (s.ctl .psw .entry) then s1 else s1.setA 10 (s.ctl (.rep .isp) .entry)

/-- PSW in the handler: Supervisor mode, protection set 0, S from CORECON.TS, the rest any value. -/
def State.fcuPsw (s : State) : Word :=
  pswSetS (pswSetPrs (setField (s.freeW 211) 10 0b10#2) 0) (bit (s.ctl (.rep .corecon) .entry) 4)

/-- Then PSW, PCXI, FCX and PPRS. -/
def State.fcuLinked (s : State) (lost : Lost) : State :=
  ((((s.fcuRegs lost).modPsw fun _ => s.fcuPsw).hw .hv .pcxi fun _ => s.freeW 212).hwCur (.rep .fcx)
    fun _ => s.freeW 213).hw .hv .pprs fun w => setField w 0 (field (s.freeW 214) 0 3)

/-- Then ICR: all but the requests that the entry may lose and the pc. -/
def State.fcuPrepared (s : State) (lost : Lost) : State := (s.fcuLinked lost).hwCur .icr fun i => setBit i 15 false

theorem State.fcuEntry_eq (s : State) (lost : Lost) :
    s.fcuEntry lost = (s.fcuPrepared lost).dropPending.atHandler (s.vectorPc (.btv 3)) := rfl

@[simp] theorem State.getD_hwRep (q : Resource) (x : RepReg) (f : Word → Word) (n : Reg) :
    (s.hw q (.rep x) f).getD n = s.getD n := (Kept.hwRep q x f).data n (by simp)

@[simp] theorem State.getA_hwRep (q : Resource) (x : RepReg) (f : Word → Word) (n : Reg) :
    (s.hw q (.rep x) f).getA n = s.getA n := (Kept.hwRep q x f).addr n (by simp)

/-- Losing the registers of a context leaves memory and everything else alone that no register of it holds. -/
theorem State.loseContext_fields (s : State) (lost : Lost) : (s.loseContext lost).mem = s.mem ∧
    (s.loseContext lost).cfg = s.cfg ∧ (s.loseContext lost).sys = s.sys ∧ (s.loseContext lost).draws = s.draws := by
  cases lost with
  | none | save => exact ⟨rfl, rfl, rfl, rfl⟩
  | upper =>
    simp only [State.loseContext, State.setUpper_mem, State.setUpper_cfg, State.setUpper_sys, State.setUpper_draws,
      and_self]
  | lower =>
    simp only [State.loseContext, State.setLower_mem, State.setLower_cfg, State.setLower_sys, State.setLower_draws,
      and_self]

theorem State.fcuRegs_spec (s : State) (lost : Lost) :
    let t := s.fcuRegs lost
    t.getD 15 = 4 ∧ (pswIs (s.ctl .psw .entry) = false → t.getA 10 = s.ctl (.rep .isp) .entry) ∧ t.cfg = s.cfg ∧
      t.sys = s.sys ∧ t.draws = s.draws ∧ t.mem = (s.loseMemory lost).mem := by
  obtain ⟨hmem, hcfg, hsys, hdraws⟩ := (s.loseMemory lost).loseContext_fields lost
  unfold State.fcuRegs
  generalize (s.loseMemory lost).loseContext lost = r at *
  cases pswIs (s.ctl .psw .entry) <;> simp [hmem, hcfg, hsys, hdraws, State.loseMemory, State.writeAt]

theorem State.fcuLinked_spec (s : State) (lost : Lost) :
    let t := s.fcuLinked lost
    t.getD 15 = 4 ∧ (pswIs (s.ctl .psw .entry) = false → t.getA 10 = s.ctl (.rep .isp) .entry) ∧ t.psw = s.fcuPsw ∧
      t.cfg = s.cfg ∧ t.sys = s.sys ∧ t.draws = s.draws ∧ t.mem = (s.loseMemory lost).mem := by
  obtain ⟨hd, ha, hcfg, hsys, hdraws, hmem⟩ := s.fcuRegs_spec lost
  unfold State.fcuLinked
  generalize s.fcuRegs lost = r at *
  simp only [State.modPsw, State.hwCur, State.getD_hwPprs, State.getD_hwRep, State.getD_hwPcxi, State.getD_hwPsw,
    State.getA_hwPprs, State.getA_hwRep, State.getA_hwPcxi, State.getA_hwPsw]
  exact ⟨hd, ha, by simp, by simp [hcfg], by simp [hsys], by simp [hdraws], by simp [hmem]⟩

theorem State.fcuPrepared_spec (s : State) (lost : Lost) :
    let t := s.fcuPrepared lost
    t.getD 15 = 4 ∧ (pswIs (s.ctl .psw .entry) = false → t.getA 10 = s.ctl (.rep .isp) .entry) ∧ t.psw = s.fcuPsw ∧
      t.cfg = s.cfg ∧ t.cvmn = s.cvmn ∧ t.mem = (s.loseMemory lost).mem ∧
      t.raw s.res .icr = setBit (s.raw s.res .icr) 15 false := by
  obtain ⟨hd, ha, hpsw, hcfg, hsys, hdraws, hmem⟩ := s.fcuLinked_spec lost
  unfold State.fcuPrepared
  generalize s.fcuLinked lost = r at *
  refine ⟨hd, fun h => (State.getA_hwIcr _ _ 10).trans (ha h), hpsw, hcfg,
    (State.cvmn_hwIcr _ _).trans (State.cvmn_of_sys hsys), hmem, ?_⟩
  rw [← State.raw_icr_of_sys hcfg hsys hdraws, ← State.res_of_sys hcfg hsys]
  exact State.raw_icr_hwIcr _

/-! ## What the entry fixes -/

/-- The state `t` of an FCU handler entered from `u`, with the bytes of `lost` lost (60_exceptions R842, 93 U14). -/
structure EntersFcu (u t : State) (lost : List Nat) : Prop where
  /-- The handler is the class 3 entry of BTV. -/
  pc : t.pc = (u.getRep u.res .btv &&& 0xFFFFFFFE#32) ||| 0x60#32
  /-- TIN 4. -/
  tin : t.getD 15 = 4
  /-- The interrupt stack. -/
  sp : t.getA 10 = if pswIs u.psw then t.getA 10 else u.getRep u.res .isp
  /-- Supervisor mode. -/
  io : pswIo t.psw = 0b10#2
  /-- Protection set 0. -/
  prs : pswPrs t.psw = 0
  /-- PSW.S is CORECON.TS. -/
  safe : bit t.psw 14 = bit (u.getRep u.res .corecon) 4
  /-- Interrupts are off. -/
  ie : icrIe (t.raw u.res .icr) = false
  /-- The priority is kept. -/
  ccpn : icrCcpn (t.raw u.res .icr) = icrCcpn (u.raw u.res .icr)
  /-- Every byte of memory is kept but the lost ones. -/
  memory : KeepsMemoryBut u t lost

/-- The list of R842 as the obligation writes it. -/
theorem EntersFcu.clauses {bytes : List Nat} (h : EntersFcu u t bytes) :
    t.pc = (u.getRep u.res .btv &&& 0xFFFFFFFE#32) ||| 0x60#32 ∧ t.getD 15 = 4 ∧
      t.getA 10 = (if pswIs u.psw then t.getA 10 else u.getRep u.res .isp) ∧ pswIo t.psw = 0b10#2 ∧
      pswPrs t.psw = 0 ∧ bit t.psw 14 = bit (u.getRep u.res .corecon) 4 ∧ icrIe (t.raw u.res .icr) = false ∧
      icrCcpn (t.raw u.res .icr) = icrCcpn (u.raw u.res .icr) ∧ KeepsMemoryBut u t bytes :=
  ⟨h.pc, h.tin, h.sp, h.io, h.prs, h.safe, h.ie, h.ccpn, h.memory⟩

/-- The registers that inform about a trap are none of those. -/
theorem EntersFcu.inform {bytes : List Nat} (h : EntersFcu u t bytes) (cls : BitVec 3) (tin : Byte) :
    EntersFcu u (t.inform cls tin) bytes := by
  obtain ⟨hpc, hpsw, -, -, hmem, -, -, hcfg, -, -⟩ := t.inform_fields cls tin
  have hk := Kept.inform (s := t) cls tin
  have hd := hk.data 15 (by simp)
  have ha := hk.addr 10 (by simp)
  have hicr := hk.csfr u.res .icr (by simp) (by simp)
  refine ⟨hpc.trans h.pc, hd.trans h.tin, ?_, ?_, ?_, ?_, ?_, ?_, fun a hout => ?_⟩
  · rw [ha]; exact h.sp
  · rw [hpsw]; exact h.io
  · rw [hpsw]; exact h.prs
  · rw [hpsw]; exact h.safe
  · rw [hicr]; exact h.ie
  · rw [hicr]; exact h.ccpn
  · exact (State.byteAt_of_mem hcfg hmem a).trans (h.memory a hout)

theorem State.fcuPsw_io (s : State) : pswIo s.fcuPsw = 0b10#2 := by
  refine BitVec.eq_of_getLsbD_eq fun k hk => ?_
  rw [pswIo, getLsbD_field, State.fcuPsw, pswSetS, bit_setBit _ (by omega), if_neg (by omega), bit_pswSetPrs,
    if_neg (by omega), if_neg (by omega), if_neg (by omega), bit_setField _ _ (by omega), if_pos (by omega)]
  simp [hk]

theorem State.fcuPsw_prs (s : State) : pswPrs s.fcuPsw = 0 := by
  refine (pswPrs_eq_iff.mpr ⟨?_, ?_, ?_⟩).trans (pswPrs_pswSetPrs (setField (s.freeW 211) 10 0b10#2) 0) <;>
    simp [State.fcuPsw, pswSetS, bit_setBit]

theorem State.fcuPsw_safe (s : State) : bit s.fcuPsw 14 = bit (s.ctl (.rep .corecon) .entry) 4 := by
  simp [State.fcuPsw, pswSetS, bit_setBit]

/-- Only addresses of the lost context are written. -/
theorem State.byteAt_loseMemory {a : Nat} (h : s.cell a ∉ (s.lostAddrs lost).map s.cell) :
    (s.loseMemory lost).byteAt a = s.byteAt a := by
  exact State.byteAt_writeAt_outside _ fun hin => h (List.map_subset _ (List.filter_subset_self _) hin)

/-- An entry loses requests in flags of their own and in TPS_CON. -/
theorem State.dropPending_fields (s : State) : s.dropPending.psw = s.psw ∧ s.dropPending.cfg = s.cfg ∧
    s.dropPending.sys = s.sys ∧ s.dropPending.draws = s.draws ∧ s.dropPending.mem = s.mem ∧
    s.dropPending.getD 15 = s.getD 15 ∧ s.dropPending.getA 10 = s.getA 10 := by
  have hk := Kept.hwCurRep (s := s) .tpsCon fun w => setBit w 17 (bit w 17 && s.freeB 204)
  refine ⟨?_, ?_, ?_, ?_, ?_, hk.data 15 (by simp), hk.addr 10 (by simp)⟩ <;> simp [State.dropPending, State.hwCur]

theorem State.fcuEntry_spec (hw : s.window = []) (lost : Lost) :
    EntersFcu s (s.fcuEntry lost) (s.lostAddrs lost) ∧ (s.fcuEntry lost).cvmn = s.cvmn := by
  obtain ⟨hd, ha, hpsw, hcfg, hcvmn, hmem, hicr⟩ := s.fcuPrepared_spec lost
  have hctl := State.ctl_of_window_nil s hw
  rw [State.fcuEntry_eq]
  generalize s.fcuPrepared lost = p at *
  obtain ⟨hpsw', hcfg', hsys', hdraws', hmem', hd', ha'⟩ := p.dropPending_fields
  generalize p.dropPending = q at *
  have hq : q.psw = s.fcuPsw := hpsw'.trans hpsw
  have hraw : (q.atHandler (s.vectorPc (.btv 3))).raw s.res .icr = setBit (s.raw s.res .icr) 15 false :=
    (State.raw_icr_of_sys (s := p) hcfg' hsys' hdraws' _).trans hicr
  refine ⟨⟨?_, hd'.trans hd, ?_, ?_, ?_, ?_, ?_, ?_, fun a hout => ?_⟩, (State.cvmn_of_sys hsys').trans hcvmn⟩
  · simp [State.vectorPc, hctl, State.raw, even, zext]
  · rw [hctl, hctl] at ha
    split
    · rfl
    · next h => exact ha'.trans (ha (Bool.eq_false_iff.mpr h))
  · exact (congrArg pswIo hq).trans s.fcuPsw_io
  · exact (congrArg pswPrs hq).trans s.fcuPsw_prs
  · exact (congrArg (bit · 14) hq).trans (s.fcuPsw_safe.trans (by rw [hctl]; rfl))
  · rw [hraw, icrIe, bit_setBit _ (by omega), if_pos rfl]
  · rw [hraw, icrCcpn, field_setBit_ne _ (by omega) _ (by omega)]; rfl
  · rw [← State.byteAt_loseMemory hout]
    exact State.byteAt_of_mem (s := s.loseMemory lost) (hcfg'.trans hcfg) (hmem'.trans hmem) a

/-! ## When a save and a restore end in FCU (41_context_call_return R395, R408) -/

/-- The CSA of a pointer is no ordinary memory, and level 2 permits it. -/
def State.BadCsa (s : State) (ptr : BitVec 20) : Prop :=
  ¬ s.DeniesCsa ptr 0 ∧ ¬ s.DeniesCsa ptr 1 ∧ s.csaUsable ptr = false

/-- No context can be saved. -/
def State.Stuck (s : State) : Prop := s.fcx = 0 ∨ s.BadCsa s.fcx

/-- What a save that finds no CSA would have written. -/
def State.saveLost (s : State) : Lost := if s.fcx = 0 then .none else .save

theorem State.lostAddrs_saveLost (s : State) :
    s.lostAddrs s.saveLost = if s.fcx = 0 then [] else span (csaEa s.fcx).toNat 64 := by
  unfold State.saveLost
  split <;> rfl

/-- A CSA that level 2 does not deny passes its check. -/
theorem State.BadCsa.l2 {ptr : BitVec 20} (h : s.BadCsa ptr) : s.csaL2 ptr = .go := by
  obtain ⟨hread, hwrite, -⟩ := h
  have hr : ∀ k, k < (if s.cfg.crossRangeTrap then 64 else 1) → s.l2Read (csaEa ptr + BitVec.ofNat 32 k) = true :=
    fun k hk => Bool.not_eq_false _ ▸ fun e => hread (.inl ⟨rfl, k, hk, e⟩)
  have hw : ∀ k, k < (if s.cfg.crossRangeTrap then 64 else 1) → s.l2Write (csaEa ptr + BitVec.ofNat 32 k) = true :=
    fun k hk => Bool.not_eq_false _ ▸ fun e =>
      hwrite (.inr ⟨rfl, fun ⟨j, hj, e'⟩ => by simp [hr j hj] at e', k, hk, e⟩)
  unfold State.csaL2
  rw [Verdict.first_need (by simp), if_pos (by simpa using hr), Verdict.first_need (by simp), if_pos (by simpa using hw),
    Verdict.first_nil]

theorem State.Stuck.saveCheck (h : s.Stuck) : s.saveCheck = .fcu s.saveLost := by
  unfold State.saveCheck State.saveLost
  rw [Verdict.first_need (by simp)]
  by_cases hfcx : s.fcx = 0
  · simp [hfcx]
  · have hbad := h.resolve_left hfcx
    rw [if_pos (by simpa using hfcx), if_neg hfcx, hbad.l2, Verdict.first_cons_go, Verdict.first_need (by simp),
      if_neg (by simp [hbad.2.2])]

theorem State.BadCsa.restoreCheck (h : s.BadCsa (pcx s.link)) (lost : Lost) : s.restoreCheck lost = .fcu lost := by
  unfold State.restoreCheck
  rw [h.l2, Verdict.first_cons_go, Verdict.first_need (by simp), if_neg (by simp [h.2.2])]

/-- A save that finds no CSA ends the entry of an exception in FCU. -/
theorem State.Stuck.enter (h : s.Stuck) {e : Entry} (he : e.hyper = false) : s.enter e = s.fcuEntry s.saveLost := by
  unfold State.enter
  rw [if_neg (by simp [he])]
  simp only [h.saveCheck, Verdict.lost]

/-- An entry of the hypervisor saves its context in the hypervisor. -/
theorem State.Stuck.enterHyper (h : (s.setCvmn 0).Stuck) {e : Entry} (he : e.hyper = true) :
    s.enter e = (s.setCvmn 0).fcuEntry (s.setCvmn 0).saveLost := by
  unfold State.enter
  rw [if_pos he]
  simp only [h.saveCheck, Verdict.lost]

theorem State.setCvmn_window_nil (hw : s.window = []) (n : BitVec 3) : (s.setCvmn n).window = [] :=
  State.hw_window_nil _ hw

theorem State.cvmn_setCvmn (s : State) (n : BitVec 3) : (s.setCvmn n).cvmn = n := by
  rw [State.cvmn, State.setCvmn, State.getSys_hw_same, field_setField_same _ (by omega)]

/-! ## The entries (60_exceptions R805, R840, 46_virtualization R717, R728, R738) -/

theorem State.Stuck.takeTrap (h : s.Stuck) (hw : s.window = []) (cls : BitVec 3) (tin : Byte) (ra : Word) :
    EntersFcu s (s.takeTrap cls tin ra) (s.lostAddrs s.saveLost) := by
  unfold State.takeTrap
  rw [h.enter rfl]
  exact (State.fcuEntry_spec hw _).1.inform cls tin

theorem State.Stuck.takeInterrupt (h : s.Stuck) (hw : s.window = []) (pipn : Byte) :
    EntersFcu s (s.takeInterrupt pipn) (s.lostAddrs s.saveLost) := by
  unfold State.takeInterrupt
  rw [h.enter rfl]
  exact (State.fcuEntry_spec hw _).1

theorem State.Stuck.hyper (h : (s.setCvmn 0).Stuck) (hw : s.window = []) {e : Entry} (he : e.hyper = true) :
    EntersFcu (s.setCvmn 0) (s.enter e) ((s.setCvmn 0).lostAddrs (s.setCvmn 0).saveLost) ∧ (s.enter e).cvmn = 0 := by
  obtain ⟨hfcu, hcvmn⟩ := State.fcuEntry_spec (State.setCvmn_window_nil hw 0) (s.setCvmn 0).saveLost
  rw [h.enterHyper he]
  exact ⟨hfcu, hcvmn.trans (s.cvmn_setCvmn 0)⟩

theorem State.Stuck.takeTrapInHv (h : (s.setCvmn 0).Stuck) (hw : s.window = []) (hg : s.guest = true) (cls : BitVec 3)
    (tin : Byte) (ra : Word) :
    EntersFcu (s.setCvmn 0) (s.takeTrapInHv cls tin ra) ((s.setCvmn 0).lostAddrs (s.setCvmn 0).saveLost) ∧
      (s.takeTrapInHv cls tin ra).cvmn = 0 := by
  unfold State.takeTrapInHv
  rw [if_pos hg]
  obtain ⟨hfcu, hcvmn⟩ := State.Stuck.hyper h hw 
    (e := ⟨true, ra, 0x80000000#32 ||| zext tin, none, false, .btv cls⟩) rfl
  obtain ⟨-, -, -, -, -, -, hsys, -⟩ := State.inform_fields (s.enter _) cls tin
  exact ⟨hfcu.inform cls tin, (State.cvmn_of_sys hsys).trans hcvmn⟩

/-! ## The instructions that save a context (41 R411 to R413, R416, R417) -/

theorem exec_of_callForm {i : Instr} {l : Nat} {a : Word} (h : callForm s i = some (l, a)) :
    exec i s = s.execCallTo l a := by
  unfold callForm at h
  split at h
  all_goals cases h
  next k => exact congrArg (s.execCallTo 4) (s.relative_eq k)
  next k => exact congrArg (s.execCallTo 2) (s.relative_eq k)
  next k => rfl
  next r => rfl

/-- A call with no CSA ends in FCU, on its own, as the end of CDO's entry, or by its access. -/
theorem State.Stuck.execCallTo (h : s.Stuck) (hw : s.window = []) (l : Nat) (a : Word) :
    ∃ t, s.execCallTo l a = .next t ∧ EntersFcu s t (s.lostAddrs s.saveLost) := by
  unfold State.execCallTo
  extract_lets p counts t
  rw [Verdict.first_need (by simp), Verdict.first_need (by simp), h.saveCheck]
  by_cases hfcx : s.fcx = 0
  · have hlost : s.saveLost = .none := if_pos hfcx
    rw [if_neg (by simp [hfcx])]
    exact ⟨_, rfl, hlost ▸ (s.fcuEntry_spec hw _).1⟩
  · rw [if_pos (by simpa using hfcx)]
    split
    · exact ⟨_, rfl, (s.fcuEntry_spec hw _).1⟩
    · exact ⟨_, rfl, h.takeTrap hw 3 2 s.pc⟩

theorem State.Stuck.execBisrTo (h : s.Stuck) (hw : s.window = []) (hsv : s.supervisor = true) (l : Nat) (c : Byte) :
    ∃ t, s.execBisrTo l c = .next t ∧ EntersFcu s t (s.lostAddrs s.saveLost) := by
  have hcheck : s.supervisorCheck = .go := by simp [State.supervisorCheck, hsv, Verdict.need]
  unfold State.execBisrTo
  rw [hcheck, h.saveCheck]
  exact ⟨_, rfl, (s.fcuEntry_spec hw _).1⟩

theorem State.Stuck.execSvlcx (h : s.Stuck) (hw : s.window = []) :
    ∃ t, execSvlcx s = .next t ∧ EntersFcu s t (s.lostAddrs s.saveLost) := by
  unfold Machine.execSvlcx
  rw [h.saveCheck]
  exact ⟨_, rfl, (s.fcuEntry_spec hw _).1⟩

/-! ## The instructions that restore a context (41 R414, R415, R418, 46 R716) -/

theorem State.BadCsa.returnCheck (h : s.BadCsa (pcx s.link)) (hp : pcx s.link ≠ 0) {own : Verdict} (hown : own = .go)
    {ul : Bool} (hul : pcxiUl s.link = ul) (lost : Lost) : s.returnCheck own ul lost = .fcu lost := by
  unfold State.returnCheck
  rw [Verdict.first_need (by simp), if_pos (by simpa using hp), hown, Verdict.first_cons_go, Verdict.first_need (by simp),
    if_pos (by simpa using hul), h.restoreCheck]
  rfl

/-- A return whose other checks pass and whose CSA is bad ends in FCU, which may lose the CSA's link word. -/
theorem State.BadCsa.conclude (hw : s.window = []) {v : Verdict} (hv : v = .fcu .upper ∨ v = .fcu .lower) (e : State) :
    ∃ t, s.conclude v e = .next t ∧ EntersFcu s t (span (csaEa (pcx s.pcxi)).toNat 4) := by
  rw [← State.link_of_window_nil hw]
  rcases hv with rfl | rfl
  · exact ⟨_, rfl, (s.fcuEntry_spec hw .upper).1⟩
  · exact ⟨_, rfl, (s.fcuEntry_spec hw .lower).1⟩

theorem State.BadCsa.execReturn (h : s.BadCsa (pcx s.pcxi)) (hw : s.window = []) (hp : pcx s.pcxi ≠ 0)
    (hul : pcxiUl s.pcxi = true) (hdepth : ¬ (cdcCounts s.psw = true ∧ cdcZero s.psw = true)) :
    ∃ t, s.execReturn = .next t ∧ EntersFcu s t (span (csaEa (pcx s.pcxi)).toNat 4) := by
  have hown : Verdict.need (!(cdcCounts (s.ctl .psw .calls) && cdcZero (s.ctl .psw .calls))) (.trap 3 3) = .go := by
    rw [State.ctl_of_window_nil s hw, show s.raw s.res .psw = s.psw from rfl]
    simpa [Verdict.need] using hdepth
  rw [← State.link_of_window_nil hw] at h hp hul
  exact State.BadCsa.conclude hw (.inl (h.returnCheck hp hown hul _)) _

/-- The checks of RFE and of RFH (41 R404, R409). -/
theorem State.BadCsa.exceptionReturnCheck (h : s.BadCsa (pcx s.pcxi)) (hw : s.window = []) (hp : pcx s.pcxi ≠ 0)
    (hul : pcxiUl s.pcxi = true) (hnest : cdcCounts s.psw = true → cdcZero s.psw = true) :
    s.returnCheck s.nestCheck true .upper = .fcu .upper := by
  have hown : s.nestCheck = .go := by
    unfold State.nestCheck
    rw [State.ctl_of_window_nil s hw, show s.raw s.res .psw = s.psw from rfl]
    simpa [Verdict.need] using hnest
  rw [← State.link_of_window_nil hw] at h hp hul
  exact h.returnCheck hp hown hul _

theorem State.BadCsa.execRfeBody (h : s.BadCsa (pcx s.pcxi)) (hw : s.window = []) (hp : pcx s.pcxi ≠ 0)
    (hul : pcxiUl s.pcxi = true) (hnest : cdcCounts s.psw = true → cdcZero s.psw = true) :
    ∃ t, s.execRfeBody = .next t ∧ EntersFcu s t (span (csaEa (pcx s.pcxi)).toNat 4) :=
  State.BadCsa.conclude hw (.inl (h.exceptionReturnCheck hw hp hul hnest)) _

theorem State.BadCsa.execRfh (h : s.BadCsa (pcx s.pcxi)) (hw : s.window = []) (hp : pcx s.pcxi ≠ 0)
    (hul : pcxiUl s.pcxi = true) (hnest : cdcCounts s.psw = true → cdcZero s.psw = true) (hv : s.cfg.hasVirt = true)
    (hcvmn : s.cvmn = 0) (hvcon0 : s.vcon0Written = true) :
    ∃ t, execRfh s = .next t ∧ EntersFcu s t (span (csaEa (pcx s.pcxi)).toNat 4) := by
  refine State.BadCsa.conclude hw (.inl ?_) _
  rw [Verdict.first_need (by simp), if_pos hv, Verdict.first_need (by simp), if_pos (by simpa using hcvmn),
    Verdict.first_need (by simp), if_pos hvcon0, h.exceptionReturnCheck hw hp hul hnest]
  rfl

theorem State.BadCsa.execRslcx (h : s.BadCsa (pcx s.pcxi)) (hw : s.window = []) (hp : pcx s.pcxi ≠ 0)
    (hul : pcxiUl s.pcxi = false) :
    ∃ t, execRslcx s = .next t ∧ EntersFcu s t (span (csaEa (pcx s.pcxi)).toNat 4) := by
  refine State.BadCsa.conclude hw (.inr ?_) _
  rw [← State.link_of_window_nil hw] at h hp hul
  exact h.returnCheck hp rfl hul _

/-! ## The obligation -/

/-- Settles O51: every save of a stuck machine and every restore from a bad CSA is the one FCU entry, whose clauses
`State.fcuEntry_spec` gives; an entry of the hypervisor is one from the state after the switch. -/
theorem emptyFreeListTakesFcu : Obligations.empty_free_list_takes_fcu := by
  unfold Obligations.empty_free_list_takes_fcu
  intro s hw bad stuck fcuBut fcu
  have hfcu : ∀ {u t : State}, EntersFcu u t (u.lostAddrs u.saveLost) → fcu u t :=
    fun {u _} h => (u.lostAddrs_saveLost ▸ h).clauses
  refine ⟨?_, fun hstuck => ⟨fun i hi => ?_, ?_, ?_⟩, fun hg => ?_⟩
  · intro i hp hbad depth zero hi
    have hb : s.BadCsa (pcx s.pcxi) := hbad
    have hend : ∃ t, exec i s = .next t ∧ EntersFcu s t (span (csaEa (pcx s.pcxi)).toNat 4) := by
      rcases hi with ⟨hul, ⟨rfl | rfl, hdepth⟩ | ⟨rfl | rfl | ⟨rfl, hv, hcvmn, hvcon0⟩, hnest⟩⟩ | ⟨hul, rfl⟩
      · exact hb.execReturn hw hp hul hdepth
      · exact hb.execReturn hw hp hul hdepth
      · exact hb.execRfeBody hw hp hul hnest
      · exact hb.execRfeBody hw hp hul hnest
      · exact hb.execRfh hw hp hul hnest hv hcvmn hvcon0
      · exact hb.execRslcx hw hp hul
    exact hend.imp fun t ⟨he, ht⟩ => ⟨he, ht.clauses⟩
  · have hs : s.Stuck := hstuck
    have hend : ∃ t, exec i s = .next t ∧ EntersFcu s t (s.lostAddrs s.saveLost) := by
      rcases hi with ⟨l, a, hcall⟩ | rfl | ⟨hsv, ⟨k, rfl⟩ | ⟨k, rfl⟩⟩ | ⟨k, rfl⟩
      · rw [exec_of_callForm hcall]
        exact hs.execCallTo hw l a
      · exact hs.execSvlcx hw
      · exact hs.execBisrTo hw hsv 4 _
      · exact hs.execBisrTo hw hsv 2 _
      · exact ⟨_, rfl, hs.takeTrap hw 6 _ _⟩
    exact hend.imp fun t ⟨he, ht⟩ => ⟨he, hfcu ht⟩
  · exact fun cls tin ra => hfcu (State.Stuck.takeTrap hstuck hw cls tin ra)
  · exact fun pipn => hfcu (State.Stuck.takeInterrupt hstuck hw pipn)
  · intro h hstuck
    have hs : (s.setCvmn 0).Stuck := hstuck
    have henter : ∀ e : Entry, e.hyper = true → fcu h (s.enter e) ∧ (s.enter e).cvmn = 0 :=
      fun e he => (hs.hyper hw he).imp_left hfcu
    exact ⟨fun cls hvtin ra => henter _ rfl, fun cls tin ra => (hs.takeTrapInHv hw hg cls tin ra).imp_left hfcu,
      fun pipn => henter _ rfl, fun n => henter _ rfl⟩

end Sys2Proof.Machine
end

section
/-! PROOFS. The decoder against the encoder (30_encoding R300 to R316): the fields of a word that the encoder builds are
those it was built from, each row of the decoder finds its own words, and what it finds has the length of a row. -/

namespace Sys2Proof

/-! ## The fields of a word built from fields (30_encoding R313, R314) -/

/-- A field that lies within the low or within the high part of a concatenation is a field of that part. -/
theorem extractLsb'_append {v w : Nat} (x : BitVec v) (y : BitVec w) (start len : Nat) :
    (start + len ≤ w → (x ++ y).extractLsb' start len = y.extractLsb' start len) ∧
      (w ≤ start → (x ++ y).extractLsb' start len = x.extractLsb' (start - w) len) :=
  ⟨BitVec.extractLsb'_append_eq_of_add_le, BitVec.extractLsb'_append_eq_of_le⟩

@[simp] theorem Sys.fields_word (op1 : BitVec 8) (op2 : BitVec 6) (a : BitVec 4) :
    let w := Sys.word op1 op2 a
    w.extractLsb' 0 8 = op1 ∧ Sys.op2 w = op2 ∧ Sys.a w = a := by
  simp (disch := decide) [Sys.word, Sys.op2, Sys.a, extractLsb'_append, -Nat.reduceAdd]

@[simp] theorem Sr.fields_word (op1 : BitVec 8) (op2 a : BitVec 4) :
    let w := Sr.word op1 op2 a
    w.extractLsb' 0 8 = op1 ∧ Sr.op2 w = op2 ∧ Sr.a w = a := by
  simp (disch := decide) [Sr.word, Sr.op2, Sr.a, extractLsb'_append, -Nat.reduceAdd]

@[simp] theorem Rc.fields_word (op1 : BitVec 8) (op2 : BitVec 7) (a c : BitVec 4) (const9 : BitVec 9) :
    let w := Rc.word op1 op2 a c const9
    w.extractLsb' 0 8 = op1 ∧ Rc.op2 w = op2 ∧ Rc.a w = a ∧ Rc.c w = c ∧ Rc.const9 w = const9 := by
  simp (disch := decide) [Rc.word, Rc.op2, Rc.a, Rc.c, Rc.const9, extractLsb'_append, -Nat.reduceAdd]

@[simp] theorem Sc.fields_word (op1 const8 : BitVec 8) :
    let w := Sc.word op1 const8
    w.extractLsb' 0 8 = op1 ∧ Sc.const8 w = const8 := by
  simp (disch := decide) [Sc.word, Sc.const8, extractLsb'_append, -Nat.reduceAdd]

@[simp] theorem Rlc.fields_word (op1 : BitVec 8) (a c : BitVec 4) (const16 : BitVec 16) :
    let w := Rlc.word op1 a c const16
    w.extractLsb' 0 8 = op1 ∧ Rlc.a w = a ∧ Rlc.c w = c ∧ Rlc.const16 w = const16 := by
  simp (disch := decide) [Rlc.word, Rlc.a, Rlc.c, Rlc.const16, extractLsb'_append, -Nat.reduceAdd]

@[simp] theorem B.fields_word (op1 : BitVec 8) (disp24 : BitVec 24) :
    let w := B.word op1 disp24
    w.extractLsb' 0 8 = op1 ∧ B.disp24 w = disp24 := by
  simp (disch := decide) [B.word, B.disp24, extractLsb'_append, BitVec.extractLsb'_append_extractLsb'_eq_extractLsb',
    -Nat.reduceAdd]

@[simp] theorem Sb.fields_word (op1 disp8 : BitVec 8) :
    let w := Sb.word op1 disp8
    w.extractLsb' 0 8 = op1 ∧ Sb.disp8 w = disp8 := by
  simp (disch := decide) [Sb.word, Sb.disp8, extractLsb'_append, -Nat.reduceAdd]

@[simp] theorem Rr.fields_word (op1 op2 : BitVec 8) (a b c : BitVec 4) (n : BitVec 2) :
    let w := Rr.word op1 op2 a b c n
    w.extractLsb' 0 8 = op1 ∧ Rr.op2 w = op2 ∧ Rr.a w = a ∧ Rr.b w = b ∧ Rr.c w = c ∧ Rr.n w = n := by
  simp (disch := decide) [Rr.word, Rr.op2, Rr.a, Rr.b, Rr.c, Rr.n, extractLsb'_append, -Nat.reduceAdd]

@[simp] theorem Brn.fields_word (op1 : BitVec 7) (op2 : BitVec 1) (a : BitVec 4) (disp15 : BitVec 15) (n : BitVec 5) :
    let w := Brn.word op1 op2 a disp15 n
    Brn.op1 w = op1 ∧ Brn.op2 w = op2 ∧ Brn.a w = a ∧ Brn.disp15 w = disp15 ∧ Brn.n w = n := by
  simp (disch := decide) [Brn.word, Brn.op1, Brn.op2, Brn.a, Brn.disp15, Brn.n, extractLsb'_append,
    BitVec.extractLsb'_append_extractLsb'_eq_extractLsb', -Nat.reduceAdd]

@[simp] theorem Sbrn.fields_word (op1 : BitVec 8) (disp4 n : BitVec 4) :
    let w := Sbrn.word op1 disp4 n
    w.extractLsb' 0 8 = op1 ∧ Sbrn.disp4 w = disp4 ∧ Sbrn.n w = n := by
  simp (disch := decide) [Sbrn.word, Sbrn.disp4, Sbrn.n, extractLsb'_append, -Nat.reduceAdd]

@[simp] theorem Abs.fields_word (op1 : BitVec 8) (op2 : BitVec 2) (a : BitVec 4) (off18 : BitVec 18) :
    let w := Abs.word op1 op2 a off18
    w.extractLsb' 0 8 = op1 ∧ Abs.op2 w = op2 ∧ Abs.a w = a ∧ Abs.off18 w = off18 := by
  simp (disch := decide) [Abs.word, Abs.op2, Abs.a, Abs.off18, extractLsb'_append,
    BitVec.extractLsb'_append_extractLsb'_eq_extractLsb', -Nat.reduceAdd]

@[simp] theorem Bo.fields_word (op1 : BitVec 8) (op2 : BitVec 6) (a b : BitVec 4) (off10 : BitVec 10) :
    let w := Bo.word op1 op2 a b off10
    w.extractLsb' 0 8 = op1 ∧ Bo.op2 w = op2 ∧ Bo.a w = a ∧ Bo.b w = b ∧ Bo.off10 w = off10 := by
  simp (disch := decide) [Bo.word, Bo.op2, Bo.a, Bo.b, Bo.off10, extractLsb'_append,
    BitVec.extractLsb'_append_extractLsb'_eq_extractLsb', -Nat.reduceAdd]

@[simp] theorem Bol.fields_word (op1 : BitVec 8) (a b : BitVec 4) (off16 : BitVec 16) :
    let w := Bol.word op1 a b off16
    w.extractLsb' 0 8 = op1 ∧ Bol.a w = a ∧ Bol.b w = b ∧ Bol.off16 w = off16 := by
  simp (disch := decide) [Bol.word, Bol.a, Bol.b, Bol.off16, extractLsb'_append,
    BitVec.extractLsb'_append_extractLsb'_eq_extractLsb', -Nat.reduceAdd]

@[simp] theorem Absb.fields_word (op1 : BitVec 8) (op2 : BitVec 2) (b : BitVec 1) (bpos3 : BitVec 3)
    (off18 : BitVec 18) :
    let w := Absb.word op1 op2 b bpos3 off18
    w.extractLsb' 0 8 = op1 ∧ Absb.op2 w = op2 ∧ Absb.b w = b ∧ Absb.bpos3 w = bpos3 ∧ Absb.off18 w = off18 := by
  simp (disch := decide) [Absb.word, Absb.op2, Absb.b, Absb.bpos3, Absb.off18, extractLsb'_append,
    BitVec.extractLsb'_append_extractLsb'_eq_extractLsb', -Nat.reduceAdd]

@[simp] theorem Rrpw.fields_word (op1 : BitVec 8) (op2 : BitVec 2) (a c : BitVec 4) (pos width : BitVec 5) :
    let w := Rrpw.word op1 op2 a c pos width
    w.extractLsb' 0 8 = op1 ∧ Rrpw.op2 w = op2 ∧ Rrpw.a w = a ∧ Rrpw.c w = c ∧ Rrpw.pos w = pos ∧
      Rrpw.width w = width := by
  simp (disch := decide) [Rrpw.word, Rrpw.op2, Rrpw.a, Rrpw.c, Rrpw.pos, Rrpw.width, extractLsb'_append,
    -Nat.reduceAdd]

@[simp] theorem Rrrr.fields_word (op1 : BitVec 8) (op2 : BitVec 3) (a c d : BitVec 4) :
    let w := Rrrr.word op1 op2 a c d
    w.extractLsb' 0 8 = op1 ∧ Rrrr.op2 w = op2 ∧ Rrrr.a w = a ∧ Rrrr.c w = c ∧ Rrrr.d w = d := by
  simp (disch := decide) [Rrrr.word, Rrrr.op2, Rrrr.a, Rrrr.c, Rrrr.d, extractLsb'_append, -Nat.reduceAdd]

@[simp] theorem Rrrw.fields_word (op1 : BitVec 8) (op2 : BitVec 3) (a c d : BitVec 4) (width : BitVec 5) :
    let w := Rrrw.word op1 op2 a c d width
    w.extractLsb' 0 8 = op1 ∧ Rrrw.op2 w = op2 ∧ Rrrw.a w = a ∧ Rrrw.c w = c ∧ Rrrw.d w = d ∧
      Rrrw.width w = width := by
  simp (disch := decide) [Rrrw.word, Rrrw.op2, Rrrw.a, Rrrw.c, Rrrw.d, Rrrw.width, extractLsb'_append, -Nat.reduceAdd]

@[simp] theorem Rrr.fields_word (op1 : BitVec 8) (op2 a b c d : BitVec 4) :
    let w := Rrr.word op1 op2 a b c d
    w.extractLsb' 0 8 = op1 ∧ Rrr.op2 w = op2 ∧ Rrr.a w = a ∧ Rrr.b w = b ∧ Rrr.c w = c ∧ Rrr.d w = d := by
  simp (disch := decide) [Rrr.word, Rrr.op2, Rrr.a, Rrr.b, Rrr.c, Rrr.d, extractLsb'_append, -Nat.reduceAdd]

@[simp] theorem Brr.fields_word (op1 : BitVec 8) (op2 : BitVec 1) (a b : BitVec 4) (disp15 : BitVec 15) :
    let w := Brr.word op1 op2 a b disp15
    w.extractLsb' 0 8 = op1 ∧ Brr.op2 w = op2 ∧ Brr.a w = a ∧ Brr.b w = b ∧ Brr.disp15 w = disp15 := by
  simp (disch := decide) [Brr.word, Brr.op2, Brr.a, Brr.b, Brr.disp15, extractLsb'_append, -Nat.reduceAdd]

@[simp] theorem Brc.fields_word (op1 : BitVec 8) (op2 : BitVec 1) (a const4 : BitVec 4) (disp15 : BitVec 15) :
    let w := Brc.word op1 op2 a const4 disp15
    w.extractLsb' 0 8 = op1 ∧ Brc.op2 w = op2 ∧ Brc.a w = a ∧ Brc.const4 w = const4 ∧ Brc.disp15 w = disp15 := by
  simp (disch := decide) [Brc.word, Brc.op2, Brc.a, Brc.const4, Brc.disp15, extractLsb'_append, -Nat.reduceAdd]

@[simp] theorem Src.fields_word (op1 : BitVec 8) (a const4 : BitVec 4) :
    let w := Src.word op1 a const4
    w.extractLsb' 0 8 = op1 ∧ Src.a w = a ∧ Src.const4 w = const4 := by
  simp (disch := decide) [Src.word, Src.a, Src.const4, extractLsb'_append, -Nat.reduceAdd]

@[simp] theorem Srr.fields_word (op1 : BitVec 8) (a b : BitVec 4) :
    let w := Srr.word op1 a b
    w.extractLsb' 0 8 = op1 ∧ Srr.a w = a ∧ Srr.b w = b := by
  simp (disch := decide) [Srr.word, Srr.a, Srr.b, extractLsb'_append, -Nat.reduceAdd]

@[simp] theorem Slr.fields_word (op1 : BitVec 8) (b c : BitVec 4) :
    let w := Slr.word op1 b c
    w.extractLsb' 0 8 = op1 ∧ Slr.b w = b ∧ Slr.c w = c := by
  simp (disch := decide) [Slr.word, Slr.b, Slr.c, extractLsb'_append, -Nat.reduceAdd]

@[simp] theorem Ssr.fields_word (op1 : BitVec 8) (a b : BitVec 4) :
    let w := Ssr.word op1 a b
    w.extractLsb' 0 8 = op1 ∧ Ssr.a w = a ∧ Ssr.b w = b := by
  simp (disch := decide) [Ssr.word, Ssr.a, Ssr.b, extractLsb'_append, -Nat.reduceAdd]

/-! ## The opcodes (30_encoding R300, R312, R315)

A primary opcode that several instructions share leads to the decoder of its secondary opcodes. -/

section Rows

variable {w : Word}

theorem decode32_rr01 (h : w.extractLsb' 0 8 = 0x01#8) : decode32 w = decodeRr01 w := by rw [decode32, h]; rfl
theorem decode32_abs05 (h : w.extractLsb' 0 8 = 0x05#8) : decode32 w = decodeAbs05 w := by rw [decode32, h]; rfl
theorem decode32_bo09 (h : w.extractLsb' 0 8 = 0x09#8) : decode32 w = decodeBo09 w := by rw [decode32, h]; rfl
theorem decode32_rr0B (h : w.extractLsb' 0 8 = 0x0B#8) : decode32 w = decodeRr0B w := by rw [decode32, h]; rfl
theorem decode32_sys0D (h : w.extractLsb' 0 8 = 0x0D#8) : decode32 w = decodeSys0D w := by rw [decode32, h]; rfl
theorem decode32_rr0F (h : w.extractLsb' 0 8 = 0x0F#8) : decode32 w = decodeRr0F w := by rw [decode32, h]; rfl
theorem decode32_abs15 (h : w.extractLsb' 0 8 = 0x15#8) : decode32 w = decodeAbs15 w := by rw [decode32, h]; rfl
theorem decode32_rrrr17 (h : w.extractLsb' 0 8 = 0x17#8) : decode32 w = decodeRrrr17 w := by rw [decode32, h]; rfl
theorem decode32_abs25 (h : w.extractLsb' 0 8 = 0x25#8) : decode32 w = decodeAbs25 w := by rw [decode32, h]; rfl
theorem decode32_bo29 (h : w.extractLsb' 0 8 = 0x29#8) : decode32 w = decodeBo29 w := by rw [decode32, h]; rfl
theorem decode32_rr2D (h : w.extractLsb' 0 8 = 0x2D#8) : decode32 w = decodeRr2D w := by rw [decode32, h]; rfl
theorem decode32_rrpw37 (h : w.extractLsb' 0 8 = 0x37#8) : decode32 w = decodeRrpw37 w := by rw [decode32, h]; rfl
theorem decode32_bo49 (h : w.extractLsb' 0 8 = 0x49#8) : decode32 w = decodeBo49 w := by rw [decode32, h]; rfl
theorem decode32_rr4B (h : w.extractLsb' 0 8 = 0x4B#8) : decode32 w = decodeRr4B w := by rw [decode32, h]; rfl
theorem decode32_rrrw57 (h : w.extractLsb' 0 8 = 0x57#8) : decode32 w = decodeRrrw57 w := by rw [decode32, h]; rfl
theorem decode32_brr5F (h : w.extractLsb' 0 8 = 0x5F#8) : decode32 w = decodeBrr5F w := by rw [decode32, h]; rfl
theorem decode32_bo69 (h : w.extractLsb' 0 8 = 0x69#8) : decode32 w = decodeBo69 w := by rw [decode32, h]; rfl
theorem decode32_rrr6B (h : w.extractLsb' 0 8 = 0x6B#8) : decode32 w = decodeRrr6B w := by rw [decode32, h]; rfl
theorem decode32_abs85 (h : w.extractLsb' 0 8 = 0x85#8) : decode32 w = decodeAbs85 w := by rw [decode32, h]; rfl
theorem decode32_bo89 (h : w.extractLsb' 0 8 = 0x89#8) : decode32 w = decodeBo89 w := by rw [decode32, h]; rfl
theorem decode32_rc8B (h : w.extractLsb' 0 8 = 0x8B#8) : decode32 w = decodeRc8B w := by rw [decode32, h]; rfl
theorem decode32_rc8F (h : w.extractLsb' 0 8 = 0x8F#8) : decode32 w = decodeRc8F w := by rw [decode32, h]; rfl
theorem decode32_absA5 (h : w.extractLsb' 0 8 = 0xA5#8) : decode32 w = decodeAbsA5 w := by rw [decode32, h]; rfl
theorem decode32_boA9 (h : w.extractLsb' 0 8 = 0xA9#8) : decode32 w = decodeBoA9 w := by rw [decode32, h]; rfl
theorem decode32_rcAD (h : w.extractLsb' 0 8 = 0xAD#8) : decode32 w = decodeRcAD w := by rw [decode32, h]; rfl
theorem decode32_absC5 (h : w.extractLsb' 0 8 = 0xC5#8) : decode32 w = decodeAbsC5 w := by rw [decode32, h]; rfl
theorem decode32_absbD5 (h : w.extractLsb' 0 8 = 0xD5#8) : decode32 w = decodeAbsbD5 w := by rw [decode32, h]; rfl
theorem decode32_brcDF (h : w.extractLsb' 0 8 = 0xDF#8) : decode32 w = decodeBrcDF w := by rw [decode32, h]; rfl
theorem decode32_absE5 (h : w.extractLsb' 0 8 = 0xE5#8) : decode32 w = decodeAbsE5 w := by rw [decode32, h]; rfl
theorem decode32_brrFD (h : w.extractLsb' 0 8 = 0xFD#8) : decode32 w = decodeBrrFD w := by rw [decode32, h]; rfl

/-- Format BRN has an opcode of 7 bits: bit 7 of the word belongs to its operand `n`. -/
theorem decode32_brn6F (h : Brn.op1 w = 0x6F#7) : decode32 w = decodeBrn6F w := by
  have hop : w.extractLsb' 0 8 = w.extractLsb' 7 1 ++ Brn.op1 w :=
    (BitVec.extractLsb'_append_extractLsb'_eq_extractLsb' (w := 32) (start₁ := 0) (len₁ := 7) (len₂ := 1) rfl).symm
  rcases BitVec.eq_zero_or_eq_one (w.extractLsb' 7 1) with hn | hn <;> rw [decode32, hop, h, hn] <;> rfl

end Rows

/-- The opcode of every 32-bit row is odd. -/
theorem opcode_odd_of_decode32 {w : Word} {i : Instr} (h : decode32 w = some i) :
    (w.extractLsb' 0 8).getLsbD 0 = true := by
  rw [BitVec.getLsbD, Nat.testBit_zero]
  unfold decode32 at h
  split at h <;> grind

/-- The opcode of every 16-bit row is even. -/
theorem opcode_even_of_decode16 {w : Half} {i : Instr} (h : decode16 w = some i) :
    (w.extractLsb' 0 8).getLsbD 0 = false := by
  rw [BitVec.getLsbD, Nat.testBit_zero]
  unfold decode16 at h
  split at h <;> grind

/-! ## The words of an instruction decode to it -/

/-- The decoder finds the instruction from its word; of an instruction without an encoding it says nothing. -/
def Instr.Decodes (i : Instr) : Prop :=
  match i.encoding with
  | .half w => decode16 w = some i
  | .word w => decode32 w = some i
  | .unknown => True

/-- Case by case along the rows of the decoder: the instructions that share a primary opcode, then those that have an
opcode of their own, and those without an encoding. -/
theorem Instr.decodes (i : Instr) : i.Decodes := by
  cases i with
  | nop | fret | debug | rfm | ret | rfe | svlcx | rslcx | enable | disable | dsync | isync | trapv | trapsv |
    restore | disableD =>
    simp [Instr.Decodes, Instr.encoding, decode32_sys0D, decodeSys0D]
  | nop16 | fret16 | rfe16 | ret16 | debug16 => simp [Instr.Decodes, Instr.encoding, decode16, decodeSr00]
  | bisr | syscall => simp [Instr.Decodes, Instr.encoding, decode32_rcAD, decodeRcAD]
  | bisr16 | call16 | jzT16 | mov16C | mov16R | add16C | add16R | ldW16 | stW16 =>
    simp [Instr.Decodes, Instr.encoding, decode16]
  | mfcr | mtcr | call | calla | fcall | fcalla | jl | leaLong | ldWLong | ldALong | ldBLong | ldBuLong | ldHLong |
    ldHuLong | stWLong | stALong | stBLong | stHLong | movConst | movh | movhA | addi | j | ja | jla =>
    simp [Instr.Decodes, Instr.encoding, decode32]
  | calli | fcalli | ji | jli => simp [Instr.Decodes, Instr.encoding, decode32_rr2D, decodeRr2D]
  | jzT | jnzT => simp [Instr.Decodes, Instr.encoding, decode32_brn6F, decodeBrn6F]
  | stlcxAbs | stucxAbs | ldlcxAbs | lducxAbs => simp [Instr.Decodes, Instr.encoding, decode32_abs15, decodeAbs15]
  | ldlcxOff | lducxOff | stlcxOff | stucxOff | leaOff | swapWOff | swapWPost | swapWPre | ldmstOff | ldmstPost |
    ldmstPre | swapmskWOff | swapmskWPost | swapmskWPre | cmpswapWOff | cmpswapWPost | cmpswapWPre =>
    simp [Instr.Decodes, Instr.encoding, decode32_bo49, decodeBo49]
  | leaAbs => simp [Instr.Decodes, Instr.encoding, decode32_absC5, decodeAbsC5]
  | swapWRev | swapWCirc | ldmstRev | ldmstCirc | swapmskWRev | swapmskWCirc | cmpswapWRev | cmpswapWCirc =>
    simp [Instr.Decodes, Instr.encoding, decode32_bo69, decodeBo69]
  | swapWAbs | ldmstAbs => simp [Instr.Decodes, Instr.encoding, decode32_absE5, decodeAbsE5]
  | stT => simp [Instr.Decodes, Instr.encoding, decode32_absbD5, decodeAbsbD5]
  | ldBAbs | ldBuAbs | ldHAbs | ldHuAbs => simp [Instr.Decodes, Instr.encoding, decode32_abs05, decodeAbs05]
  | ldBOff | ldBPost | ldBPre | ldBuOff | ldBuPost | ldBuPre | ldHOff | ldHPost | ldHPre | ldHuOff | ldHuPost |
    ldHuPre | ldWOff | ldWPost | ldWPre | ldDOff | ldDPost | ldDPre | ldAOff | ldAPost | ldAPre | ldDaOff | ldDaPost
    | ldDaPre =>
    simp [Instr.Decodes, Instr.encoding, decode32_bo09, decodeBo09]
  | ldBRev | ldBCirc | ldBuRev | ldBuCirc | ldHRev | ldHCirc | ldHuRev | ldHuCirc | ldWRev | ldWCirc | ldDRev |
    ldDCirc | ldARev | ldACirc | ldDaRev | ldDaCirc =>
    simp [Instr.Decodes, Instr.encoding, decode32_bo29, decodeBo29]
  | ldWAbs | ldDAbs | ldAAbs | ldDaAbs => simp [Instr.Decodes, Instr.encoding, decode32_abs85, decodeAbs85]
  | stBAbs | stHAbs => simp [Instr.Decodes, Instr.encoding, decode32_abs25, decodeAbs25]
  | stBOff | stBPost | stBPre | stHOff | stHPost | stHPre | stWOff | stWPost | stWPre | stDOff | stDPost | stDPre |
    stAOff | stAPost | stAPre | stDaOff | stDaPost | stDaPre | cacheaWOff | cacheaWPost | cacheaWPre | cacheaWiOff |
    cacheaWiPost | cacheaWiPre | cacheaIOff | cacheaIPost | cacheaIPre | cacheiWOff | cacheiWPost | cacheiWPre |
    cacheiIOff | cacheiIPost | cacheiIPre | cacheiWiOff | cacheiWiPost | cacheiWiPre =>
    simp [Instr.Decodes, Instr.encoding, decode32_bo89, decodeBo89]
  | stBRev | stBCirc | stHRev | stHCirc | stWRev | stWCirc | stDRev | stDCirc | stARev | stACirc | stDaRev |
    stDaCirc =>
    simp [Instr.Decodes, Instr.encoding, decode32_boA9, decodeBoA9]
  | stWAbs | stDAbs | stAAbs | stDaAbs => simp [Instr.Decodes, Instr.encoding, decode32_absA5, decodeAbsA5]
  | add | addx | addc | mov | sub | eq | lt => simp [Instr.Decodes, Instr.encoding, decode32_rr0B, decodeRr0B]
  | addC | addxC | addcC | eqC | ltC => simp [Instr.Decodes, Instr.encoding, decode32_rc8B, decodeRc8B]
  | addscA | addscAt | movA | movD | movAa => simp [Instr.Decodes, Instr.encoding, decode32_rr01, decodeRr01]
  | extrU => simp [Instr.Decodes, Instr.encoding, decode32_rrpw37, decodeRrpw37]
  | extrUReg => simp [Instr.Decodes, Instr.encoding, decode32_rrrr17, decodeRrrr17]
  | extrUWidth => simp [Instr.Decodes, Instr.encoding, decode32_rrrw57, decodeRrrw57]
  | addF | subF | maddF | msubF => simp [Instr.Decodes, Instr.encoding, decode32_rrr6B, decodeRrr6B]
  | cmpF | mulF | divF | updfl | ftoi | ftoq31 | ftou | ftoiz | itof | q31tof | utof | ftouz | ftoq31z | qseedF |
    hptof | ftohp =>
    simp [Instr.Decodes, Instr.encoding, decode32_rr4B, decodeRr4B]
  | and | or | xor => simp [Instr.Decodes, Instr.encoding, decode32_rr0F, decodeRr0F]
  | andC | orC | xorC => simp [Instr.Decodes, Instr.encoding, decode32_rc8F, decodeRc8F]
  | jeq | jne => simp [Instr.Decodes, Instr.encoding, decode32_brr5F, decodeBrr5F]
  | jeqC | jneC => simp [Instr.Decodes, Instr.encoding, decode32_brcDF, decodeBrcDF]
  | loop => simp [Instr.Decodes, Instr.encoding, decode32_brrFD, decodeBrrFD]
  | mfdcr | mtdcr | hvcall | rfh | jri | trapinv | ldDd | stDd | absF | negF | minF | maxF | ftoin | addDf | subDf |
    mulDf | divDf | maddDf | msubDf | cmpDf | qseedDf | dftoi | dftoin | dftoiz | dftou | dftouz | dftol | dftolz |
    dftoul | dftoulz | ltodf =>
    trivial

theorem decode_of_decode32 {w : Word} {i : Instr} (h : decode32 w = some i) (rest : List Byte) :
    decode (w.extractLsb' 0 8 :: w.extractLsb' 8 8 :: w.extractLsb' 16 8 :: w.extractLsb' 24 8 :: rest) =
      .ok (i, rest) := by
  have hbytes : w.extractLsb' 24 8 ++ w.extractLsb' 16 8 ++ w.extractLsb' 8 8 ++ w.extractLsb' 0 8 = w := by
    simp [BitVec.extractLsb'_append_extractLsb'_eq_extractLsb', -Nat.reduceAdd]
  simp only [decode, opcode_odd_of_decode32 h, if_true, hbytes, h]

theorem decode_of_decode16 {w : Half} {i : Instr} (h : decode16 w = some i) (rest : List Byte) :
    decode (w.extractLsb' 0 8 :: w.extractLsb' 8 8 :: rest) = .ok (i, rest) := by
  have hbytes : w.extractLsb' 8 8 ++ w.extractLsb' 0 8 = w := BitVec.extractLsb'_append_extractLsb'
  simp only [decode, opcode_even_of_decode16 h, Bool.false_eq_true, if_false, hbytes, h]

/-- Settles O2: the row of the instruction decodes its word, and bit 0 of the opcode tells the decoder the length. -/
theorem decodeEncode : Obligations.decode_encode := by
  unfold Obligations.decode_encode
  intro i rest hi
  have hdecodes := i.decodes
  unfold Instr.Decodes at hdecodes
  unfold encode
  cases hw : i.encoding with
  | half w =>
    rw [hw] at hdecodes
    exact decode_of_decode16 hdecodes rest
  | word w =>
    rw [hw] at hdecodes
    exact decode_of_decode32 hdecodes rest
  | unknown => exact absurd hw hi

/-! ## What decodes -/

/-- The bytes of what decodes: a half-word or a word that is a row, and what follows it. -/
theorem bytes_of_decode {bytes rest : List Byte} {i : Instr} (h : decode bytes = .ok (i, rest)) :
    (∃ b0 b1, bytes = b0 :: b1 :: rest ∧ decode16 (b1 ++ b0) = some i) ∨
      (∃ b0 b1 b2 b3, bytes = b0 :: b1 :: b2 :: b3 :: rest ∧ decode32 (b3 ++ b2 ++ b1 ++ b0) = some i) := by
  match bytes with
  | [] | [_] => cases h
  | b0 :: b1 :: tail =>
    unfold decode at h
    dsimp only at h
    split at h
    · match tail with
      | [] | [_] => cases h
      | b2 :: b3 :: tail' =>
        cases hw : decode32 (b3 ++ b2 ++ b1 ++ b0) with
        | none => simp [hw] at h
        | some j =>
          obtain ⟨rfl, rfl⟩ : j = i ∧ tail' = rest := by simpa [hw] using h
          exact .inr ⟨b0, b1, b2, b3, rfl, hw⟩
    · cases hw : decode16 (b1 ++ b0) with
      | none => simp [hw] at h
      | some j =>
        obtain ⟨rfl, rfl⟩ : j = i ∧ tail = rest := by simpa [hw] using h
        exact .inl ⟨b0, b1, rfl, hw⟩

/-- The instruction has an encoding of `n` bytes. -/
def Instr.hasLength (n : Nat) (i : Instr) : Bool := i.encoding != .unknown && i.ilen == n

/-- Every 32-bit row is of an instruction of 4 bytes: row by row of the primary and the secondary opcodes. -/
theorem decode32_hasLength (w : Word) : (decode32 w).all (Instr.hasLength 4) = true := by
  unfold decode32 decodeRr01 decodeAbs05 decodeBo09 decodeRr0B decodeSys0D decodeRr0F decodeAbs15 decodeRrrr17
    decodeAbs25 decodeBo29 decodeRr2D decodeRrpw37 decodeBo49 decodeRr4B decodeRrrw57 decodeBrr5F decodeBo69
    decodeRrr6B decodeBrn6F decodeAbs85 decodeBo89 decodeRc8B decodeRc8F decodeAbsA5 decodeBoA9 decodeRcAD
    decodeAbsC5 decodeAbsbD5 decodeBrcDF decodeAbsE5 decodeBrrFD
  repeat' split
  all_goals rfl

/-- Every 16-bit row is of an instruction of 2 bytes. -/
theorem decode16_hasLength (w : Half) : (decode16 w).all (Instr.hasLength 2) = true := by
  unfold decode16 decodeSr00
  repeat' split
  all_goals rfl

theorem length_of_decode32 {w : Word} {i : Instr} (h : decode32 w = some i) : i.encoding ≠ .unknown ∧ i.ilen = 4 := by
  simpa [h, Instr.hasLength] using decode32_hasLength w

theorem length_of_decode16 {w : Half} {i : Instr} (h : decode16 w = some i) : i.encoding ≠ .unknown ∧ i.ilen = 2 := by
  simpa [h, Instr.hasLength] using decode16_hasLength w

/-- Settles O3: the bytes of what decodes are those of a row, and each row has the length of its instruction. -/
theorem decodeConsumesTheLength : Obligations.decode_consumes_the_length := by
  unfold Obligations.decode_consumes_the_length
  intro bytes rest i h
  rcases bytes_of_decode h with ⟨b0, b1, rfl, hw⟩ | ⟨b0, b1, b2, b3, rfl, hw⟩
  · obtain ⟨hknown, hlen⟩ := length_of_decode16 hw
    exact ⟨hknown, by simp only [hlen, List.length_cons]; omega⟩
  · obtain ⟨hknown, hlen⟩ := length_of_decode32 hw
    exact ⟨hknown, by simp only [hlen, List.length_cons]; omega⟩

/-! ## Known words (30_encoding R313 to R315) -/

/-- A word whose bytes begin with those of an instruction decodes to it. -/
theorem decodeTableWord_of_encode {nbits w : Nat} {i : Instr} (hi : i.encoding ≠ .unknown)
    (h : encode i <+: tableBytes nbits w) : decodeTableWord nbits w = some i := by
  obtain ⟨rest, h⟩ := h
  rw [decodeTableWord, ← h, decodeEncode i rest hi]

/-- Settles O1: each word is the one that the encoder writes. -/
theorem knownWordsDecode : Obligations.known_words_decode := by
  unfold Obligations.known_words_decode
  refine ⟨?_, ?_, ?_, ?_, ?_, ?_, ?_, ?_⟩
  all_goals exact decodeTableWord_of_encode (by decide) (by decide)

end Sys2Proof
end

section
/-! PROOFS. The instructions with an address register as their result (40_addressing R366 to R368, 47_supplementary R983,
R986, R988). -/

namespace Sys2Proof.Machine

variable {s : State} {i : Instr}

/-- A constant in the upper half of a word (47 R983). -/
theorem append_zeros_eq_shiftLeft (k : BitVec 16) : (k ++ 0#16 : Word) = k.setWidth 32 <<< 16 := by
  have hk := k.isLt
  apply BitVec.eq_of_toNat_eq
  simp only [toNat_halves, BitVec.toNat_shiftLeft, BitVec.toNat_setWidth, BitVec.toNat_ofNat, Nat.shiftLeft_eq]
  omega

/-- An instruction with an address register as its result writes the value of its form. -/
theorem exec_of_addressForm {c : Reg} {v : Word} (h : addressForm s i = some (c, v)) : exec i s = s.execA 4 c v := by
  cases i with
  | movhA _ k =>
    cases h
    exact congrArg (s.execA 4 c) (append_zeros_eq_shiftLeft k)
  | movA | movAa | leaOff | leaAbs | leaLong | addscA | addscAt =>
    cases h
    rfl
  | _ => cases h

/-- Settles O14: where the destination may be written, the check of global registers passes. -/
theorem addressResults : Obligations.address_results := by
  unfold Obligations.address_results
  intro s i c v hform hwrite
  have hgo : s.globalCheck c = .go := State.globalCheck_go hwrite c (by simp)
  have he : exec i s = .next ((s.setA c v).advance 4) := by
    rw [exec_of_addressForm hform, State.execA, State.conclude_go hgo]
  exact ⟨_, he, State.getA_setA_same s c v, by simp, KeepsMemory.of_mem (by simp) (by simp), Kept.setA_advance c v 4⟩

end Sys2Proof.Machine
end

section
/-! PROOFS. The loads, the stores and the atomic instructions that meet no trap (40_addressing R330 to R364, 47_supplementary
R1000): what a load puts in its registers, what a store puts in memory. -/

namespace Sys2Proof.Machine

variable {s t : State} {i : Instr}

/-! ## What a frame without special registers keeps besides -/

/-- The pc, the running resource and what the host has been told are within a frame that names no special register. -/
theorem Kept.keeps_course {ds as : List Reg} (h : Kept s t ds as []) : t.pc = s.pc ∧ t.out = s.out ∧ t.res = s.res := by
  have hpc : t.pc = s.pc := h.csfr .hv .pc (by simp) (by simp)
  have hvcon1 : t.getSys .vcon1 = s.getSys .vcon1 := h.csfr .hv (.sys .vcon1) (by simp) (by simp)
  have hcfg : t.cfg = s.cfg := congrArg Prod.fst h.fixed
  have hout := h.hidden
  simp only [Prod.mk.injEq] at hout
  exact ⟨hpc, by simp [hout], by simp [State.res, State.cvmn, hvcon1, hcfg]⟩

/-! ## The destination of a load (40_addressing R343 to R351) -/

theorem State.getD_setD (s : State) (m n : Reg) (v : Word) :
    (s.setD n v).getD m = if m = n then v else s.getD m := by
  split
  next h => rw [h, State.getD_setD_same]
  next h => exact s.getD_setD_ne h v

theorem State.getA_setA (s : State) (m n : Reg) (v : Word) :
    (s.setA n v).getA m = if m = n then v else s.getA m := by
  split
  next h => rw [h, State.getA_setA_same]
  next h => exact s.getA_setA_ne h v

/-- A property of the entries of a list with their places. -/
theorem forall_getElem?_cons {α : Type} {P : Nat → α → Prop} {a : α} {l : List α} :
    (∀ k n, (a :: l)[k]? = some n → P k n) ↔ P 0 a ∧ ∀ k n, l[k]? = some n → P (k + 1) n := by
  constructor
  · exact fun h => ⟨h 0 a rfl, fun k n hn => h (k + 1) n (by simpa using hn)⟩
  · rintro ⟨h0, h⟩ (_ | k) n hn
    · cases hn
      exact h0
    · exact h k n (by simpa using hn)

/-- Word `k` of a number of several words. -/
theorem extractLsb'_ofNat {w : Nat} (v k : Nat) (h : 32 * k + 32 ≤ w) :
    (BitVec.ofNat w v).extractLsb' (32 * k) 32 = BitVec.ofNat 32 (v / 2 ^ (32 * k)) := by
  apply BitVec.eq_of_getLsbD_eq
  intro j hj
  have hw : 32 * k + j < w := by omega
  simp only [BitVec.getLsbD_extractLsb', BitVec.getLsbD_ofNat, hj, hw, decide_true, Bool.true_and,
    ← Nat.shiftRight_eq_div_pow, Nat.testBit_shiftRight]

/-- `put` fills the destination of a load of form `f` with the words of its datum, and changes nothing else. -/
structure MemForm.Fills (f : MemForm) (put : State → Nat → State) : Prop where
  data : ∀ t v, v < 256 ^ f.size → ∀ k n, f.place.dataRegs[k]? = some n → (put t v).getD n = f.word v k
  addr : ∀ t v, v < 256 ^ f.size → ∀ k n, f.place.addrRegs[k]? = some n → (put t v).getA n = f.word v k
  mem : ∀ t v, (put t v).mem = t.mem
  kept : ∀ t v, Kept t (put t v) f.place.dataRegs f.place.addrRegs []

/-- Word `k` of an unsigned datum. -/
theorem MemForm.word_unsigned {f : MemForm} (h : f.signed = false) (v k : Nat) :
    f.word v k = BitVec.ofNat 32 (v / 2 ^ (32 * k)) := by simp [MemForm.word, h]

theorem MemForm.fills_d {f : MemForm} {a : Reg} {word : Nat → Word} (hp : f.place = .d a)
    (hw : ∀ v, v < 256 ^ f.size → word v = f.word v 0) : f.Fills fun t v => t.setD a (word v) where
  data t v hv := by simp [hp, Place.dataRegs, forall_getElem?_cons, hw v hv]
  addr t v hv := by simp [hp, Place.addrRegs]
  mem t v := rfl
  kept t v := by
    rw [hp]
    exact Kept.setD a (word v)

/-- A signed datum fills its register with its sign. -/
theorem MemForm.fills_signed {f : MemForm} {a : Reg} (hp : f.place = .d a) (hs : f.signed = true) :
    f.Fills fun t v => t.setD a (sext (BitVec.ofNat (8 * f.size) v)) :=
  MemForm.fills_d hp fun v _ => by simp [MemForm.word, hs, sext]

/-- An unsigned datum fills its register with zeros. -/
theorem MemForm.fills_unsigned {f : MemForm} {a : Reg} (hp : f.place = .d a) (hs : f.signed = false) :
    f.Fills fun t v => t.setD a (zext (BitVec.ofNat (8 * f.size) v)) := by
  refine MemForm.fills_d hp fun v hv => ?_
  rw [show 256 = 2 ^ 8 from rfl, ← Nat.pow_mul] at hv
  rw [MemForm.word_unsigned hs]
  apply BitVec.eq_of_toNat_eq
  simp [zext, Nat.mod_eq_of_lt hv]

theorem MemForm.fills_e {f : MemForm} {a : Reg} (hp : f.place = .e a) (hs : f.signed = false) :
    f.Fills fun t v => t.setE a (BitVec.ofNat 64 v) where
  data t v _ := by
    simp [hp, Place.dataRegs, forall_getElem?_cons, MemForm.word_unsigned hs, State.setE, State.getD_setD,
      extractLsb'_ofNat v 0, extractLsb'_ofNat v 1]
  addr t v _ := by simp [hp, Place.addrRegs]
  mem t v := rfl
  kept t v := by
    rw [hp]
    exact (Kept.setD a _).trans (Kept.setD (a + 1) _) rfl

theorem MemForm.fills_q {f : MemForm} {a : Reg} (hp : f.place = .q a) (hs : f.signed = false) :
    f.Fills fun t v => t.setQ a (BitVec.ofNat 128 v) where
  data t v _ := by
    simp [hp, Place.dataRegs, forall_getElem?_cons, MemForm.word_unsigned hs, State.setQ, State.getD_setD,
      extractLsb'_ofNat v 0, extractLsb'_ofNat v 1, extractLsb'_ofNat v 2, extractLsb'_ofNat v 3]
  addr t v _ := by simp [hp, Place.addrRegs]
  mem t v := rfl
  kept t v := by
    rw [hp]
    exact (((Kept.setD a _).trans (Kept.setD (a + 1) _) rfl).trans (Kept.setD (a + 2) _) rfl).trans
      (Kept.setD (a + 3) _) rfl

theorem MemForm.fills_a {f : MemForm} {a : Reg} (hp : f.place = .a a) (hs : f.signed = false) :
    f.Fills fun t v => t.setA a (BitVec.ofNat 32 v) where
  data t v _ := by simp [hp, Place.dataRegs]
  addr t v _ := by simp [hp, Place.addrRegs, forall_getElem?_cons, MemForm.word_unsigned hs]
  mem t v := by simp
  kept t v := by
    rw [hp]
    exact Kept.setA a (BitVec.ofNat 32 v)

theorem MemForm.fills_p {f : MemForm} {a : Reg} (hp : f.place = .p a) (hs : f.signed = false) :
    f.Fills fun t v => (t.setA a (BitVec.ofNat 32 v)).setA (a + 1) (BitVec.ofNat 32 (v / 2 ^ 32)) where
  data t v _ := by simp [hp, Place.dataRegs]
  addr t v _ := by
    simp [hp, Place.addrRegs, forall_getElem?_cons, MemForm.word_unsigned hs, State.getA_setA]
  mem t v := by simp
  kept t v := by
    rw [hp]
    exact (Kept.setA a _).trans (Kept.setA (a + 1) _) (by simp)

/-! ## The course of a load with its destination -/

/-- The pair specifiers of a place (10_state R43). -/
def Place.pairs : Place → List Reg
  | .e n => [n]
  | .p n => [n]
  | .d _ => []
  | .q _ => []
  | .a _ => []

/-- The quad specifiers of a place. -/
def Place.quads : Place → List Reg
  | .q n => [n]
  | .d _ => []
  | .e _ => []
  | .a _ => []
  | .p _ => []

/-- The check of the specifier of a place (60_exceptions R829). -/
def State.placeCheck (s : State) : Place → Verdict
  | .e n => s.pairCheck n
  | .p n => s.pairCheck n
  | .q n => s.quadCheck n
  | .d _ => .go
  | .a _ => .go

theorem State.placeCheck_go {p : Place} (hp : p.pairs.all pairEven = true) (hq : p.quads.all quadAligned = true) :
    s.placeCheck p = .go := by
  cases p with
  | e n | p n => exact State.pairCheck_go (by simpa [Place.pairs] using hp)
  | q n => exact State.quadCheck_go (by simpa [Place.quads] using hq)
  | d n | a n => rfl

/-- Every load fills the destination of its form, and its specifiers are those of its destination and of its mode. -/
theorem exec_of_loadForm {f : MemForm} (h : loadForm i = some f) (s : State) : ∃ put,
    exec i s = s.execLoad f.len f.mem f.size f.align (s.placeCheck f.place) f.place.addrRegs put ∧ f.Fills put ∧
      i.pairs = f.place.pairs ++ f.mem.pairs ∧ i.quads = f.place.quads := by
  cases i with
  | ldBAbs a | ldBOff a | ldBPost a | ldBPre a | ldBRev a | ldBCirc a | ldBLong a =>
    cases h
    exact ⟨_, show s.ldB _ a _ = _ from rfl, MemForm.fills_signed rfl rfl, rfl, rfl⟩
  | ldBuAbs a | ldBuOff a | ldBuPost a | ldBuPre a | ldBuRev a | ldBuCirc a | ldBuLong a =>
    cases h
    exact ⟨_, show s.ldBu _ a _ = _ from rfl, MemForm.fills_unsigned rfl rfl, rfl, rfl⟩
  | ldHAbs a | ldHOff a | ldHPost a | ldHPre a | ldHRev a | ldHCirc a | ldHLong a =>
    cases h
    exact ⟨_, show s.ldH _ a _ = _ from rfl, MemForm.fills_signed rfl rfl, rfl, rfl⟩
  | ldHuAbs a | ldHuOff a | ldHuPost a | ldHuPre a | ldHuRev a | ldHuCirc a | ldHuLong a =>
    cases h
    exact ⟨_, show s.ldHu _ a _ = _ from rfl, MemForm.fills_unsigned rfl rfl, rfl, rfl⟩
  | ldWAbs a | ldWOff a | ldWPost a | ldWPre a | ldWRev a | ldWCirc a | ldWLong a | ldW16 a =>
    cases h
    exact ⟨_, show s.ldW _ a _ = _ from rfl,
      MemForm.fills_d rfl fun v _ => by simp [MemForm.word_unsigned], rfl, rfl⟩
  | ldAAbs a | ldAOff a | ldAPost a | ldAPre a | ldARev a | ldACirc a | ldALong a =>
    cases h
    exact ⟨_, show s.ldA _ a _ = _ from rfl, MemForm.fills_a rfl rfl, rfl, rfl⟩
  | ldDAbs a | ldDOff a | ldDPost a | ldDPre a | ldDRev a | ldDCirc a =>
    cases h
    exact ⟨_, show s.ldD _ a _ = _ from rfl, MemForm.fills_e rfl rfl, rfl, rfl⟩
  | ldDaAbs a | ldDaOff a | ldDaPost a | ldDaPre a | ldDaRev a | ldDaCirc a =>
    cases h
    exact ⟨_, show s.ldDa _ a _ = _ from rfl, MemForm.fills_p rfl rfl, rfl, rfl⟩
  | ldDd a mem =>
    cases h
    exact ⟨_, show execLdDd a mem s = _ from rfl, MemForm.fills_q rfl rfl, rfl, rfl⟩
  | _ => cases h

/-! ## A load that meets no trap (40_addressing R336, R342) -/

/-- A destination that the mode also updates takes any value; nothing else changes. -/
theorem State.loadConflict_cases (s : State) (r : Resolved) (dst : List Reg) :
    s.loadConflict r dst = s ∨ ∃ n ∈ dst, n ∈ r.target ∧ ∃ w, s.loadConflict r dst = s.setA n w := by
  unfold State.loadConflict
  split
  · rename_i n w hu
    split
    · rename_i hn
      exact .inr ⟨n, by simpa using hn, by simp [Resolved.target, hu], _, rfl⟩
    · exact .inl rfl
  · exact .inl rfl

@[simp] theorem State.loadConflict_mem (s : State) (r : Resolved) (dst : List Reg) :
    (s.loadConflict r dst).mem = s.mem := by
  rcases s.loadConflict_cases r dst with e | ⟨n, -, -, w, e⟩ <;> simp [e]

@[simp] theorem State.getD_loadConflict (s : State) (r : Resolved) (dst : List Reg) (m : Reg) :
    (s.loadConflict r dst).getD m = s.getD m := by
  rcases s.loadConflict_cases r dst with e | ⟨n, -, -, w, e⟩ <;> simp [e]

theorem State.getA_loadConflict {r : Resolved} {dst : List Reg} {m : Reg} (h : m ∉ dst ∨ m ∉ r.target) :
    (s.loadConflict r dst).getA m = s.getA m := by
  rcases s.loadConflict_cases r dst with e | ⟨n, hd, ht, w, e⟩
  · rw [e]
  · have hne : m ≠ n := by
      rintro rfl
      exact h.elim (· hd) (· ht)
    rw [e, s.getA_setA_ne hne]

theorem Kept.loadConflict (r : Resolved) (dst : List Reg) : Kept s (s.loadConflict r dst) [] r.target [] := by
  rcases s.loadConflict_cases r dst with e | ⟨n, -, ht, w, e⟩
  · rw [e]
    exact (Kept.refl s).mono (by simp) (by simp) (by simp)
  · rw [e]
    exact (Kept.setA n w).mono (by simp) (by simpa using ht) (by simp)

/-- What a load that meets no trap leaves. -/
theorem State.loaded_filled (s : State) (x : Access) {f : MemForm} {put : State → Nat → State} (hput : f.Fills put)
    {v : Nat} (hv : v < 256 ^ f.size) (r : Resolved) (len : Nat) :
    let t := (((put (s.loaded x) v).applyUpdate r).loadConflict r f.place.addrRegs).advance len
    t.pc = s.pc + BitVec.ofNat 32 len ∧ (∀ k n, f.place.dataRegs[k]? = some n → t.getD n = f.word v k) ∧
      (∀ k n, f.place.addrRegs[k]? = some n → n ∉ r.target → t.getA n = f.word v k) ∧
      (∀ n w, r.update = some (n, w) → n ∉ f.place.addrRegs → t.getA n = w) ∧ t.out = s.toldRead x ++ s.out ∧
      KeepsMemory s t ∧ Kept s (t.withOut s) f.place.dataRegs (f.place.addrRegs ++ r.target) [.pc] := by
  rw [State.loaded_told]
  intro t
  have hfill := hput.kept (s.told false (s.toldRead x)) v
  have hkept := (hfill.trans (Kept.applyUpdate r) hfill.keeps_course.2.2).trans
    (Kept.loadConflict r f.place.addrRegs) (by simp [hfill.keeps_course.2.2])
  have hkept := hkept.mono (cs' := []) (ds' := f.place.dataRegs) (as' := f.place.addrRegs ++ r.target) (by simp)
    (by simp [Resolved.target]) (by simp)
  obtain ⟨hpc, hout, hres⟩ := hkept.keeps_course
  obtain ⟨hout, hmem, hpc, hkept⟩ := hkept.told_advance hpc (by simp [hput.mem]) hout hres len
  refine ⟨hpc, fun k n hn => ?_, fun k n hn hr => ?_, fun n w hu hn => ?_, hout, hmem, hkept⟩
  · simp [t, hput.data _ v hv k n hn]
  · have hne : ∀ w, r.update ≠ some (n, w) := fun w hu => hr (by simp [Resolved.target, hu])
    rw [State.getA_advance, State.getA_loadConflict (.inr hr), State.getA_applyUpdate_ne hne, hput.addr _ v hv k n hn]
  · rw [State.getA_advance, State.getA_loadConflict (.inl hn), State.getA_applyUpdate hu]

/-- Settles O18: what the modes give, and the end of a load whose checks pass. -/
theorem loads : Obligations.loads := by
  unfold Obligations.loads
  refine ⟨fun s m => State.resolve_addresses m, Access.addr_byteAt, ?_⟩
  intro s i f hf hwf r x hwrite hc
  obtain ⟨put, he, hput, hpairs, hquads⟩ := exec_of_loadForm hf s
  obtain ⟨hdst, hmode⟩ : s.mayWrite f.place.addrRegs = true ∧ s.mayWrite r.target = true := by
    simpa [State.mayWrite] using hwrite
  obtain ⟨heven, hmodeEven⟩ : f.place.pairs.all pairEven = true ∧ f.mem.pairs.all pairEven = true := by
    simpa [hpairs] using Instr.pairs_even hwf
  have haligned : f.place.quads.all quadAligned = true := hquads ▸ Instr.quads_aligned hwf
  have hgo := State.execLoad_go f.len put (State.placeCheck_go (s := s) heven haligned)
    (State.modeCheck_go hmodeEven) (State.globalCheck_go hdst) (State.updateCheck_of_mayWrite hmode) hc
  have hlt : s.load x < 256 ^ f.size := s.load_lt x
  obtain ⟨hpc, hdata, haddr, hupd, hend⟩ := s.loaded_filled x hput hlt r f.len
  exact ⟨_, s.load x, he.trans hgo, hpc, hlt, State.load_ram, hdata, haddr, hupd, hend⟩

/-! ## Writes to ordinary memory (40_addressing R342, R352 to R364) -/

/-- A write to ordinary memory writes its bytes and tells the host what it sees of it. -/
theorem State.store_ram_told {x : Access} (h : s.kindOf x.addrs = some .ram) (v : Nat) :
    s.store x v = (s.writeAt x.addrs v).told false (s.toldWrite x v) := by
  cases hs : s.seen x <;> simp [State.store, State.toldWrite, State.told, State.emit, State.writeAt, h, hs]

/-- A frame from the state after a write to memory is one from before. -/
theorem Kept.ofWriteAt {addrs : List Nat} {v : Nat} {ds as : List Reg} {cs : List Csfr}
    (h : Kept (s.writeAt addrs v) t ds as cs) : Kept s t ds as cs :=
  (Kept.mem (s := s) _).trans h rfl

/-- What keeps the memory that a write has left keeps all but the bytes written. -/
theorem KeepsMemoryBut.ofWriteAt {addrs : List Nat} {v : Nat} (h : KeepsMemory (s.writeAt addrs v) t) :
    KeepsMemoryBut s t addrs :=
  fun a ha => (h a).trans (State.byteAt_writeAt_outside v ha)

/-- The bytes of a datum stored by an access of an addressing mode that meets no trap. -/
theorem KeepsMemory.bytes_written {m : MemOp} {size align peri v : Nat} {loads stores : Bool} (hsize : size ≤ 2 ^ 16)
    (hc : s.check ((s.resolve m).access size align peri loads stores) = .go)
    (h : KeepsMemory (s.writeAt ((s.resolve m).access size align peri loads stores).addrs v) t) :
    ∀ k, k < size → t.byteAt (((s.resolve m).access size align peri loads stores).addr k).toNat = byteOf v k :=
  fun _ hk => (h _).trans (State.byteAt_writeAt
    (Access.cells_nodup hc hsize (Resolved.circ_lt s m size align peri loads stores)) (Access.getElem?_addrs hk))

/-- A store is of at most four words. -/
theorem storeForm_size_le {f : MemForm} (h : storeForm i = some f) : f.size ≤ 16 := by
  unfold storeForm at h
  split at h
  all_goals cases h
  all_goals exact Nat.le_of_ble_eq_true rfl

/-- A store to ordinary memory completes. -/
theorem StoreCourse.on_ram {f : MemForm} (h : StoreCourse s i f) (hwf : i.wellFormed = true)
    (hmode : s.mayWrite (s.resolve f.mem).target = true)
    (hc : s.check ((s.resolve f.mem).access f.size f.align f.size false true) = .go)
    (hk : s.kindOf ((s.resolve f.mem).access f.size f.align f.size false true).addrs = some .ram) :
    let x := (s.resolve f.mem).access f.size f.align f.size false true
    let v := s.storeValue (s.resolve f.mem) f.place.addrRegs fun t => f.place.value t
    exec i s =
      .next ((((s.writeAt x.addrs v).told false (s.toldWrite x v)).applyUpdate (s.resolve f.mem)).advance f.len) := by
  obtain ⟨pre, he, hchecks⟩ := h
  obtain ⟨rfl, hm⟩ := hchecks hwf
  rw [he, State.execStore_go f.len _ _ rfl hm (State.updateCheck_of_mayWrite hmode) hc, State.store_ram_told hk]

/-- Settles O19: the end of a store whose checks pass, from the state after the write. -/
theorem stores : Obligations.stores := by
  unfold Obligations.stores
  intro s i f hf hwf r x hmode hc hk
  let v := s.storeValue r f.place.addrRegs fun t => f.place.value t
  obtain ⟨hpc, -, hout, hmem, hupd, hkept⟩ := (s.writeAt x.addrs v).told_updated false (s.toldWrite x v) r f.len
  have hsize : f.size ≤ 2 ^ 16 := (storeForm_size_le hf).trans (by decide)
  exact ⟨_, v, (storeCourse hf s).on_ram hwf hmode hc hk, hpc, s.storeValue_cases r _ _,
    KeepsMemory.bytes_written hsize hc hmem, hupd, hout, .ofWriteAt hmem, .ofWriteAt (Kept.ofTold_out hkept)⟩

/-! ## Atomic instructions on ordinary memory (40_addressing R360 to R364) -/

/-- An atomic access to ordinary memory writes the new datum over the old one, the host being told of both. -/
theorem State.store_loaded_ram {x : Access} (h : s.kindOf x.addrs = some .ram) (v : Nat) :
    (s.loaded x).store x v = (s.writeAt x.addrs v).told false (s.toldWrite x v ++ s.toldRead x) := by
  have hk : (s.told false (s.toldRead x)).kindOf x.addrs = some .ram := h
  rw [State.loaded_told, State.store_ram_told hk]
  change ((s.writeAt x.addrs v).told false (s.toldRead x)).told false (s.toldWrite x v) = _
  rw [State.told_told]
  rfl

/-- What an atomic instruction on ordinary memory that meets no trap leaves. -/
theorem State.execRmw_on_ram {m : MemOp} {size align : Nat} (len : Nat) (new : Nat → Nat) (ret : Option Reg)
    (hm : s.modeCheck m = .go) (hmode : s.mayWrite (s.resolve m).target = true) (hsize : size ≤ 2 ^ 16)
    (hc : s.check ((s.resolve m).access size align size true true) = .go)
    (hk : s.kindOf ((s.resolve m).access size align size true true).addrs = some .ram) :
    let r := s.resolve m
    let x := r.access size align size true true
    let v := new (s.readAt x.addrs)
    ∃ t, s.execRmw len m size align .go new ret = .next t ∧ t.pc = s.pc + BitVec.ofNat 32 len ∧
      (∀ k, k < size → t.byteAt (x.addr k).toNat = byteOf v k) ∧
      (∀ n ∈ ret.toList, t.getD n = BitVec.ofNat 32 (s.readAt x.addrs)) ∧
      (∀ n w, r.update = some (n, w) → t.getA n = w) ∧ t.out = s.toldWrite x v ++ s.toldRead x ++ s.out ∧
      KeepsMemoryBut s t x.addrs ∧ Kept s (t.withOut s) ret.toList r.target [.pc] := by
  intro r x v
  have hgo := State.execRmw_go len new ret rfl hm (State.updateCheck_of_mayWrite hmode) hc
  have hload : s.load x = s.readAt x.addrs := State.load_ram hk
  have hstore : (s.loaded x).store x (new (s.load x)) =
      (s.writeAt x.addrs v).told false (s.toldWrite x v ++ s.toldRead x) := by
    rw [hload, State.store_loaded_ram hk]
  have hend := (s.writeAt x.addrs v).told_swapped (s.toldWrite x v ++ s.toldRead x) ret
    (BitVec.ofNat 32 (s.load x)) r len rfl
  rw [← hstore] at hend
  obtain ⟨hpc, hdest, hupd, hout, hmem, hkept⟩ := hend
  refine ⟨_, hgo.trans ?_, hpc, KeepsMemory.bytes_written hsize hc hmem, ?_, hupd, hout,
    .ofWriteAt hmem, .ofWriteAt hkept⟩
  · cases ret <;> rfl
  · exact fun n hn => (hdest n hn).trans (congrArg _ hload)

/-- A byte with bit `n` replaced, as ST.T writes it (R362). -/
def replaceBit (x : Byte) (n : BitVec 3) (b : BitVec 1) : Byte :=
  (x &&& ~~~(1#8 <<< n.toNat)) ||| (b.setWidth 8 <<< n.toNat)

theorem exec_stT (off18 : BitVec 18) (n : BitVec 3) (b : BitVec 1) (s : State) : exec (.stT off18 n b) s =
    s.execRmw 4 (.abs off18) 1 1 .go (fun old => (replaceBit (BitVec.ofNat 8 old) n b).toNat) none := rfl

theorem getLsbD_replaceBit (x : Byte) (n : BitVec 3) (b : BitVec 1) {k : Nat} (hk : k < 8) :
    (replaceBit x n b).getLsbD k = if k = n.toNat then b.getLsbD 0 else x.getLsbD k := by
  simp only [replaceBit, BitVec.getLsbD_or, BitVec.getLsbD_and, BitVec.getLsbD_not, BitVec.getLsbD_shiftLeft,
    BitVec.getLsbD_setWidth, BitVec.getLsbD_one, hk, decide_true, Bool.true_and]
  rcases Nat.lt_trichotomy k n.toNat with h | h | h
  · simp [h, h.ne]
  · simp [h]
  · simp [h.ne', h.not_gt, Nat.sub_ne_zero_of_lt h, BitVec.getLsbD_of_ge b (k - n.toNat) (by omega)]

theorem byteOf_toNat (x : Byte) : byteOf x.toNat 0 = x := by simp [byteOf]

/-- ST.T on ordinary memory (R362). -/
theorem stT_on_ram (off18 : BitVec 18) (n : BitVec 3) (b : BitVec 1)
    (hc : s.check ((s.resolve (.abs off18)).access 1 1 1 true true) = .go)
    (hk : s.kindOf [(absoluteEa off18).toNat] = some .ram) :
    let ea := absoluteEa off18
    let x := (s.resolve (.abs off18)).access 1 1 1 true true
    ∃ t, exec (.stT off18 n b) s = .next t ∧ t.pc = s.pc + 4 ∧
      (∀ k, k < 8 → (t.byteAt ea.toNat).getLsbD k =
        if k = n.toNat then b.getLsbD 0 else (s.byteAt ea.toNat).getLsbD k) ∧
      t.out = s.toldWrite x (t.byteAt ea.toNat).toNat ++ s.toldRead x ++ s.out ∧
      KeepsMemoryBut s t [ea.toNat] ∧ Kept s (t.withOut s) [] [] [.pc] := by
  intro ea x
  have haddr : x.addr 0 = ea := by simp [x, ea, Access.addr, State.resolve, Resolved.access]
  have haddrs : x.addrs = [ea.toNat] := by rw [← haddr]; rfl
  have hread : BitVec.ofNat 8 (s.readAt x.addrs) = s.byteAt ea.toNat := by
    simp [haddrs, State.readAt, State.byteAt, Memory.gather]
  obtain ⟨t, he, hpc, hbytes, -, -, hout, hmem, hkept⟩ := State.execRmw_on_ram (m := .abs off18) 4
    (fun old => (replaceBit (BitVec.ofNat 8 old) n b).toNat) none rfl rfl (by decide) hc (haddrs ▸ hk)
  have hbyte : t.byteAt ea.toNat = replaceBit (s.byteAt ea.toNat) n b := by
    rw [← haddr, hbytes 0 (by decide), byteOf_toNat, hread, haddr]
  refine ⟨t, (exec_stT off18 n b s).trans he, hpc, fun k hk => ?_, ?_, haddrs ▸ hmem, hkept⟩
  · rw [hbyte, getLsbD_replaceBit _ _ _ hk]
  · rw [hbyte, ← hread]
    exact hout

/-- Settles O21: the end of an atomic instruction whose checks pass. -/
theorem atomicReadModifyWrites : Obligations.atomic_read_modify_writes := by
  unfold Obligations.atomic_read_modify_writes
  intro s
  refine ⟨?_, fun off18 n b => stT_on_ram off18 n b⟩
  intro i f hf hwf r x old hmode hc hk
  obtain ⟨pre, new, ret, he, hret, hnew, hchecks⟩ := rmwCourse hf s
  obtain ⟨rfl, hm⟩ := hchecks hwf
  have hlt : s.readAt x.addrs < 2 ^ 32 := by
    simpa [x, Access.addrs, Resolved.access] using s.readAt_lt x.addrs
  have hend := State.execRmw_on_ram f.len new ret hm hmode (by decide) hc hk
  rw [← he, hret] at hend
  dsimp only at hend
  rw [hnew _ hlt] at hend
  exact hend

end Sys2Proof.Machine
end

section
/-! PROOFS. Calls and returns that complete (41_context_call_return R392 to R397, R400, R411 to R415): the state each
leads to, and what that state is. -/

namespace Sys2Proof.Machine

variable {s t : State} {i : Instr}

/-! ## PSW of a call (41 R396, R400) -/

/-- The PSW of a callee (R400): the count of `p`, where it counts, goes up, and counting is on. -/
def calleePsw (p q : Word) : Word :=
  setBit (if cdcCounts p then setField q 0 (pswCdc p + 1) else q) 7 true

theorem pswCde_calleePsw (p q : Word) : pswCde (calleePsw p q) = true := by
  rw [pswCde, calleePsw, bit_setBit _ (by omega), if_pos rfl]

theorem pswCdc_calleePsw (p : Word) :
    pswCdc (calleePsw p p) = if cdcCounts p then pswCdc p + 1 else pswCdc p := by
  rw [pswCdc, calleePsw, field_setBit_ne _ (by omega) _ (by omega)]
  split
  · exact field_setField_same _ (by omega) _
  · rfl

theorem bit_calleePsw (p q : Word) {j : Nat} (h : 8 ≤ j) : bit (calleePsw p q) j = bit q j := by
  rw [calleePsw, bit_setBit _ (by omega), if_neg (by omega)]
  split
  · exact bit_setField_ne _ (by omega) _ (by omega)
  · rfl

theorem field_calleePsw (p q : Word) {lo len : Nat} (h : 8 ≤ lo) : field (calleePsw p q) lo len = field q lo len :=
  field_eq_iff.mpr fun _ _ => bit_calleePsw p q (by omega)

/-- With no update open, a call stores the PSW that is read, with CDE = 1 and PPRS in the place of PRS (R396). -/
theorem State.csaPsw_of_window_nil (hw : s.window = []) :
    s.csaPsw (setBit s.pswImage 7 true) = pswSetPrs (setBit s.pswRead 7 true) (field s.pprs 0 3) := by
  rw [State.csaPsw, State.pswImage_of_window_nil hw, State.ctl_of_window_nil s hw]
  rfl

/-! ## CALL, CALLA and CALLI (41 R411 to R413) -/

/-- The state to which a call leads whose save may be made. -/
def State.called (s : State) (len : Nat) (target : Word) : State :=
  ((((s.saveUpper (setBit s.pswImage 7 true)).modPsw (calleePsw (s.ctl .psw .calls))).setA 11
    (s.pc + BitVec.ofNat 32 len)).jump target)

/-- With a free list that is not empty, a call asks for its depth, then for its access. -/
theorem State.execCallTo_decided (hfcx : s.fcx ≠ 0) (len : Nat) (target : Word) :
    s.execCallTo len target = s.conclude
      (if (!(cdcCounts (s.ctl .psw .calls) && cdcFull (s.ctl .psw .calls))) = true then s.saveCheck else .trap 3 2)
      (s.called len target) := by
  have hne : (s.fcx != 0) = true := by simpa using hfcx
  have hlast : Verdict.first [s.saveCheck] = s.saveCheck := Verdict.first_last (vs := []) _ (by simp)
  unfold State.execCallTo
  extract_lets p counts t
  rw [Verdict.first_need (by simp), if_pos hne, Verdict.first_need (by simp), hlast]
  rfl

theorem State.execCallTo_go {len : Nat} {target : Word} (hw : s.window = []) (hsave : s.saveCheck = .go)
    (hdepth : ¬ (cdcCounts s.psw = true ∧ cdcFull s.psw = true)) :
    s.execCallTo len target = .next (s.called len target) := by
  have hpsw : s.ctl .psw .calls = s.psw := s.ctl_of_window_nil hw .psw .calls
  rw [State.execCallTo_decided (State.saveCheck_fcx hsave), hpsw, if_pos (by grind), hsave, State.conclude]

theorem State.called_window_nil (hw : s.window = []) (len : Nat) (target : Word) : (s.called len target).window = [] := by
  have h := State.hw_window_nil (s.saveUpper (setBit s.pswImage 7 true)) (r := .hv) (c := .psw)
    (f := calleePsw (s.ctl .psw .calls)) (State.saveUpper_window_nil hw _)
  simpa [State.called, State.modPsw] using h

@[simp] theorem State.called_sys (len : Nat) (target : Word) : (s.called len target).sys = s.sys := by
  simp [State.called, State.modPsw]

@[simp] theorem State.called_cfg (len : Nat) (target : Word) : (s.called len target).cfg = s.cfg := by
  simp [State.called, State.modPsw]

@[simp] theorem State.res_called (len : Nat) (target : Word) : (s.called len target).res = s.res :=
  State.res_of_sys (by simp) (by simp)

theorem State.getA_called (len : Nat) (target : Word) :
    (s.called len target).getA 11 = s.pc + BitVec.ofNat 32 len := by
  rw [State.called, State.getA_jump, State.getA_setA_same]

theorem State.called_psw (hw : s.window = []) (len : Nat) (target : Word) :
    (s.called len target).psw = calleePsw s.psw s.psw := by
  simp [State.called, State.modPsw, State.ctl_of_window_nil s hw, State.raw]

theorem State.called_pprs (hw : s.window = []) (len : Nat) (target : Word) :
    field (s.called len target).pprs 0 3 = s.prsOf s.psw := by
  simp [State.called, State.modPsw, State.ctl_of_window_nil s hw, State.raw, field_setField_same]

theorem State.called_saves (hw : s.window = []) (len : Nat) (target : Word) :
    SavesContext s (s.called len target) true
      (s.upperBlock (pswSetPrs (setBit s.pswRead 7 true) (field s.pprs 0 3))) := by
  rw [← State.csaPsw_of_window_nil hw]
  refine (s.saveList_spec hw true rfl).congr ?_ ?_ ?_ (fun r => ?_) ?_
  · simp [State.called, State.modPsw]
  · simp [State.called, State.modPsw]
  · simp [State.called, State.modPsw, State.saveUpper_eq]
  · simp [State.called, State.modPsw, State.raw, State.saveUpper_eq]
  · simp [State.called, State.modPsw, State.saveUpper_eq]

theorem Kept.called (len : Nat) (target : Word) :
    Kept s ((s.called len target).withFcd s) [] [11] [.pc, .psw, .pcxi, .pprs, .rep .fcx] := by
  have h := (Kept.saveUpper (s := s) (setBit s.pswImage 7 true)).transFcd (Kept.modPsw (calleePsw (s.ctl .psw .calls)))
    (by simp)
  have h := (h.transFcd (Kept.setA 11 (s.pc + BitVec.ofNat 32 len)) (by simp)).transFcd (Kept.jump target) (by simp)
  exact h.mono (by simp) (by simp) (by simp)

/-- Settles O25: a call whose checks pass leads to `State.called`. -/
theorem calls : Obligations.calls := by
  unfold Obligations.calls
  intro s i len target hcall hw hsave hdepth
  have hpsw := State.called_psw hw len target
  refine ⟨s.called len target, ?_, rfl, State.getA_called len target, State.called_saves hw len target, State.called_pprs hw len target, ?_, ?_,
    ?_, Kept.called len target⟩
  · rw [exec_of_callForm hcall, State.execCallTo_go hw hsave hdepth]
  · rw [hpsw, pswCde_calleePsw]
  · rw [hpsw, pswCdc_calleePsw]
  · rw [hpsw, field_calleePsw _ _ le_rfl]

/-! ## The checks of a return (41 R393, R409, R410) -/

theorem State.returnCheck_go {own : Verdict} {ul : Bool} {lost : Lost} (hp : pcx s.link ≠ 0) (hown : own = .go)
    (hul : pcxiUl s.link = ul) (hcheck : s.restoreCheck lost = .go) : s.returnCheck own ul lost = .go := by
  have hpcx : (pcx s.link != 0) = true := by simpa using hp
  rw [State.returnCheck, Verdict.first_need (by simp), if_pos hpcx, hown, Verdict.first_cons_go,
    Verdict.first_need (by simp), if_pos (by simp [hul]), hcheck]
  rfl

/-! ## The restored upper context (41 R396, R397) -/

theorem UpperFromCsa.setUpper (t : State) : UpperFromCsa s (t.setUpper s.linkWord) := by
  simp [UpperFromCsa, State.getD_setUpper, State.getA_setUpper, List.range_succ]

/-- What a state says of the upper context depends on its general registers alone. -/
theorem UpperFromCsa.congr {u : State} (h : UpperFromCsa s t) (hd : ∀ n, u.getD n = t.getD n)
    (ha : ∀ n, u.getA n = t.getA n) : UpperFromCsa s u := by
  simpa only [UpperFromCsa, hd, ha] using h

theorem UpperFromCsa.restoreUpper (keepRm : Bool) : UpperFromCsa s (s.restoreUpper keepRm) :=
  (UpperFromCsa.setUpper s.restoreList).congr (by simp) (by simp)

theorem RestoresList.restoreUpper (hw : s.window = []) (keepRm : Bool) : RestoresList s (s.restoreUpper keepRm) :=
  (s.restoreList_spec hw).congr (by simp) (by simp) (by simp) (by simp [State.raw])

/-- With no update open, PRS comes back from PPRS (R397). -/
theorem State.restoredPsw_of_window_nil (hw : s.window = []) :
    s.restoredPsw false = pswSetPrs (s.linkWord 1) (field s.pprs 0 3) := by
  rw [State.restoredPsw, State.ctl_of_window_nil s hw]
  rfl

/-! ## RET (41 R414) -/

/-- The state to which RET leads; `keepRm` says whether PSW.RM stays. -/
def State.returned (s : State) (keepRm : Bool) : State := (s.restoreUpper keepRm).jump (even (s.getA 11))

theorem State.execReturn_go (hw : s.window = []) (hp : pcx s.pcxi ≠ 0) (hul : pcxiUl s.pcxi = true)
    (hcheck : s.restoreCheck .upper = .go) (hdepth : ¬ (cdcCounts s.psw = true ∧ cdcZero s.psw = true)) :
    s.execReturn = .next (s.returned (!bit (s.getRep s.res .compat) s.cfg.compatRm.val)) := by
  have hpsw : s.ctl .psw .calls = s.psw := s.ctl_of_window_nil hw .psw .calls
  have hcompat : s.ctl (.rep .compat) .context = s.getRep s.res .compat := s.ctl_of_window_nil hw _ _
  have hcount : (!(cdcCounts s.psw && cdcZero s.psw)) = true := by grind
  rw [← State.link_of_window_nil hw] at hp hul
  unfold State.execReturn
  rw [hpsw, hcompat]
  exact s.conclude_go (State.returnCheck_go hp (by simp [hcount]) hul hcheck) _

theorem UpperFromCsa.returned (keepRm : Bool) : UpperFromCsa s (s.returned keepRm) :=
  (UpperFromCsa.restoreUpper keepRm).congr (by simp [State.returned]) (by simp [State.returned])

theorem RestoresList.returned (hw : s.window = []) (keepRm : Bool) : RestoresList s (s.returned keepRm) :=
  (RestoresList.restoreUpper hw keepRm).congr (by simp [State.returned]) (by simp [State.returned])
    (by simp [State.returned]) (by simp [State.returned, State.raw])

theorem State.returned_pprs (keepRm : Bool) : field (s.returned keepRm).pprs 0 3 = pswPrs (s.linkWord 1) := by
  simp [State.returned, field_setField_same]

theorem State.returned_pswUndef (keepRm : Bool) : (s.returned keepRm).pswUndef = s.pswUndef := by simp [State.returned]

theorem Kept.returned (keepRm : Bool) :
    Kept s (s.returned keepRm) upperData upperAddr [.pc, .psw, .pcxi, .pprs, .rep .fcx] :=
  ((Kept.restoreUpper s keepRm).trans (Kept.jump (even (s.getA 11))) (by simp)).mono (by simp) (by simp) (by simp)

/-! ## RFE (41 R415) -/

theorem State.restoreIcr_window_nil (hw : s.window = []) : s.restoreIcr.window = [] := State.hw_window_nil _ hw

theorem State.linkWord_restoreIcr (hw : s.window = []) : s.restoreIcr.linkWord = s.linkWord := by
  funext k
  rw [State.linkWord, State.linkWord, State.link_of_window_nil hw,
    State.link_of_window_nil (State.restoreIcr_window_nil hw)]
  rfl

@[simp] theorem State.res_restoreIcr : s.restoreIcr.res = s.res := s.res_hwIcr _ _

theorem State.raw_icr_restoreIcr (hw : s.window = []) :
    s.restoreIcr.raw s.res .icr = setField (setBit (s.raw s.res .icr) 15 (pcxiPie s.pcxi)) 0 (pcxiPcpn s.pcxi) := by
  unfold State.restoreIcr
  rw [State.link_of_window_nil hw]
  exact State.raw_icr_hwIcr _

theorem Kept.restoreIcr : Kept s s.restoreIcr [] [] [.sys (icrOf s.vm), .icr] := Kept.hwCurIcr _

/-- What a restore after that of ICR does to the lists it does from the state before. -/
theorem RestoresList.ofRestoreIcr (hw : s.window = []) (h : RestoresList s.restoreIcr t) : RestoresList s t := by
  obtain ⟨hpcxi, hfcx, hword, hmem⟩ := h
  rw [State.res_restoreIcr] at hfcx hword
  exact ⟨by rw [hpcxi, State.linkWord_restoreIcr hw], hfcx, hword, hmem⟩

theorem State.execRfeBody_go (hw : s.window = []) (hp : pcx s.pcxi ≠ 0) (hul : pcxiUl s.pcxi = true)
    (hcheck : s.restoreCheck .upper = .go) (hnest : cdcCounts s.psw = true → cdcZero s.psw = true) :
    s.execRfeBody = .next s.leave := by
  have hpsw : s.ctl .psw .calls = s.psw := s.ctl_of_window_nil hw .psw .calls
  have hcount : (!(cdcCounts s.psw && !cdcZero s.psw)) = true := by grind
  have hown : s.nestCheck = .go := by
    rw [State.nestCheck, hpsw]
    simp [hcount]
  rw [← State.link_of_window_nil hw] at hp hul
  exact s.conclude_go (State.returnCheck_go hp hown hul hcheck) _

theorem UpperFromCsa.leave (hw : s.window = []) : UpperFromCsa s s.leave := by
  have h := UpperFromCsa.restoreUpper (s := s.restoreIcr) false
  rw [UpperFromCsa, State.linkWord_restoreIcr hw, ← UpperFromCsa] at h
  exact h.congr (by simp [State.leave_eq]) (by simp [State.leave_eq])

theorem RestoresList.leave (hw : s.window = []) : RestoresList s s.leave :=
  .ofRestoreIcr hw ((RestoresList.restoreUpper (State.restoreIcr_window_nil hw) false).congr (by simp [State.leave_eq])
    (by simp [State.leave_eq]) (by simp [State.leave_eq]) (by simp [State.leave_eq, State.raw]))

theorem State.leave_psw (hw : s.window = []) : s.leave.psw = pswSetPrs (s.linkWord 1) (field s.pprs 0 3) := by
  rw [State.leave_eq, State.jump_psw, State.sync_psw, State.restoreUpper_psw,
    State.restoredPsw_of_window_nil (State.restoreIcr_window_nil hw), State.linkWord_restoreIcr hw]
  rfl

theorem State.leave_pswUndef : s.leave.pswUndef = s.pswUndef := by
  rw [State.leave_eq, State.jump_pswUndef, State.sync_pswUndef, State.restoreUpper_pswUndef]
  rfl

theorem State.leave_pprs (hw : s.window = []) : field s.leave.pprs 0 3 = pswPrs (s.linkWord 1) := by
  rw [State.leave_eq, State.jump_pprs, State.sync_pprs, State.restoreUpper_pprs, field_setField_same _ (by omega),
    State.linkWord_restoreIcr hw]

theorem State.res_leave : s.leave.res = s.res := by simp [State.leave_eq]

theorem State.raw_icr_leave (hw : s.window = []) :
    s.leave.raw s.leave.res .icr = setField (setBit (s.raw s.res .icr) 15 (pcxiPie s.pcxi)) 0 (pcxiPcpn s.pcxi) := by
  rw [← State.raw_icr_restoreIcr hw, State.res_leave, State.leave_eq]
  exact State.raw_icr_of_sys (by simp) (by simp) (by simp) _

theorem Kept.leave (hw : s.window = []) : Kept s s.leave upperData upperAddr
    [.pc, .psw, .pcxi, .pprs, .rep .fcx, .icr, .sys (icrOf s.vm)] := by
  have hwin : (s.restoreIcr.restoreUpper false).window = [] := by
    rw [State.restoreUpper_eq]
    refine State.hw_window_nil _ (State.hw_window_nil _ ?_)
    simpa using State.restoreList_window_nil _ (State.restoreIcr_window_nil hw)
  have h := (Kept.restoreIcr (s := s)).trans (Kept.restoreUpper s.restoreIcr false) (by simp)
  have h := (h.trans (Kept.sync hwin) (by simp)).trans (Kept.jump (even (s.getA 11))) (by simp)
  rw [State.leave_eq]
  exact h.mono (by simp) (by simp) (by simp)

/-- Settles O26: a return whose checks pass leads to `State.returned`, one from an exception to `State.leave`. -/
theorem returnsFromCallsAndExceptions : Obligations.returns_from_calls_and_exceptions := by
  unfold Obligations.returns_from_calls_and_exceptions
  intro s i hw hp hul hcheck
  refine ⟨fun hi hdepth => ?_, fun hi hnest => ?_⟩
  · have hpprs : s.ctl .pprs .context = s.pprs := s.ctl_of_window_nil hw .pprs .context
    have hret : exec i s = s.execReturn := by rcases hi with rfl | rfl <;> rfl
    refine ⟨_, hret.trans (State.execReturn_go hw hp hul hcheck hdepth), rfl, UpperFromCsa.returned _,
      RestoresList.returned hw _, ?_, State.returned_pprs _, ?_, ?_, ?_, ?_, ?_, State.returned_pswUndef _,
      Kept.returned _⟩
    all_goals rw [State.returned, State.jump_psw, State.restoreUpper_psw]
    · rw [State.pswPrs_restoredPsw, hpprs]
    · rw [State.pswRm_restoredPsw]
      cases bit (s.getRep s.res .compat) s.cfg.compatRm.val <;> rfl
    · exact s.field_restoredPsw _ (.inl le_rfl)
    · rw [s.bit_restoredPsw _ (by omega), bit_pswSetPrs]
      rfl
    · rw [field_eq_iff]
      intro k hk
      rw [s.bit_restoredPsw _ (by omega), bit_pswSetPrs, if_neg (by omega), if_neg (by omega), if_neg (by omega)]
    · exact s.field_restoredPsw _ (.inr le_rfl)
  · have hrfe : exec i s = s.execRfeBody := by rcases hi with rfl | rfl <;> rfl
    have hicr := State.raw_icr_leave hw
    refine ⟨s.leave, hrfe.trans (State.execRfeBody_go hw hp hul hcheck hnest), rfl, UpperFromCsa.leave hw,
      RestoresList.leave hw, ?_, ?_, State.leave_psw hw, State.leave_pprs hw, State.leave_pswUndef,
      Kept.leave hw⟩
    · rw [hicr, icrIe, bit_setField_ne _ (by omega) _ (by omega), bit_setBit _ (by omega), if_pos rfl]
    · rw [hicr, icrCcpn, field_setField_same _ (by omega)]

end Sys2Proof.Machine
end

section
/-! PROOFS. The lower context (41_context_call_return R399, R416 to R418), and what a save followed by the restore of the
same context gives back (41 R392, R393, R396, R397). -/

namespace Sys2Proof.Machine

variable {s t u : State} {i : Instr}

/-! ## SVLCX and BISR (41 R416, R417) -/

@[simp] theorem State.saveLower_pc : s.saveLower.pc = s.pc := by rw [State.saveLower_eq, State.saveList_pc]

@[simp] theorem State.res_saveLower : s.saveLower.res = s.res := by rw [State.saveLower_eq, State.res_saveList]

theorem State.saveLower_spec (hw : s.window = []) : SavesContext s s.saveLower false s.lowerBlock :=
  s.saveList_spec hw false rfl

theorem Kept.saveLower : Kept s (s.saveLower.withFcd s) [] [] [.pcxi, .rep .fcx] := Kept.saveList false s.lowerBlock

/-- The state to which SVLCX leads. -/
def State.savedLower (s : State) : State := s.saveLower.advance 4

theorem exec_svlcx_go (hsave : s.saveCheck = .go) : exec .svlcx s = .next s.savedLower := s.conclude_go hsave _

theorem SavesContext.savedLower (hw : s.window = []) : SavesContext s s.savedLower false s.lowerBlock :=
  (State.saveLower_spec hw).congr rfl rfl rfl (fun _ => rfl) rfl

theorem Kept.savedLower : Kept s (s.savedLower.withFcd s) [] [] [.pc, .pcxi, .rep .fcx] :=
  ((Kept.saveLower (s := s)).transFcd (Kept.advance 4) (by simp)).mono (by simp) (by simp) (by simp)

/-- ICR after BISR, from ICR before (R416). -/
def bisrIcr (ccpn : Byte) (icr : Word) : Word := setField (setBit icr 15 true) 0 ccpn

/-- The state to which BISR leads. -/
def State.begunIsr (s : State) (len : Nat) (ccpn : Byte) : State :=
  (s.saveLower.hw s.res .icr (bisrIcr ccpn)).advance len

theorem State.execBisrTo_decided (hsv : s.supervisor = true) (len : Nat) (ccpn : Byte) :
    s.execBisrTo len ccpn = s.conclude s.saveCheck (s.begunIsr len ccpn) := by
  have hlast : Verdict.first [.go, s.saveCheck] = s.saveCheck := Verdict.first_last (vs := [.go]) _ (by simp)
  rw [State.execBisrTo, State.supervisorCheck, hsv, Verdict.need, if_pos rfl, hlast, State.begunIsr,
    ← State.res_saveLower]
  rfl

theorem SavesContext.begunIsr (hw : s.window = []) (len : Nat) (ccpn : Byte) :
    SavesContext s (s.begunIsr len ccpn) false s.lowerBlock :=
  (State.saveLower_spec hw).congr (by simp [State.begunIsr]) (by simp [State.begunIsr]) (by simp [State.begunIsr])
    (by simp [State.begunIsr, State.raw]) (by simp [State.begunIsr])

theorem State.raw_icr_begunIsr (len : Nat) (ccpn : Byte) :
    (s.begunIsr len ccpn).raw s.res .icr = bisrIcr ccpn (s.raw s.res .icr) := by
  have h := State.raw_icr_hwIcr (s := s.saveLower) (bisrIcr ccpn)
  have hicr : s.saveLower.raw s.res .icr = s.raw s.res .icr :=
    State.raw_icr_of_sys (s.saveList_cfg _ _) (s.saveList_sys _ _) (s.saveList_draws _ _) _
  rw [State.res_saveLower, hicr] at h
  rw [← h]
  exact State.raw_icr_of_sys rfl rfl rfl _

theorem Kept.begunIsr (len : Nat) (ccpn : Byte) : Kept s ((s.begunIsr len ccpn).withFcd s) [] []
    [.pc, .pcxi, .rep .fcx, .icr, .sys (icrOf s.vm)] := by
  have hvm : s.saveLower.vm = s.vm := by
    simp [State.vm, State.saveLower_eq, State.cvmn_of_sys (s.saveList_sys false s.lowerBlock)]
  have hicr := Kept.hwCurIcr (s := s.saveLower) (bisrIcr ccpn)
  rw [hvm, State.hwCur, State.res_saveLower] at hicr
  exact (((Kept.saveLower (s := s)).transFcd hicr State.res_saveLower).transFcd (Kept.advance len) (by simp)).mono
    (by simp) (by simp) (by simp)

/-! ## RSLCX (41 R418) -/

/-- The state to which RSLCX leads. -/
def State.restoredLower (s : State) : State := s.restoreLower.advance 4

theorem exec_rslcx_go (hw : s.window = []) (hp : pcx s.pcxi ≠ 0) (hul : pcxiUl s.pcxi = false)
    (hcheck : s.restoreCheck .lower = .go) : exec .rslcx s = .next s.restoredLower := by
  rw [← State.link_of_window_nil hw] at hp hul
  exact s.conclude_go (State.returnCheck_go hp rfl hul hcheck) _

theorem LowerFromCsa.restoredLower : LowerFromCsa s s.restoredLower := by
  simp [LowerFromCsa, State.lowerBlock, State.restoredLower, State.restoreLower_eq, State.getD_setLower,
    State.getA_setLower, List.range_succ]

theorem RestoresList.restoredLower (hw : s.window = []) : RestoresList s s.restoredLower :=
  (s.restoreList_spec hw).congr (by simp [State.restoredLower, State.restoreLower_eq])
    (by simp [State.restoredLower, State.restoreLower_eq]) (by simp [State.restoredLower, State.restoreLower_eq])
    (by simp [State.restoredLower, State.restoreLower_eq, State.raw])

theorem State.restoredLower_pc : s.restoredLower.pc = s.pc + 4 := by
  simp [State.restoredLower, State.restoreLower_eq]

theorem Kept.restoredLower : Kept s s.restoredLower lowerData lowerAddr [.pc, .pcxi, .rep .fcx] := by
  have h := ((Kept.restoreList (s := s)).trans (Kept.setLower s.linkWord) (by simp)).trans (Kept.advance 4) (by simp)
  exact h.mono (by simp) (by simp) (by simp)

/-- Settles O28: where their checks pass, SVLCX leads to `State.savedLower`, BISR to `State.begunIsr` and RSLCX to
`State.restoredLower`. -/
theorem lowerContextOperations : Obligations.lower_context_operations := by
  unfold Obligations.lower_context_operations
  intro s hw
  refine ⟨fun hsave => ?_, fun i len ccpn hi hsv hsave => ?_, fun hp hul hcheck => ?_⟩
  · exact ⟨_, exec_svlcx_go hsave, by simp [State.savedLower], SavesContext.savedLower hw, Kept.savedLower⟩
  · have hbisr : exec i s = s.execBisrTo len ccpn := by
      rcases hi with ⟨k, rfl, rfl, rfl⟩ | ⟨rfl, rfl⟩ <;> rfl
    have hicr := State.raw_icr_begunIsr (s := s) len ccpn
    refine ⟨_, hbisr.trans ((State.execBisrTo_decided hsv len ccpn).trans (s.conclude_go hsave _)), by simp [State.begunIsr],
      SavesContext.begunIsr hw len ccpn, ?_, ?_, ?_, Kept.begunIsr len ccpn⟩
    all_goals rw [hicr, bisrIcr]
    · rw [icrIe, bit_setField_ne _ (by omega) _ (by omega), bit_setBit _ (by omega), if_pos rfl]
    · rw [icrCcpn, field_setField_same _ (by omega)]
    · rw [icrPipn, field_setField_ne _ (by omega) _ (by omega), field_setBit_ne _ (by omega) _ (by omega)]
      rfl
  · exact ⟨_, exec_rslcx_go hw hp hul hcheck, State.restoredLower_pc, LowerFromCsa.restoredLower,
      RestoresList.restoredLower hw, Kept.restoredLower⟩

/-! ## The links of a context saved and restored (41 R392, R393) -/

theorem SavesContext.pcx_eq {ul : Bool} {block : List Word} (h : SavesContext s t ul block) : pcx t.pcxi = s.fcx := by
  rw [h.pcxi, pcx, pcxiSetInfo, field_setField_ne _ (by omega) _ (by omega), field_setBit_ne _ (by omega) _ (by omega),
    pcxiSetLink, field_setField_same _ (by omega)]

theorem SavesContext.ul_eq {ul : Bool} {block : List Word} (h : SavesContext s t ul block) : pcxiUl t.pcxi = ul := by
  rw [h.pcxi, pcxiUl, pcxiSetInfo, bit_setField_ne _ (by omega) _ (by omega), bit_setBit _ (by omega),
    if_neg (by omega), pcxiSetLink, bit_setField_ne _ (by omega) _ (by omega), bit_setBit _ (by omega), if_pos rfl]

/-- The CSA at the PCXI that a save leaves holds the words that it saved. -/
theorem SavesContext.linkWord {ul : Bool} {block : List Word} (h : SavesContext s t ul block) (hwt : t.window = [])
    {k : Nat} {w : Word} (hk : (s.pcxi :: block)[k]? = some w) : t.linkWord k = w := by
  rw [State.linkWord, State.link_of_window_nil hwt, h.pcx_eq, h.words k w hk]

theorem SavesContext.linkWords {ul : Bool} {block : List Word} (h : SavesContext s t ul block) (hwt : t.window = []) :
    (List.range block.length).map (fun k => t.linkWord (k + 1)) = block := by
  refine List.ext_getElem (by simp) fun k _ hk => ?_
  simpa using h.linkWord hwt (k := k + 1) (by simp [hk])

/-- A restore of the context that a save has saved brings PCXI back. -/
theorem SavesContext.restored_pcxi {ul : Bool} {block : List Word} (h : SavesContext s t ul block)
    (hwt : t.window = []) (hr : RestoresList t u) : u.pcxi = s.pcxi :=
  hr.pcxi.trans (h.linkWord hwt rfl)

theorem setField_field (w : Word) {lo len : Nat} (hl : lo + len ≤ 32) (v : BitVec len) :
    setField (setField w lo v) lo (field w lo len) = w := by
  rw [word_eq_iff]
  intro k _
  rw [bit_setField _ _ hl, bit_setField _ _ hl, getLsbD_field]
  split
  next hk => rw [decide_eq_true (by omega), Bool.true_and, Nat.add_sub_cancel' hk.1]
  next => rfl

/-- The head of the free list is the saved CSA again. -/
theorem SavesContext.restored_fcx {ul : Bool} {block : List Word} (h : SavesContext s t ul block)
    (hw : s.window = []) (hres : t.res = s.res) (hr : RestoresList t u) :
    u.raw s.res (.rep .fcx) = s.raw s.res (.rep .fcx) := by
  have hfcx := hr.fcx
  rw [hres, h.fcx, h.pcx_eq, State.fcx, State.ctl_of_window_nil s hw] at hfcx
  exact hfcx.trans (setField_field _ (by omega) _)

/-- A save and a restore write the bytes of the CSA alone. -/
theorem SavesContext.restored_memory {ul : Bool} {block : List Word} (h : SavesContext s t ul block)
    (hcfg : t.cfg = s.cfg) (hr : RestoresList t u) : KeepsMemoryBut s u (span (csaEa s.fcx).toNat 64) := by
  intro a ha
  have hcell : t.cell = s.cell := funext (State.cell_of_cfg hcfg)
  refine (hr.memory a fun hm => ha ?_).trans (h.memory a ha)
  rw [hcell, h.pcx_eq] at hm
  refine List.map_subset _ (fun b hb => ?_) hm
  rw [mem_span] at hb ⊢
  omega

/-! ## The CSA after its save (41 R395, 46 R743) -/

/-- Whether a CSA may be used depends on the configuration and on special registers that no save writes. -/
theorem State.csaChecks_congr (hw : s.window = []) (hwt : t.window = []) (hcfg : t.cfg = s.cfg) (hsys : t.sys = s.sys)
    (hrep : ∀ r x, x ≠ .fcx → t.getRep r x = s.getRep r x) (ptr : BitVec 20) :
    t.csaL2 ptr = s.csaL2 ptr ∧ t.csaUsable ptr = s.csaUsable ptr := by
  have hcell : t.cell = s.cell := funext (State.cell_of_cfg hcfg)
  have hgetSys : ∀ x, t.getSys x = s.getSys x := fun x => by rw [State.getSys, hsys]; rfl
  have heff : ∀ r u, t.eff r (.sys .vcon0) u = s.eff r (.sys .vcon0) u ∧ t.eff r (.sys .vcon2) u = s.eff r (.sys .vcon2) u :=
    fun r u => by simp [State.eff_of_window_nil, hw, hwt, State.raw, hgetSys]
  have heffRep : ∀ r x u, x ≠ .fcx → t.eff r (.rep x) u = s.eff r (.rep x) u := fun r x u hx => by
    simp [State.eff_of_window_nil, hw, hwt, State.raw, hrep r x hx]
  have hguest : t.guest = s.guest := by
    simp [State.guest, State.virtOn, State.ctl, heff, hcfg, State.cvmn_of_sys hsys, State.res_of_sys hcfg hsys]
  have hl2 : t.l2Prs = s.l2Prs := by simp [State.l2Prs, heff]
  have hread : t.l2Read = s.l2Read := funext fun a => by
    simp [State.l2Read, State.readAllowed, State.setMask, hguest, hl2, hcfg, heffRep]
  have hwrite : t.l2Write = s.l2Write := funext fun a => by
    simp [State.l2Write, State.writeAllowed, State.setMask, hguest, hl2, hcfg, heffRep]
  refine ⟨?_, ?_⟩
  · simp only [State.csaL2, hread, hwrite, hcfg]
  · simp [State.csaUsable, State.peripheral, State.ctl, heffRep, State.kindOf, State.kindAt, hcell, hcfg,
      State.res_of_sys hcfg hsys]

/-- The context that a save has saved may be restored. -/
theorem SavesContext.restoreCheck {ul : Bool} {block : List Word} (h : SavesContext s t ul block) (hw : s.window = [])
    (hwt : t.window = []) (hcfg : t.cfg = s.cfg) (hsys : t.sys = s.sys)
    (hrep : ∀ r x, x ≠ .fcx → t.getRep r x = s.getRep r x) (hsave : s.saveCheck = .go) (lost : Lost) :
    t.restoreCheck lost = .go := by
  obtain ⟨hl2, husable⟩ := State.csaChecks_congr hw hwt hcfg hsys hrep s.fcx
  rw [State.saveCheck, Verdict.first_eq_go] at hsave
  have hgo : s.csaL2 s.fcx = .go := hsave _ (by simp)
  have husable' : s.csaUsable s.fcx = true := by simpa using hsave (.need (s.csaUsable s.fcx) (.fcu .save)) (by simp)
  rw [State.restoreCheck, State.link_of_window_nil hwt, h.pcx_eq, hl2, husable, hgo, husable']
  rfl

/-! ## SVLCX and RSLCX -/

/-- A lower context is its registers. -/
theorem lowerBlock_inj (h : u.lowerBlock = s.lowerBlock) :
    (∀ n ∈ lowerData, u.getD n = s.getD n) ∧ ∀ n ∈ lowerAddr, u.getA n = s.getA n := by
  simp only [State.lowerBlock, List.cons.injEq, BitVec.ofNat_eq_ofNat] at h
  simp [lowerData, lowerAddr, h]

/-- What is restored from the CSA of a saved lower context is that context. -/
theorem SavesContext.lowerBlock_eq (h : SavesContext s t false s.lowerBlock) (hwt : t.window = [])
    (hl : LowerFromCsa t u) : u.lowerBlock = s.lowerBlock := hl.trans (h.linkWords hwt)

theorem State.savedLower_window_nil (hw : s.window = []) : s.savedLower.window = [] := s.saveList_window_nil hw _ _

theorem State.savedLower_sys : s.savedLower.sys = s.sys := s.saveList_sys _ _

theorem State.savedLower_cfg : s.savedLower.cfg = s.cfg := s.saveList_cfg _ _

/-- SVLCX and then RSLCX (41 R392, R393, R399). -/
theorem svlcx_rslcx (hw : s.window = []) (hsave : s.saveCheck = .go) :
    ∃ t u, exec .svlcx s = .next t ∧ exec .rslcx t = .next u ∧ u.pc = s.pc + 8 ∧ u.pcxi = s.pcxi ∧
      u.raw s.res (.rep .fcx) = s.raw s.res (.rep .fcx) ∧ (∀ r, u.getD r = s.getD r) ∧ (∀ r, u.getA r = s.getA r) ∧
      u.psw = s.psw ∧ KeepsMemoryBut s u (span (csaEa s.fcx).toNat 64) := by
  have hwt := State.savedLower_window_nil hw
  have hsaves := SavesContext.savedLower hw
  have hkept := Kept.savedLower (s := s)
  have hkept' := Kept.restoredLower (s := s.savedLower)
  have hres : s.savedLower.res = s.res := State.res_of_sys State.savedLower_cfg State.savedLower_sys
  have hrestores := RestoresList.restoredLower hwt
  obtain ⟨hdata, haddr⟩ := lowerBlock_inj (hsaves.lowerBlock_eq hwt LowerFromCsa.restoredLower)
  have hcheck : s.savedLower.restoreCheck .lower = .go :=
    hsaves.restoreCheck hw hwt State.savedLower_cfg State.savedLower_sys
      (fun r x hx => hkept.csfr r (.rep x) (by simp [hx]) (by simp)) hsave _
  have hp : pcx s.savedLower.pcxi ≠ 0 := hsaves.pcx_eq ▸ State.saveCheck_fcx hsave
  refine ⟨s.savedLower, s.savedLower.restoredLower, exec_svlcx_go hsave, exec_rslcx_go hwt hp hsaves.ul_eq hcheck, ?_,
    hsaves.restored_pcxi hwt hrestores, hsaves.restored_fcx hw hres hrestores, fun r => ?_, fun r => ?_, ?_,
    hsaves.restored_memory State.savedLower_cfg hrestores⟩
  · rw [State.restoredLower_pc, State.savedLower, State.advance_pc, State.saveLower_pc, BitVec.add_assoc]
    rfl
  · by_cases hr : r ∈ lowerData
    · exact hdata r hr
    · exact (hkept'.data r hr).trans (hkept.data r (by simp))
  · by_cases hr : r ∈ lowerAddr
    · exact haddr r hr
    · exact (hkept'.addr r hr).trans (hkept.addr r (by simp))
  · exact (hkept'.csfr s.res .psw (by simp) (by simp)).trans (hkept.csfr s.res .psw (by simp) (by simp))

/-! ## CALL and RET -/

/-- An upper context is its registers and a PSW. -/
theorem upperBlock_inj {p q : Word} (h : (u.upperBlock p).tail = (s.upperBlock q).tail) :
    (∀ n ∈ upperData, u.getD n = s.getD n) ∧ ∀ n ∈ upperAddr, u.getA n = s.getA n := by
  simp only [State.upperBlock, List.tail_cons, List.cons.injEq, BitVec.ofNat_eq_ofNat] at h
  simp [upperData, upperAddr, h]

/-- What is restored from the CSA of a saved upper context are the registers of that context. -/
theorem SavesContext.upperBlock_eq {p : Word} (h : SavesContext s t true (s.upperBlock p)) (hwt : t.window = [])
    (hu : UpperFromCsa t u) : (u.upperBlock p).tail = (s.upperBlock p).tail := by
  have hwords := congrArg List.tail (h.linkWords hwt)
  rw [← hwords]
  exact hu.trans (by simp [State.upperBlock, List.range_succ])

/-- A count that is below its maximum is not 0 after it has gone up (41 R400, R401). -/
theorem cdcCount_succ_ne_zero : ∀ c : BitVec 7, cdcLead c ≠ 7 → cdcCount c ≠ 2 ^ (6 - cdcLead c) - 1 →
    cdcCount (c + 1) ≠ 0 := by decide

theorem cdcZero_calleePsw {p : Word} (hcounts : cdcCounts p = true) (hfull : cdcFull p = false) :
    cdcZero (calleePsw p p) = false := by
  have hlead : cdcLead (pswCdc p) ≠ 7 := by simpa using ((Bool.and_eq_true _ _).mp hcounts).2
  have hmax : cdcCount (pswCdc p) ≠ 2 ^ (6 - cdcLead (pswCdc p)) - 1 := by simpa [cdcFull] using hfull
  have hne := cdcCount_succ_ne_zero (pswCdc p) hlead hmax
  rw [cdcZero, pswCdc_calleePsw, if_pos hcounts]
  simpa using hne

/-- The PRS of a configuration is all of PSW's where bit 15 is 0 or part of it (notes/assumptions/39.md). -/
theorem State.pswSetPrs_prsOf {p : Word} (h : field p 15 1 = 0 ∨ 4 < s.cfg.nPrs) : pswSetPrs p (s.prsOf p) = p := by
  have hprs : s.prsOf p = pswPrs p := by
    unfold State.prsOf
    split
    · rfl
    · have h15 : bit p 15 = false := by
        have hf := h.resolve_right (by assumption)
        have hb := getLsbD_field p 15 1 0
        rw [hf] at hb
        simpa using hb.symm
      refine BitVec.eq_of_getLsbD_eq fun k hk => ?_
      have : k = 0 ∨ k = 1 ∨ k = 2 := by omega
      rw [BitVec.getLsbD_and, getLsbD_pswPrs]
      rcases this with rfl | rfl | rfl <;> simp [h15]
  rw [hprs, pswSetPrs_self]

theorem setBit_self {w : Word} {i : Nat} (hi : i < 32) (h : bit w i = true) : setBit w i true = w := by
  rw [word_eq_iff]
  intro k _
  rw [bit_setBit _ hi]
  split
  next hk => rw [hk, h]
  next => rfl

theorem setField_self (w : Word) {lo len : Nat} (hl : lo + len ≤ 32) : setField w lo (field w lo len) = w := by
  have h := setField_field w hl (field w lo len)
  rw [word_eq_iff] at h ⊢
  intro k hk
  rw [← h k hk, bit_setField _ _ hl, bit_setField _ _ hl, bit_setField _ _ hl]
  split <;> rfl

theorem even_eq_self {a : Word} (h : a.getLsbD 0 = false) : even a = a := by
  have hmask : ∀ j : Fin 31, (0xFFFFFFFE#32).getLsbD (j + 1) = true := by decide
  refine BitVec.eq_of_getLsbD_eq fun k hk => ?_
  rw [even, BitVec.getLsbD_and]
  rcases k with _ | k
  · rw [h, Bool.false_and]
  · rw [hmask ⟨k, by omega⟩, Bool.and_true]

/-- Where all of PSW is defined, it is read as it is stored. -/
theorem State.pswRead_eq (hundef : s.pswUndef = false) (hprs : field s.psw 15 1 = 0 ∨ 4 < s.cfg.nPrs) :
    s.pswRead = s.psw := by
  simp [State.pswRead, State.pswView, hundef, State.pswSetPrs_prsOf hprs]

/-- RET after a call restores the caller's PSW from its image in the CSA, in which only PRS is another (41 R396, R397). -/
theorem State.restoredPsw_called {len : Nat} {target : Word} {v : BitVec 3} (hw : s.window = [])
    (hprs : field s.psw 15 1 = 0 ∨ 4 < s.cfg.nPrs) (hword : (s.called len target).linkWord 1 = pswSetPrs s.psw v)
    (keepRm : Bool) : (s.called len target).restoredPsw keepRm = s.psw := by
  have hpprs : field ((s.called len target).ctl .pprs .context) 0 3 = s.prsOf s.psw := by
    rw [State.ctl_of_window_nil _ (State.called_window_nil hw len target)]
    exact State.called_pprs hw len target
  have hrm : pswRm (s.called len target).psw = pswRm s.psw := by
    rw [State.called_psw hw, pswRm, field_calleePsw _ _ (by omega)]
    rfl
  rw [State.restoredPsw, hword, hpprs, pswSetPrs_pswSetPrs, State.pswSetPrs_prsOf hprs, hrm]
  split
  · exact setField_self _ (by omega)
  · rfl

/-- CALL and then RET (41 R400, R411, R414). -/
theorem call_ret {len : Nat} {target : Word} (hcall : callForm s i = some (len, target)) (hw : s.window = [])
    (hsave : s.saveCheck = .go) (hundef : s.pswUndef = false) (hcounts : cdcCounts s.psw = true)
    (hfull : cdcFull s.psw = false) (hpc : s.pc.getLsbD 0 = false) (hlen : len % 2 = 0)
    (hprs : field s.psw 15 1 = 0 ∨ 4 < s.cfg.nPrs) :
    ∃ t u, exec i s = .next t ∧ exec .ret t = .next u ∧ u.pc = s.pc + BitVec.ofNat 32 len ∧ u.pcxi = s.pcxi ∧
      u.raw s.res (.rep .fcx) = s.raw s.res (.rep .fcx) ∧ field u.pprs 0 3 = field s.pprs 0 3 ∧
      (∀ r, u.getD r = s.getD r) ∧ (∀ r, u.getA r = s.getA r) ∧ u.psw = s.psw := by
  have hpsw := State.called_psw hw len target
  have hsaves := State.called_saves hw len target
  rw [State.pswRead_eq hundef hprs, setBit_self (by omega) ((Bool.and_eq_true _ _).mp hcounts).1] at hsaves
  have hwt := State.called_window_nil hw len target
  have hkept := Kept.called (s := s) len target
  generalize hk : (!bit ((s.called len target).getRep (s.called len target).res .compat)
    (s.called len target).cfg.compatRm.val) = keepRm
  have hrestores := RestoresList.returned hwt keepRm
  have hkept' := Kept.returned (s := s.called len target) keepRm
  obtain ⟨hdata, haddr⟩ := upperBlock_inj (hsaves.upperBlock_eq hwt (UpperFromCsa.returned keepRm))
  have hword : (s.called len target).linkWord 1 = pswSetPrs s.psw (field s.pprs 0 3) := hsaves.linkWord hwt rfl
  have hcheck : (s.called len target).restoreCheck .upper = .go :=
    hsaves.restoreCheck hw hwt (by simp) (by simp) (fun r x hx => hkept.csfr r (.rep x) (by simp [hx]) (by simp)) hsave _
  have hp : pcx (s.called len target).pcxi ≠ 0 := hsaves.pcx_eq ▸ State.saveCheck_fcx hsave
  have hzero : cdcZero (s.called len target).psw = false := hpsw ▸ cdcZero_calleePsw hcounts hfull
  refine ⟨s.called len target, (s.called len target).returned keepRm, ?_, ?_, ?_, hsaves.restored_pcxi hwt hrestores,
    hsaves.restored_fcx hw (by simp) hrestores, ?_, fun r => ?_, fun r => ?_, ?_⟩
  · rw [exec_of_callForm hcall, State.execCallTo_go hw hsave (by simp [hfull])]
  · rw [← hk]
    exact State.execReturn_go hwt hp hsaves.ul_eq hcheck (by simp [hzero])
  · rw [State.returned, State.jump_pc, State.getA_called, even_eq_self (add_bit0 hpc (ofNat_bit0 hlen))]
  · rw [State.returned_pprs, hword, pswPrs_pswSetPrs]
  · by_cases hr : r ∈ upperData
    · exact hdata r hr
    · exact (hkept'.data r hr).trans (hkept.data r (by simp))
  · by_cases hr : r ∈ upperAddr
    · exact haddr r hr
    · exact (hkept'.addr r hr).trans (hkept.addr r fun h => hr (by simp_all [upperAddr]))
  · rw [State.returned, State.jump_psw, State.restoreUpper_psw, State.restoredPsw_called hw hprs hword]

/-- Settles O29: the two round trips. -/
theorem saveThenRestoreIsTheIdentity : Obligations.save_then_restore_is_the_identity := by
  unfold Obligations.save_then_restore_is_the_identity
  intro s hw hsave
  exact ⟨svlcx_rslcx hw hsave, fun i len target hcall hundef hcounts hfull hpc hlen hprs =>
    call_ret hcall hw hsave hundef hcounts hfull hpc hlen hprs⟩

end Sys2Proof.Machine
end

section
/-! PROOFS. The traps of calls and returns (41_context_call_return R402 to R404, R409, R410, 60_exceptions R852), and a
context save area that level 2 denies a guest (46_virtualization R743). -/

namespace Sys2Proof.Machine

variable {s : State} {i : Instr}

/-! ## The checks of a return (41 R403, R404, R409, R410) -/

/-- What an instruction that restores a context asks of the call depth: RET for CDU, RSLCX nothing, RFE and RFH for
NEST. -/
def State.depthCheck (s : State) (i : Instr) : Verdict :=
  if i = .ret ∨ i = .ret16 then
    .need (!(cdcCounts (s.ctl .psw .calls) && cdcZero (s.ctl .psw .calls))) (.trap 3 3)
  else if i = .rslcx then .go else s.nestCheck

theorem State.depthCheck_ret (h : i = .ret ∨ i = .ret16) : s.depthCheck i =
    if cdcCounts (s.ctl .psw .calls) = true ∧ cdcZero (s.ctl .psw .calls) = true then .trap 3 3 else .go := by
  rw [State.depthCheck, if_pos h, Verdict.need]
  grind

theorem State.depthCheck_exception (h : i = .rfe ∨ i = .rfe16 ∨ i = .rfh) : s.depthCheck i =
    if cdcCounts (s.ctl .psw .calls) = true ∧ cdcZero (s.ctl .psw .calls) = false then .trap 3 7 else .go := by
  have hi : ¬ (i = .ret ∨ i = .ret16) ∧ i ≠ .rslcx := by rcases h with rfl | rfl | rfl <;> simp
  rw [State.depthCheck, if_neg hi.1, if_neg hi.2, State.nestCheck, Verdict.need]
  grind

theorem State.depthCheck_rslcx : s.depthCheck .rslcx = .go := rfl

/-- The instructions that restore a context, RFH where it is one. -/
def RestoresContext (s : State) (i : Instr) : Prop :=
  i = .ret ∨ i = .ret16 ∨ i = .rfe ∨ i = .rfe16 ∨ i = .rslcx ∨
    (i = .rfh ∧ s.cfg.hasVirt = true ∧ s.cvmn = 0 ∧ s.vcon0Written = true)

/-- RFH in the hypervisor, once VCON0 has been written, makes the checks of RFE (46 R716). -/
theorem execRfh_decided (hvirt : s.cfg.hasVirt = true) (hcvmn : s.cvmn = 0) (hvcon0 : s.vcon0Written = true) :
    ∃ effect, exec .rfh s = s.conclude (s.returnCheck s.nestCheck true .upper) effect := by
  have hlast : Verdict.first [s.returnCheck s.nestCheck true .upper] = s.returnCheck s.nestCheck true .upper :=
    Verdict.first_last (vs := []) _ (by simp)
  refine ⟨s.leave.setCvmn (if s.virtOn then field (s.eff .hv (.sys .vcon2) .virt) 0 3 else 1#3), ?_⟩
  change execRfh s = _
  rw [execRfh, Verdict.first_need (by simp), if_pos hvirt, Verdict.first_need (by simp), if_pos (by simpa using hcvmn),
    Verdict.first_need (by simp), if_pos hvcon0, hlast]

theorem RestoresContext.decided (h : RestoresContext s i) : ∃ lost effect,
    exec i s = s.conclude (s.returnCheck (s.depthCheck i) (decide (i ≠ .rslcx)) lost) effect := by
  rcases h with rfl | rfl | rfl | rfl | rfl | ⟨rfl, hvirt, hcvmn, hvcon0⟩
  · exact ⟨.upper, _, rfl⟩
  · exact ⟨.upper, _, rfl⟩
  · exact ⟨.upper, _, rfl⟩
  · exact ⟨.upper, _, rfl⟩
  · exact ⟨.lower, _, rfl⟩
  · exact ⟨.upper, execRfh_decided hvirt hcvmn hvcon0⟩

/-- Without a context every restore takes CSU. -/
theorem RestoresContext.csu (h : RestoresContext s i) (hp : pcx s.link = 0) : exec i s = .next (s.takeTrap 3 5 s.pc) := by
  obtain ⟨lost, effect, he⟩ := h.decided
  rw [he, State.returnCheck, Verdict.first_need (by simp), if_neg (by simp [hp])]
  rfl

/-- With a context the call depth decides next. -/
theorem RestoresContext.depth_trap (h : RestoresContext s i) (hp : pcx s.link ≠ 0) {tin : Byte}
    (hd : s.depthCheck i = .trap 3 tin) : exec i s = .next (s.takeTrap 3 tin s.pc) := by
  obtain ⟨lost, effect, he⟩ := h.decided
  rw [he, State.returnCheck, Verdict.first_need (by simp), if_pos (by simpa using hp), hd]
  rfl

/-- Then the type of the context decides. -/
theorem RestoresContext.ctyp (h : RestoresContext s i) (hp : pcx s.link ≠ 0) (hd : s.depthCheck i = .go)
    (hul : pcxiUl s.link ≠ decide (i ≠ .rslcx)) : exec i s = .next (s.takeTrap 3 6 s.pc) := by
  obtain ⟨lost, effect, he⟩ := h.decided
  rw [he, State.returnCheck, Verdict.first_need (by simp), if_pos (by simpa using hp), hd, Verdict.first_cons_go,
    Verdict.first_need (by simp), if_neg (by simpa using hul)]
  rfl

/-! ## A CSA that level 2 denies (46 R743) -/

/-- Level 2 denies a CSA with L2MPR, or, where it may be read, with L2MPW. -/
theorem State.DeniesCsa.csaL2 {ptr : BitVec 20} {tin : Word} (h : s.DeniesCsa ptr tin) : s.csaL2 ptr = .hv 2 tin := by
  unfold State.csaL2
  rw [Verdict.first_need (by simp), Verdict.first_need (by simp)]
  rcases h with ⟨rfl, hread⟩ | ⟨rfl, hread, hwrite⟩
  · rw [if_neg (by simpa using hread)]
  · rw [if_pos (by simpa using hread), if_neg (by simpa using hwrite)]

theorem State.DeniesCsa.saveCheck {tin : Word} (h : s.DeniesCsa s.fcx tin) (hfcx : s.fcx ≠ 0) :
    s.saveCheck = .hv 2 tin := by
  unfold State.saveCheck
  rw [Verdict.first_need (by simp), if_pos (by simpa using hfcx), h.csaL2]
  rfl

/-- A restore whose CSA level 2 denies. -/
theorem RestoresContext.denied (h : RestoresContext s i) (hp : pcx s.link ≠ 0) (hd : s.depthCheck i = .go)
    (hul : pcxiUl s.link = decide (i ≠ .rslcx)) {tin : Word} (hdenied : s.DeniesCsa (pcx s.link) tin) :
    exec i s = .next (s.takeHvTrap 2 tin s.pc) := by
  obtain ⟨lost, effect, he⟩ := h.decided
  rw [he, State.returnCheck, Verdict.first_need (by simp), if_pos (by simpa using hp), hd, Verdict.first_cons_go,
    Verdict.first_need (by simp), if_pos (by simpa using hul), State.restoreCheck, hdenied.csaL2]
  rfl

/-- Level 2 denies the hypervisor nothing. -/
theorem State.csaL2_of_not_guest (h : s.guest = false) (ptr : BitVec 20) : s.csaL2 ptr = .go := by
  simp [State.csaL2, State.l2Read, State.l2Write, h, Verdict.first, Verdict.need]

theorem State.saveCheck_ne_hv (h : s.guest = false) (cls : BitVec 3) (tin : Word) : s.saveCheck ≠ .hv cls tin := by
  unfold State.saveCheck
  rw [State.csaL2_of_not_guest h, Verdict.first_need (by simp), Verdict.first_cons_go, Verdict.first_need (by simp),
    Verdict.first_nil]
  split_ifs <;> simp

theorem State.guest_setCvmn : (s.setCvmn 0).guest = false := by simp [State.guest, State.cvmn_setCvmn]

/-- The hypervisor's trap replaces an entry that level 2 denies its CSA, with the same return address (92 D38). -/
theorem State.DeniesCsa.enter {tin : Word} (h : s.DeniesCsa s.fcx tin) (hfcx : s.fcx ≠ 0) {e : Entry}
    (he : e.hyper = false) : s.enter e = s.takeHvTrap 2 tin e.ra := by
  have hne := State.saveCheck_ne_hv (State.guest_setCvmn (s := s))
  unfold State.takeHvTrap State.enter
  simp only [he, h.saveCheck hfcx, Bool.false_eq_true, if_false, if_true]
  cases hv : (s.setCvmn 0).saveCheck with
  | hv cls hvtin => exact absurd hv (hne cls hvtin)
  | _ => rfl

/-- A return that restores an upper context is one from a call or one from an exception. -/
theorem RestoresContext.upper_cases (h : RestoresContext s i) (hne : i ≠ .rslcx) :
    (i = .ret ∨ i = .ret16) ∨ i = .rfe ∨ i = .rfe16 ∨ i = .rfh := by
  rcases h with h | h | h | h | h | ⟨h, -⟩ <;> simp_all

/-- A save that level 2 denies ends in the hypervisor's trap. -/
theorem State.DeniesCsa.conclude {tin : Word} (h : s.DeniesCsa s.fcx tin) (hfcx : s.fcx ≠ 0) (effect : State) :
    s.conclude s.saveCheck effect = .next (s.takeHvTrap 2 tin s.pc) := by rw [h.saveCheck hfcx, State.conclude]

/-- Settles O27: the checks of a call and of a return in their order, and the entries of a guest whose CSA level 2
denies. -/
theorem callAndReturnTraps : Obligations.call_and_return_traps := by
  unfold Obligations.call_and_return_traps
  intro s i depth zero
  refine ⟨fun len target hcall hfcx hdepth hfull => ?_, ?_⟩
  · rw [exec_of_callForm hcall, State.execCallTo_decided hfcx, if_neg (by simp [hfull, show cdcCounts _ = true from hdepth])]
    rfl
  intro exception
  refine ⟨fun hi => ?_, fun tin hfcx hdenied => ?_, fun tin hp hdenied hi => ?_⟩
  · have h : RestoresContext s i := hi
    refine ⟨h.csu, fun hp hret hd hz => h.depth_trap hp ?_, fun hp hrfe hd hz => h.depth_trap hp ?_,
      fun hp hne hd hul => h.ctyp hp ?_ (by simp [hul, hne]), fun hp hrslcx hul => h.ctyp hp ?_ (by simp [hul, hrslcx])⟩
    · rw [State.depthCheck_ret hret, if_pos ⟨hd, hz⟩]
    · rw [State.depthCheck_exception hrfe, if_pos ⟨hd, hz⟩]
    · rcases h.upper_cases hne with hret | hrfe
      · have hnot : ¬ exception := by rcases hret with rfl | rfl <;> simp [exception]
        rw [State.depthCheck_ret hret, if_neg fun ⟨hd', hz⟩ => hnot ((hd hd').mp hz)]
      · rw [State.depthCheck_exception hrfe, if_neg fun ⟨hd', hz⟩ =>
          Bool.false_ne_true (hz.symm.trans ((hd hd').mpr hrfe))]
    · rw [hrslcx, State.depthCheck_rslcx]
  · refine ⟨fun hi => ?_, fun cls t ra hcls => ?_, fun pipn => hdenied.enter hfcx rfl⟩
    · rcases hi with ⟨⟨len, target, hcall⟩, hdepth⟩ | rfl | ⟨hsv, ⟨k, rfl⟩ | ⟨k, rfl⟩⟩
      · rw [exec_of_callForm hcall, State.execCallTo_decided hfcx, if_pos (by grind), hdenied.conclude hfcx]
      · exact hdenied.conclude hfcx _
      · exact (State.execBisrTo_decided hsv 4 _).trans (hdenied.conclude hfcx _)
      · exact (State.execBisrTo_decided hsv 2 _).trans (hdenied.conclude hfcx _)
    · rw [State.takeTrap, hdenied.enter hfcx rfl, State.inform_ne _ hcls]
  · rcases hi with ⟨rfl, hul⟩ | ⟨hul, ⟨hret, hd⟩ | ⟨hrfe, hd⟩⟩
    · exact RestoresContext.denied (by simp [RestoresContext]) hp State.depthCheck_rslcx (by simp [hul]) hdenied
    · have hne : i ≠ .rslcx := by rcases hret with rfl | rfl <;> simp
      refine RestoresContext.denied ?_ hp ?_ (by simp [hul, hne]) hdenied
      · rcases hret with rfl | rfl <;> simp [RestoresContext]
      · rw [State.depthCheck_ret hret, if_neg hd]
    · have hne : i ≠ .rslcx := by rcases hrfe with rfl | rfl <;> simp
      refine RestoresContext.denied ?_ hp ?_ (by simp [hul, hne]) hdenied
      · rcases hrfe with rfl | rfl <;> simp [RestoresContext]
      · rw [State.depthCheck_exception (hrfe.imp_right .inl), if_neg hd]

end Sys2Proof.Machine
end

section
/-! PROOFS. The fast calls and returns (41_context_call_return R420 to R423), and the stores and loads of contexts (41 R424
to R427), on ordinary memory. -/

namespace Sys2Proof.Machine

variable {s t : State} {i : Instr}

/-! ## Fast calls and returns (41 R420 to R423) -/

/-- The registers of a fast call: A[10] moves down a word, A[11] is the return address (R420). -/
def State.afterFastCall (s : State) (target : Word) : State :=
  ((s.setA 10 (s.getA 10 - 4)).setA 11 (s.pc + 4)).jump target

theorem State.getA_afterFastCall (s : State) (target : Word) : (s.afterFastCall target).getA 11 = s.pc + 4 := by
  rw [State.afterFastCall, State.getA_jump, State.getA_setA_same]

theorem State.getA10_afterFastCall (s : State) (target : Word) : (s.afterFastCall target).getA 10 = s.getA 10 - 4 := by
  rw [State.afterFastCall, State.getA_jump, State.getA_setA_ne _ (by decide), State.getA_setA_same]

theorem Kept.afterFastCall (target : Word) : Kept s (s.afterFastCall target) [] [10, 11] [.pc] :=
  ((Kept.setA 10 (s.getA 10 - 4)).trans (Kept.setA 11 (s.pc + 4)) (by simp)).trans (Kept.jump target) (by simp)

/-- A fast call on ordinary memory (R420). -/
theorem fastCall_on_ram {target : Word} (h : fastCallForm s i = some target)
    (hc : s.check (s.stackAccess (s.getA 10 - 4) false true) = .go)
    (hk : s.kindOf (s.stackAccess (s.getA 10 - 4) false true).addrs = some .ram) :
    let x := s.stackAccess (s.getA 10 - 4) false true
    exec i s = .next (((s.writeAt x.addrs (s.getA 11).toNat).told false (s.toldWrite x (s.getA 11).toNat)).afterFastCall
      target) := by
  rw [exec_of_fastCallForm h, State.execFcallTo, State.conclude_go hc, State.store_ram_told hk]
  rfl

/-- The word that a fast return loads (R423). -/
theorem getA_of_fastReturn (h : i = .fret ∨ i = .fret16) (hc : s.check (s.stackAccess (s.getA 10) true false) = .go)
    (hk : s.kindOf (s.stackAccess (s.getA 10) true false).addrs = some .ram) (he : exec i s = .next t) :
    t.getA 11 = BitVec.ofNat 32 (s.readAt (s.stackAccess (s.getA 10) true false).addrs) := by
  have hret : exec i s = s.execFastReturn := by rcases h with rfl | rfl <;> rfl
  rw [hret, State.execFastReturn, State.conclude_go hc, State.load_ram hk] at he
  rw [← Host.Outcome.next.inj he, State.getA_jump, State.getA_setA_ne _ (by decide), State.getA_setA_same]

/-- Settles O30: a fast call on ordinary memory as the one state that it leads to, and the word that FRET loads. -/
theorem fastCallsAndReturns : Obligations.fast_calls_and_returns := by
  unfold Obligations.fast_calls_and_returns
  intro s i
  refine ⟨?_, ?_⟩
  · intro target htarget ea x hc hk
    let t := ((s.writeAt x.addrs (s.getA 11).toNat).told false (s.toldWrite x (s.getA 11).toNat)).afterFastCall target
    have hmem : KeepsMemory (s.writeAt x.addrs (s.getA 11).toNat) t :=
      KeepsMemory.of_mem (by simp [t, State.afterFastCall]) (by simp [t, State.afterFastCall])
    refine ⟨t, fastCall_on_ram htarget hc hk, rfl, State.getA_afterFastCall _ _, ?_, fun k hk4 => (hmem _).trans ?_,
      by simp [t, State.afterFastCall], .ofWriteAt hmem, .ofWriteAt (Kept.ofTold_out (Kept.afterFastCall target))⟩
    · rw [State.getA10_afterFastCall]
      rfl
    · exact State.byteAt_writeAt (Access.cells_nodup hc (Nat.le_of_ble_eq_true rfl) (fun _ _ _ h => nomatch h))
        (Access.getElem?_addrs hk4)
  · intro hret x hc hk
    obtain ⟨t, he, hout, hmem, hpc, ha10, hkept⟩ := fastReturn_go hret hc
    exact ⟨t, he, hpc, getA_of_fastReturn hret hc hk he, ha10, hmem, hout, hkept⟩

/-! ## The 16 words of a context in memory (41 R424 to R427) -/

theorem span_append (a m n : Nat) : span a (m + n) = span a m ++ span (a + m) n := by
  simp [span, List.range_add, List.map_append, Function.comp_def, Nat.add_assoc]

theorem Memory.gather_append (m : List Host.Cell) : ∀ as bs : List Nat,
    Memory.gather m (as ++ bs) = Memory.gather m as + 256 ^ as.length * Memory.gather m bs
  | [], bs => by simp [Memory.gather]
  | a :: as, bs => by
    rw [List.cons_append, Memory.gather, Memory.gather, Memory.gather_append m as bs, List.length_cons]
    ring

/-- A store at addresses one after the other stores the low bytes at the first of them. -/
theorem Memory.scatter_append (v : Nat) : ∀ (m : List Host.Cell) (as bs : List Nat),
    Memory.scatter m v (as ++ bs) = Memory.scatter (Memory.scatter m v as) (v / 256 ^ as.length) bs := by
  intro m as
  induction as generalizing m v with
  | nil => simp [Memory.scatter]
  | cons a as ih =>
    intro bs
    rw [List.cons_append, Memory.scatter, Memory.scatter, ih, List.length_cons, Nat.div_div_eq_div_mul,
      Nat.pow_succ']

/-- A store takes as many bytes of its datum as it has addresses. -/
theorem Memory.scatter_mod (m : List Host.Cell) (v w : Nat) (as : List Nat) :
    Memory.scatter m (v + 256 ^ as.length * w) as = Memory.scatter m v as := by
  induction as generalizing m v with
  | nil => rfl
  | cons a as ih =>
    have hlow : BitVec.ofNat 8 (v + 256 ^ (a :: as).length * w) = BitVec.ofNat 8 v := by
      apply BitVec.eq_of_toNat_eq
      simp only [BitVec.toNat_ofNat, List.length_cons, Nat.pow_succ', Nat.mul_assoc]
      omega
    have hhigh : (v + 256 ^ (a :: as).length * w) / 256 = v / 256 + 256 ^ as.length * w := by
      simp only [List.length_cons, Nat.pow_succ', Nat.mul_assoc]
      omega
    rw [Memory.scatter, Memory.scatter, hlow, hhigh, ih]

theorem State.writeAt_append (as bs : List Nat) (v : Nat) :
    s.writeAt (as ++ bs) v = (s.writeAt as v).writeAt bs (v / 256 ^ as.length) := by
  have h := Memory.scatter_append v s.mem (as.map s.cell) (bs.map s.cell)
  rw [← List.map_append, List.length_map] at h
  exact congrArg (fun m => { s with mem := m }) h

theorem State.writeAt_mod (as : List Nat) (v w : Nat) : s.writeAt as (v + 256 ^ as.length * w) = s.writeAt as v := by
  have h := Memory.scatter_mod s.mem v w (as.map s.cell)
  rw [List.length_map] at h
  exact congrArg (fun m => { s with mem := m }) h

theorem State.readAt_append (as bs : List Nat) : s.readAt (as ++ bs) = s.readAt as + 256 ^ as.length * s.readAt bs := by
  rw [State.readAt, List.map_append, Memory.gather_append, List.length_map]
  rfl

theorem span_length (a n : Nat) : (span a n).length = n := by simp [span]

/-- Words stored as one number are stored one after the other. -/
theorem State.writeAt_words {a : Word} {ws : List Word} (h : a.toNat + 4 * ws.length ≤ 2 ^ 32) :
    s.writeAt (span a.toNat (4 * ws.length)) (wordsValue ws) = s.putWords a ws := by
  induction ws generalizing s a with
  | nil => rfl
  | cons w rest ih =>
    have hfirst : s.writeAt (span a.toNat 4) (w.toNat + 2 ^ 32 * wordsValue rest) = s.putWord a w := by
      have hmod := State.writeAt_mod (s := s) (span a.toNat 4) w.toNat (wordsValue rest)
      rwa [span_length, show 256 ^ 4 = 2 ^ 32 by norm_num] at hmod
    have hdiv : (w.toNat + 2 ^ 32 * wordsValue rest) / 256 ^ 4 = wordsValue rest := by
      rw [show 256 ^ 4 = 2 ^ 32 by norm_num, Nat.add_mul_div_left _ _ (Nat.two_pow_pos 32), Nat.div_eq_of_lt w.isLt, Nat.zero_add]
    rw [List.length_cons, Nat.mul_succ, Nat.add_comm, span_append, wordsValue, State.writeAt_append, hfirst, span_length,
      hdiv, State.putWords]
    rcases rest with _ | ⟨v, rest⟩
    · rfl
    · simp only [List.length_cons] at h
      have ha : (a + 4).toNat = a.toNat + 4 := by
        rw [BitVec.toNat_add]
        exact Nat.mod_eq_of_lt (by simp; omega)
      rw [← ha]
      exact ih (by rw [List.length_cons]; omega)

/-- Word `k` of the `n` words in memory from `a` on (20_memory R213). -/
theorem State.contextWord_readAt {a : Word} {n k : Nat} (hk : k < n) (h : a.toNat + 4 * n ≤ 2 ^ 32) :
    contextWord (s.readAt (span a.toNat (4 * n))) k = s.wordAt (a + BitVec.ofNat 32 (4 * k)) := by
  have ha : (a + BitVec.ofNat 32 (4 * k)).toNat = a.toNat + 4 * k := by
    rw [BitVec.toNat_add, BitVec.toNat_ofNat]
    omega
  have hn : 4 * n = 4 * k + (4 + (4 * n - 4 * k - 4)) := by omega
  have hlow : s.readAt (span a.toNat (4 * k)) < 2 ^ (32 * k) := by
    have hlt := s.readAt_lt (span a.toNat (4 * k))
    rwa [span_length, show 256 = 2 ^ 8 from rfl, ← Nat.pow_mul, show 8 * (4 * k) = 32 * k by omega] at hlt
  rw [hn, span_append, span_append, State.readAt_append, State.readAt_append, span_length, span_length, contextWord,
    Nat.shiftRight_eq_div_pow, show 256 ^ (4 * k) = 2 ^ (32 * k) by rw [show 256 = 2 ^ 8 from rfl, ← Nat.pow_mul]; ring_nf,
    Nat.add_mul_div_left _ _ (by positivity), Nat.div_eq_of_lt hlow, Nat.zero_add, State.wordAt, ha]
  apply BitVec.eq_of_toNat_eq
  rw [BitVec.toNat_ofNat, BitVec.toNat_ofNat]
  omega

/-! ## The access of a context (41 R424) -/

theorem State.alnOk_of_check {x : Access} (h : s.check x = .go) : s.alnOk x = true := by
  rw [State.check, Verdict.first_eq_go] at h
  simpa using h (.need (s.alnOk x) (.trap 2 4)) (by simp)

/-- A context that is stored or loaded on ordinary memory without a trap lies at a multiple of 64, outside peripheral
space, so that the host does not see the access. -/
theorem State.contextAccess_go {m : MemOp} {loads stores : Bool} (hc : s.check (s.contextAccess m loads stores) = .go)
    (hk : s.kindOf (s.contextAccess m loads stores).addrs = some .ram) :
    (s.contextAccess m loads stores).ea.toNat % 64 = 0 ∧ s.seen (s.contextAccess m loads stores) = false := by
  obtain ⟨hperi, halign, -⟩ := State.alnOk_iff.mp (State.alnOk_of_check hc)
  have hnot : ¬ s.InPeripheral (segment (s.contextAccess m loads stores).ea) .data := fun h => (hperi h).1 rfl
  have hdata : s.peripheral (segment (s.contextAccess m loads stores).ea) .data = false :=
    Bool.not_eq_true _ ▸ fun h => hnot (State.peripheral_iff.mp h)
  exact ⟨halign hnot, by simp [State.seen, hdata, hk]⟩

/-- An access outside a circular buffer that does not leave the address space is of consecutive addresses. -/
theorem Access.addrs_eq_span {x : Access} (hcirc : x.circ = none) (hroom : x.ea.toNat + x.size ≤ 2 ^ 32) :
    x.addrs = span x.ea.toNat x.size := by
  refine List.map_congr_left fun k hk => ?_
  rw [List.mem_range] at hk
  simp only [Access.addr, hcirc, BitVec.toNat_add, BitVec.toNat_ofNat]
  omega

theorem contextStoreForm_circ {m : MemOp} {ws : List Word} (h : contextStoreForm s i = some (m, ws)) :
    (s.resolve m).circ = none ∧ ws.length = 16 := by
  unfold contextStoreForm at h
  split at h
  all_goals cases h
  all_goals exact ⟨rfl, rfl⟩

theorem contextLoadForm_circ {m : MemOp} {upper : Bool} (h : contextLoadForm i = some (m, upper)) (s : State) :
    (s.resolve m).circ = none := by
  unfold contextLoadForm at h
  split at h
  all_goals cases h
  all_goals rfl

/-- The addresses of a context access that meets no trap. -/
theorem State.contextAccess_addrs {m : MemOp} {loads stores : Bool} (hcirc : (s.resolve m).circ = none)
    (hea : (s.contextAccess m loads stores).ea.toNat % 64 = 0) :
    (s.contextAccess m loads stores).addrs = span (s.contextAccess m loads stores).ea.toNat 64 :=
  Access.addrs_eq_span hcirc (by
    have := (s.contextAccess m loads stores).ea.isLt
    change _ + 64 ≤ _
    omega)

/-! ## STLCX and STUCX (41 R424, R425) -/

/-- A store of a context on ordinary memory stores its words. -/
theorem contextStore_on_ram {m : MemOp} {ws : List Word} (h : contextStoreForm s i = some (m, ws))
    (hc : s.check (s.contextAccess m false true) = .go)
    (hk : s.kindOf (s.contextAccess m false true).addrs = some .ram) :
    exec i s = .next ((s.putWords (s.contextAccess m false true).ea ws).advance 4) := by
  obtain ⟨hea, hseen⟩ := State.contextAccess_go hc hk
  obtain ⟨hcirc, hlen⟩ := contextStoreForm_circ h
  have hroom : (s.contextAccess m false true).ea.toNat + 4 * ws.length ≤ 2 ^ 32 := by
    have := (s.contextAccess m false true).ea.isLt
    omega
  have hwords := State.writeAt_words (s := s) hroom
  rw [hlen, ← State.contextAccess_addrs hcirc hea] at hwords
  obtain ⟨block, rfl, he⟩ := exec_of_contextStoreForm h
  rw [he, State.storeContext, State.conclude_go hc, State.store_ram hk hseen, hwords]

/-! ## LDLCX and LDUCX (41 R426, R427) -/

/-- A load of a context from ordinary memory writes its registers. -/
theorem contextLoad_from_ram {m : MemOp} {upper : Bool} (h : contextLoadForm i = some (m, upper))
    (hc : s.check (s.contextAccess m true false) = .go)
    (hk : s.kindOf (s.contextAccess m true false).addrs = some .ram) :
    exec i s = .next (((if upper then State.setUpper else State.setLower) s
      (contextWord (s.readAt (s.contextAccess m true false).addrs))).advance 4) := by
  rw [exec_of_contextLoadForm h, State.loadContext, State.conclude_go hc, State.load_ram hk,
    State.loaded_unseen (State.contextAccess_go hc hk).2]

/-- The words `w` in the upper registers, and the pc past the instruction (R427). -/
theorem State.setUpper_advance_spec (s : State) (w : Nat → Word) :
    ((s.setUpper w).advance 4).pc = s.pc + 4 ∧ KeepsMemory s ((s.setUpper w).advance 4) ∧
      (((s.setUpper w).advance 4).upperBlock 0).tail = ((List.range 16).map w).drop 2 ∧
      Kept s ((s.setUpper w).advance 4) upperData upperAddr [.pc] := by
  refine ⟨by simp, KeepsMemory.of_mem (by simp) (by simp), ?_, ?_⟩
  · simp [State.upperBlock, State.getD_setUpper, State.getA_setUpper, List.range_succ]
  · exact ((Kept.setUpper w).trans (Kept.advance 4) (by simp)).mono (by simp) (by simp) (by simp)

/-- The words `w` in the lower registers, and the pc past the instruction (R426). -/
theorem State.setLower_advance_spec (s : State) (w : Nat → Word) :
    ((s.setLower w).advance 4).pc = s.pc + 4 ∧ KeepsMemory s ((s.setLower w).advance 4) ∧
      ((s.setLower w).advance 4).lowerBlock = ((List.range 16).map w).drop 1 ∧
      Kept s ((s.setLower w).advance 4) lowerData lowerAddr [.pc] := by
  refine ⟨by simp, KeepsMemory.of_mem (by simp) (by simp), ?_, ?_⟩
  · simp [State.lowerBlock, State.getD_setLower, State.getA_setLower, List.range_succ]
  · exact ((Kept.setLower w).trans (Kept.advance 4) (by simp)).mono (by simp) (by simp) (by simp)

/-- Settles O31: a store of a context puts its words in memory, a load writes the registers with the words there. -/
theorem storesAndLoadsOfContexts : Obligations.stores_and_loads_of_contexts := by
  unfold Obligations.stores_and_loads_of_contexts
  intro s i
  refine ⟨?_, ?_⟩
  · intro m ws hform x hc hk
    obtain ⟨hea, -⟩ := State.contextAccess_go hc hk
    obtain ⟨hcirc, hlen⟩ := contextStoreForm_circ hform
    have hlt := x.ea.isLt
    have hea : x.ea.toNat % 64 = 0 := hea
    refine ⟨_, contextStore_on_ram hform hc hk, by simp, ?_, ?_, ?_⟩
    · exact State.putWords_holds (by omega) (by omega)
    · have haddrs : x.addrs = span x.ea.toNat (4 * ws.length) := by
        rw [hlen]
        exact State.contextAccess_addrs hcirc hea
      rw [haddrs]
      exact State.putWords_keeps (by omega)
    · exact (Kept.putWords x.ea ws).trans (Kept.advance 4) (State.res_putWords x.ea ws)
  · intro m upper hform x w hc hk
    obtain ⟨hea, -⟩ := State.contextAccess_go hc hk
    have hwords : (List.range 16).map (contextWord (s.readAt x.addrs)) = (List.range 16).map w := by
      refine List.map_congr_left fun k hk16 => ?_
      have haddrs : x.addrs = span x.ea.toNat (4 * 16) :=
        State.contextAccess_addrs (contextLoadForm_circ hform s) hea
      rw [haddrs]
      have hlt := x.ea.isLt
      have hea : x.ea.toNat % 64 = 0 := hea
      exact State.contextWord_readAt (List.mem_range.mp hk16) (by omega)
    have he := contextLoad_from_ram hform hc hk
    rw [← hwords]
    cases upper with
    | true => exact ⟨_, he, State.setUpper_advance_spec s _⟩
    | false => exact ⟨_, he, State.setLower_advance_spec s _⟩

end Sys2Proof.Machine
end

section
/-! PROOFS. The system instructions that move no core register: no operations, synchronisation, interrupt enable, system
calls, software traps and the cache instructions (42_system_instructions R459 to R469, R476). -/

namespace Sys2Proof.Machine

variable {s : State}

/-! ## No operations and synchronisation (42_system_instructions R459, R460, R467, 45_debug R624) -/

/-- DEBUG whose software debug event is not armed only advances the pc. -/
theorem State.execDebugBody_unarmed (h : s.debugOn = false ∨ bit (s.dbg .swevt) 0 = false) (len : Nat) :
    s.execDebugBody len = .next (s.advance len) := by
  have harmed : (s.debugOn && bit (s.dbg .swevt) 0) = false := by
    rcases h with h | h <;> simp [h]
  simp only [State.execDebugBody, harmed, State.before_unarmed, State.after_unarmed]

/-- Settles O32: the only event that one of these could raise is DEBUG's, and it is not armed. -/
theorem noOperations : Obligations.no_operations := by
  rintro s i len (⟨rfl, rfl⟩ | ⟨rfl, rfl⟩ | ⟨rfl, rfl⟩ | ⟨⟨rfl, rfl⟩ | ⟨rfl, rfl⟩, h⟩)
  · rfl
  · rfl
  · rfl
  · exact State.execDebugBody_unarmed h 4
  · exact State.execDebugBody_unarmed h 2

/-- Settles O33: a register without an open update governs with its stored value. -/
theorem instructionSynchronisation : Obligations.instruction_synchronisation := fun s =>
  ⟨s.sync.advance 4, rfl, rfl, State.eff_of_window_nil _ rfl, fun _ => rfl, rfl⟩

/-! ## Interrupt enable (42_system_instructions R461 to R463) -/

theorem State.raw_icr_setIe (b : Bool) : (s.setIe b).raw s.res .icr = setBit (s.raw s.res .icr) 15 b :=
  State.raw_icr_hwIcr fun i => setBit i 15 b

@[simp] theorem State.res_setIe (b : Bool) : (s.setIe b).res = s.res :=
  State.res_hwIcr s.res fun i => setBit i 15 b

/-- ICR with another IE keeps its other fields. -/
theorem icr_setIe (i : Word) (b : Bool) : icrIe (setBit i 15 b) = b ∧ icrCcpn (setBit i 15 b) = icrCcpn i ∧
    icrPipn (setBit i 15 b) = icrPipn i := by
  refine ⟨?_, field_setBit_ne i (by omega) b (by omega), field_setBit_ne i (by omega) b (by omega)⟩
  rw [icrIe, bit_setBit i (by omega), if_pos rfl]

/-- What is said of a state `t` after ICR.IE has become `ie` and the data registers `ds` have been written. -/
structure ChangesIe (s t : State) (ie : Bool) (ds : List Reg) : Prop where
  pc : t.pc = s.pc + 4
  ie : icrIe (t.raw s.res .icr) = ie
  ccpn : icrCcpn (t.raw s.res .icr) = icrCcpn (s.raw s.res .icr)
  pipn : icrPipn (t.raw s.res .icr) = icrPipn (s.raw s.res .icr)
  memory : KeepsMemory s t
  kept : Kept s t ds [] [.pc, .icr, .sys (icrOf s.vm)]

/-- ICR.IE changes first, then data registers, then the pc. -/
theorem ChangesIe.of_kept {u : State} {ie : Bool} {ds : List Reg} (h : Kept (s.setIe ie) u ds [] [])
    (hmem : u.mem = s.mem) (hpc : u.pc = s.pc) (hres : u.res = s.res) : ChangesIe s (u.advance 4) ie ds := by
  have hicr : (u.advance 4).raw s.res .icr = setBit (s.raw s.res .icr) 15 ie :=
    (h.csfr s.res .icr (by simp) (by simp)).trans (State.raw_icr_setIe ie)
  have hframe := Kept.hwCurIcr (s := s) fun i => setBit i 15 ie
  have hkept := (hframe.trans h (State.res_setIe ie)).trans (Kept.advance 4) hres
  obtain ⟨hie, hccpn, hpipn⟩ := icr_setIe (s.raw s.res .icr) ie
  refine ⟨congrArg (· + 4) hpc, by rw [hicr, hie], by rw [hicr, hccpn], by rw [hicr, hpipn],
    KeepsMemory.of_mem (congrArg Prod.fst hkept.fixed) hmem, hkept.mono (by simp) (by simp) (by simp)⟩

/-- Settles O34: ICR.IE alone changes, and D[a] where DISABLE saves the old one. -/
theorem interruptEnable : Obligations.interrupt_enable := by
  intro s i a ie hmay hform
  have hgo : ∀ e, s.conclude s.ieCheck e = .next e := State.conclude_go (by simp [State.ieCheck, hmay])
  obtain ⟨hpc, hie, hccpn, hpipn, hmem, hkept⟩ : ChangesIe s ((s.setIe ie).advance 4) ie [] :=
    .of_kept (Kept.refl _) rfl rfl (State.res_setIe ie)
  rcases hform with ⟨rfl, rfl⟩ | ⟨rfl, rfl⟩ | ⟨rfl, rfl⟩ | ⟨rfl, rfl⟩
  · exact ⟨_, hgo _, hpc, hie, hccpn, hpipn, nofun, hmem, hkept⟩
  · exact ⟨_, hgo _, hpc, hie, hccpn, hpipn, nofun, hmem, hkept⟩
  · obtain ⟨hpc, hie, hccpn, hpipn, hmem, hkept⟩ := ChangesIe.of_kept
      (Kept.setD (s := s.setIe false) a (if icrIe (s.raw s.res .icr) then 1 else 0)) rfl rfl (by simp)
    exact ⟨_, hgo _, hpc, hie, hccpn, hpipn, fun _ => State.getD_setD_same _ a _, hmem, by simpa using hkept⟩
  · exact ⟨_, hgo _, hpc, hie, hccpn, hpipn, nofun, hmem, hkept⟩

/-! ## Software traps (42_system_instructions R464 to R466, R476, 46_virtualization R722) -/

/-- Settles O36: HVCALL asks whether the core has virtualization, then whether it is on. -/
theorem systemCalls : Obligations.system_calls := by
  refine fun s k n => ⟨rfl, fun hvirt => ?_, fun hvirt hoff => ?_, fun hon => ?_⟩
  · simp only [exec, execHvcall, hvirt]
    rfl
  · simp only [exec, execHvcall, hvirt, hoff]
    rfl
  · have hvirt : s.cfg.hasVirt = true := (Bool.and_eq_true_iff.mp hon).1
    simp only [exec, execHvcall, hvirt, hon]
    rfl

/-- A trap that is due on a bit is taken where the bit is 1; where it is 0 the effect follows. -/
theorem State.conclude_unless (s e : State) (b : Bool) (cls : BitVec 3) (tin : Byte) :
    s.conclude (.need (!b) (.trap cls tin)) e = .next (if b then s.takeTrap cls tin s.pc else e) := by
  cases b <;> rfl

/-- Settles O37: TRAPV and TRAPSV are each one check on their bit. -/
theorem overflowAndInvalidTraps : Obligations.overflow_and_invalid_traps := by
  intro s
  have hv : exec .trapv s = .next (if bit s.psw 30 then s.takeTrap 5 1 s.pc else s.advance 4) :=
    s.conclude_unless _ _ 5 1
  have hsv : exec .trapsv s = .next (if bit s.psw 29 then s.takeTrap 5 2 s.pc else s.advance 4) :=
    s.conclude_unless _ _ 5 2
  refine ⟨fun h => ?_, fun h => ?_, fun h => ?_, fun h => ?_, rfl⟩
  · rw [hv, if_pos h]
  · rw [hv, h]
    rfl
  · rw [hsv, if_pos h]
  · rw [hsv, h]
    rfl

/-! ## Cache instructions (42_system_instructions R468) -/

/-- Settles O42: no check of the instruction fails, and its effect is the update of its mode. -/
theorem cacheInstructions : Obligations.cache_instructions := by
  intro s i m index hform r hindex hmode hread hwrite
  obtain ⟨priv, hexec, hpriv⟩ := exec_of_cacheForm hform s
  rw [hpriv hindex, State.execCache_eq hmode, if_pos hread, if_pos hwrite] at hexec
  refine ⟨_, hexec, by simp, fun n w hu => ?_, KeepsMemory.of_mem (by simp) (by simp), ?_⟩
  · rw [State.getA_advance, State.getA_applyUpdate hu]
  · exact ((Kept.applyUpdate r).trans (Kept.advance 4) (State.res_applyUpdate r)).mono (by simp)
      (by simp [Resolved.target]) (by simp)

end Sys2Proof.Machine
end

section
/-! PROOFS. The moves that write core registers (42_system_instructions R452, R454, R457, 46_virtualization R705, R707,
70_reset R950). -/

namespace Sys2Proof.Machine

variable {s t u : State}

/-! ## The course of a write (42_system_instructions R452, R454 to R457) -/

/-- A guest that may write an offset meets no HVCSFR for it. -/
theorem State.hvOwned_write {o : Nat} (hg : s.GuestWrites o) : (s.guest && s.hvOwned o true) = false := by
  cases h : s.guest with
  | false => rfl
  | true =>
    obtain ⟨hh, hd, hl⟩ := hg h
    simp only [State.hvOwned, hh, Bool.true_and, Bool.false_or, Bool.or_eq_false_iff, List.any_eq_false,
      Bool.and_eq_true, beq_iff_eq, not_and, Bool.not_eq_true, if_true, ← Bool.decide_and, decide_eq_false_iff_not]
    exact ⟨not_and.mp hd, hl⟩

/-- The offset checks of a write pass where its registers exist. -/
theorem State.offsetCheck_write {off : BitVec 16} {q : Resource} (hq : s.Selects off q) {pair : Bool}
    (hv : s.cvmn = 0 ∨ hyperOffset (moveOffset off) = false) (hg : s.GuestWrites (moveOffset off))
    (hp : pair = true → off.getLsbD 2 = false ∧ s.GuestWrites (moveOffset off + 4))
    (hx : ∀ y ∈ s.moveRegs off pair, y.isSome = true) : s.offsetCheck off pair true = .go := by
  have hany : (s.moveRegs off pair).any Option.isNone = false := by
    rw [List.any_eq_false]
    exact fun y hy => by simp [Option.isSome_iff_ne_none.mp (hx y hy)]
  have hall : (s.moveRegs off pair).all Option.isNone = false := by
    have hne : s.moveRegs off pair ≠ [] := by cases pair <;> simp [State.moveRegs]
    obtain ⟨y, hy⟩ := List.exists_mem_of_ne_nil _ hne
    rw [List.all_eq_false]
    exact ⟨y, hy, by simp [Option.isSome_iff_ne_none.mp (hx y hy)]⟩
  have howned : (s.guest && (s.hvOwned (moveOffset off) true || (pair && s.hvOwned (moveOffset off + 4) true))) =
      false := by
    have h1 := State.hvOwned_write hg
    cases pair with
    | false => simpa using h1
    | true =>
      rw [Bool.true_and, Bool.and_or_distrib_left, h1, State.hvOwned_write (hp rfl).2]
      rfl
  have hhyper : (s.cvmn != 0 && hyperOffset (moveOffset off)) = false := by
    rcases hv with h | h <;> simp [h]
  unfold State.offsetCheck
  dsimp only
  rw [hall, hany, Bool.false_or, howned, hq.offsetAligned fun h => (hp h).1, Bool.and_false, hhyper]
  rfl

/-- A register and a word that a move may write there: the register is open, and no reserved bit is set. -/
def State.MayPut (s : State) (x : Csfr) (v : Word) : Prop := s.closed x = false ∧ s.reservedHit x v = false

theorem State.writeCheck_go {off : BitVec 16} {writes : List (Option Csfr × Word)}
    (h : ∀ w ∈ writes, ∃ x, w.1 = some x ∧ s.MayPut x w.2) : s.writeCheck off writes = .go := by
  have hclosed : (writes.any fun w => w.1.any s.closed) = false := by
    rw [List.any_eq_false]
    intro w hw
    obtain ⟨x, hx, hopen, -⟩ := h w hw
    simp [hx, hopen]
  have hreserved : (writes.any fun w => w.1.any fun c => !s.closed c && s.reservedHit c w.2) = false := by
    rw [List.any_eq_false]
    intro w hw
    obtain ⟨x, hx, -, hfit⟩ := h w hw
    simp [hx, hfit]
  rw [State.writeCheck, hclosed, hreserved, Bool.and_false]
  rfl

/-- A move without a debug event raises none before it. -/
theorem State.NoMoveEvent.before_eq {off : BitVec 16} (h : s.NoMoveEvent off) :
    s.before (s.crEvent (off &&& 0xFFFC#16)) 1 .crevt = (s, false) := by
  rcases h with h | h
  · rw [h, State.before_unarmed]
  · exact State.before_acted h _ _ _

/-- A move without a debug event raises none after it. -/
theorem State.NoMoveEvent.after_eq {off : BitVec 16} (h : s.NoMoveEvent off) (hevt : t.evt = s.evt) (ereg pc : Word) :
    t.after (s.crEvent (off &&& 0xFFFC#16)) 1 ereg pc = t := by
  rcases h with h | h
  · rw [h, State.after_unarmed]
  · exact State.after_acted (hevt.trans h) _ _ _ _

/-- A write that meets no check and no debug event. -/
theorem State.execMove_write {off : BitVec 16} {pair : Bool} {writes : State → List (Option Csfr × Word)}
    (he : s.NoMoveEvent off) (hs : s.supervisor = true) (hc : s.offsetCheck off pair true = .go)
    (hw : s.writeCheck off (writes s) = .go) {effect : State → State} (hevt : (effect s).evt = s.evt) :
    s.execMove off pair true .go writes effect = .next ((effect s).advance 4) := by
  have hafter := he.after_eq (t := (effect s).advance 4) hevt (s.dbg .crevt) s.pc
  unfold State.execMove
  simp only [he.before_eq, hc, hw, hafter, hs]
  rfl

/-! ## The effect of a write (42 R457, 10_state R49, 60_exceptions R911, 46_virtualization R761, 70_reset R932) -/

/-- The state with the lock of VCON0 of another: who sets it is stated apart. -/
def State.withLock (u s : State) : State := { u with vcon0Written := s.vcon0Written }

theorem Kept.withLock {ds as : List Reg} {cs : List Csfr} (h : Kept s u ds as cs) : Kept s (u.withLock s) ds as cs := by
  have e := h.hidden
  simp only [Prod.mk.injEq] at e
  exact ⟨h.data, h.addr, h.csfr, h.openUpdates, h.undef, by simp [State.withLock, e], h.fixed⟩

/-- Frames after a side effect, whose lock is left aside. -/
theorem Kept.transLock {ds as ds' as' : List Reg} {cs cs' : List Csfr} (h : Kept s (t.withLock s) ds as cs)
    (h' : Kept t u ds' as' cs') (hr : t.res = s.res) : Kept s (u.withLock s) (ds ++ ds') (as ++ as') (cs ++ cs') := by
  have hafter : Kept (t.withLock s) (u.withLock s) ds' as' cs' := by
    have e := h'.hidden
    simp only [Prod.mk.injEq] at e
    exact ⟨h'.data, h'.addr, h'.csfr, h'.openUpdates, h'.undef, by simp [State.withLock, e], h'.fixed⟩
  exact h.trans hafter hr

/-- What the side effect of a write to register `c` of resource `r` keeps. -/
structure SideEffect (s u : State) (r : Resource) (c : Csfr) : Prop where
  pc : u.pc = s.pc
  mem : u.mem = s.mem
  evt : u.evt = s.evt
  res : u.res = s.res
  vm : u.vm = s.vm
  canon : u.canon r c = s.canon r c
  own : u.raw r c = s.raw r c
  undef : u.pswUndef = (s.pswUndef || decide (c = .psw))
  lock : u.vcon0Written = (s.vcon0Written || decide (c = .sys .vcon0))
  kept : Kept s (u.withLock s) [] [] (writtenWith s c)

theorem SideEffect.none {r : Resource} {c : Csfr} (hp : c ≠ .psw) (hv : c ≠ .sys .vcon0) : SideEffect s s r c :=
  ⟨rfl, rfl, rfl, rfl, rfl, rfl, rfl, by simp [hp], by simp [hv], (Kept.refl s).mono (by simp) (by simp) (by simp)⟩

/-- A side effect on a single-copy register other than the one that is written. -/
theorem SideEffect.hwSys {r : Resource} {x y : SysReg} (hne : x ≠ y) (hx : x ≠ .vcon0) (hy : y = .dbgsr ∨ y = .bootcon)
    (hmem : .sys y ∈ writtenWith s (.sys x)) (f : Word → Word) : SideEffect s (s.hw .hv (.sys y) f) r (.sys x) := by
  have hvcon1 : y ≠ .vcon1 := by rcases hy with rfl | rfl <;> simp
  have hkept := Kept.hwSys (s := s) hvcon1 (by rcases hy with rfl | rfl <;> simp) .hv f
  have hcv : (s.hw .hv (.sys y) f).cvmn = s.cvmn := by
    rw [State.cvmn, State.getSys_hw_ne s (Ne.symm hvcon1), State.cvmn]
  refine ⟨rfl, rfl, rfl, by simp [State.res, hcv], by simp [State.vm, hcv], rfl,
    s.getSys_hw_ne hne .hv f, by simp, by simp [hx], hkept.withLock.mono (by simp) (by simp) ?_⟩
  rcases hy with rfl | rfl <;> simpa using hmem

theorem State.csfrWriteEffect_sideEffect (s : State) (r : Resource) (c : Csfr) (v : Word) :
    SideEffect s (s.csfrWriteEffect r c v) r c := by
  unfold State.csfrWriteEffect
  split
  case h_1 n => -- a timer clears its TEXP
    exact ⟨by simp, by simp, by simp, by simp, by simp [State.vm, State.cvmn, State.getSys], rfl,
      State.getRep_hwRep_ne (.inr (by simp)) _, by simp, by simp,
      (Kept.hwRep r .tpsCon fun w => setBit w n.val false).withLock.mono (by simp) (by simp)
        (show _ ⊆ writtenWith s (.rep (.tpsTimer n)) by simp [writtenWith])⟩
  case h_2 => -- VCON0 is locked
    exact ⟨rfl, rfl, rfl, rfl, rfl, rfl, rfl, by simp, by simp, (Kept.refl s).mono (by simp) (by simp) (by simp)⟩
  case h_3 => -- BOOTCON releases DBGSR.HALT
    split
    · exact .hwSys (by simp) (by simp) (.inl rfl) (by simp [writtenWith]) _
    · exact .none (by simp) (by simp)
  case h_4 => -- DBGSR releases BOOTCON.BHALT
    split
    · exact .hwSys (by simp) (by simp) (.inr rfl) (by simp [writtenWith]) _
    · exact .none (by simp) (by simp)
  case h_5 => -- PSW[23:16] become undefined
    exact ⟨rfl, rfl, rfl, rfl, rfl, rfl, rfl, by simp, by simp, fun _ _ => rfl, fun _ _ => rfl,
      fun _ c _ _ => by cases c <;> rfl, fun _ _ _ => rfl, fun h => (h (by simp [writtenWith])).elim, rfl, rfl⟩
  case h_6 hvcon0 _ _ hpsw => exact .none hpsw hvcon0

/-! ## A register written, its update open (70_reset R950) -/

/-- The state with register `c` written and its update open, `old` being the value it had. -/
def State.opened (s : State) (r : Resource) (c : Csfr) (w old : Word) : State :=
  let k := s.canon r c
  { s.hw r c (fun _ => w) with window := ⟨k.home r, k, old⟩ :: s.window }

/-- A write from the hypervisor to a register of another resource reaches what only hardware writes (46 R707). -/
def State.overrides (s : State) (r : Resource) (c : Csfr) : Bool :=
  s.virtOn && s.res == .hv && r != .hv && match c with
    | .rep _ => true
    | .icr => true
    | _ => false

theorem State.overrides_own (s : State) (c : Csfr) : s.overrides s.res c = false := by
  cases h : s.res <;> simp [State.overrides, h]

/-- Writing a register's storage leaves alone what is no register. -/
theorem State.setRaw_fields (s : State) (r : Resource) (c : Csfr) (v : Word) :
    (s.setRaw r c v).window = s.window ∧ (s.setRaw r c v).mem = s.mem ∧ (s.setRaw r c v).evt = s.evt ∧
      (s.setRaw r c v).vcon0Written = s.vcon0Written ∧ (s.setRaw r c v).pswUndef = s.pswUndef := by
  cases c <;> simp [State.setRaw]

/-- A write of an open register: its side effect, then the register. -/
theorem State.moveWrite_opened {c : Csfr} (h : s.closed c = false) (r : Resource) (v : Word) :
    s.moveWrite r c v = (s.csfrWriteEffect r c v).opened r c (s.csfrWritten r c v (s.overrides r c)) (s.raw r c) := by
  have hover : s.moveWrite r c v = { s.csfrWrite r c v (s.overrides r c) with
      window := ⟨(s.canon r c).home r, s.canon r c, s.raw r c⟩ :: (s.csfrWrite r c v (s.overrides r c)).window } := by
    unfold State.moveWrite
    rw [h]
    cases c <;> rfl
  rw [hover, State.csfrWrite, (State.setRaw_fields ..).1, ← (s.csfrWriteEffect_sideEffect r c v).canon]
  rfl

theorem State.raw_opened (s : State) (r q : Resource) (c y : Csfr) (w old : Word) :
    (s.opened r c w old).raw q y = (s.hw r c fun _ => w).raw q y := by
  cases y <;> rfl

/-- The frame of a hardware update is that of a write with its update open. -/
theorem Kept.opened {r : Resource} {c : Csfr} {w : Word} {cs : List Csfr} (h : Kept s (s.hw r c fun _ => w) [] [] cs)
    (hc : s.canon r c ∈ cs) (old : Word) : Kept s (s.opened r c w old) [] [] cs := by
  refine ⟨h.data, h.addr, fun q y hy hga => ?_, fun q y hy => ?_, h.undef, h.hidden, h.fixed⟩
  · rw [State.raw_opened]
    exact h.csfr q y hy hga
  · have hne : s.canon r c ≠ y := fun e => hy (e ▸ hc)
    simp [State.opened, State.stale, hne]

/-- What a move's write leaves alone, the frame apart, and the two marks that its side effect may leave. -/
theorem State.moveWrite_fields {c : Csfr} (h : s.closed c = false) (r : Resource) (v : Word) :
    (s.moveWrite r c v).mem = s.mem ∧ (s.moveWrite r c v).evt = s.evt ∧
      (s.moveWrite r c v).vcon0Written = (s.vcon0Written || decide (c = .sys .vcon0)) ∧
      (s.moveWrite r c v).pswUndef = (s.pswUndef || decide (c = .psw)) := by
  have he := s.csfrWriteEffect_sideEffect r c v
  obtain ⟨-, hmem, hevt, hlock, hundef⟩ :=
    (s.csfrWriteEffect r c v).setRaw_fields r c (s.csfrWritten r c v (s.overrides r c))
  rw [State.moveWrite_opened h]
  exact ⟨hmem.trans he.mem, hevt.trans he.evt, hlock.trans he.lock, hundef.trans he.undef⟩

/-- MTCR to a register that may take the word (R452). -/
theorem State.execMtcr_write {off : BitVec 16} {a : Reg} {q : Resource} {x : Csfr} (hq : s.Selects off q)
    (he : s.NoMoveEvent off) (hs : s.supervisor = true) (hv : s.cvmn = 0 ∨ hyperOffset (moveOffset off) = false)
    (hg : s.GuestWrites (moveOffset off)) (hx : s.moveReg off (moveOffset off) = some x)
    (hput : s.MayPut x (s.getD a)) :
    exec (.mtcr off a) s = .next ((s.moveWrite q x (s.getD a)).advance 4) := by
  obtain ⟨-, hevt, -⟩ := State.moveWrite_fields hput.1 q (s.getD a)
  have hoff : s.offsetCheck off false true = .go :=
    State.offsetCheck_write hq hv hg nofun (by simp [State.moveRegs, hx])
  have hwrite : s.writeCheck off [(s.moveReg off (moveOffset off), s.getD a)] = .go :=
    State.writeCheck_go (by simpa [hx] using hput)
  have hexec := State.execMove_write
    (writes := fun t => [(t.moveReg off (moveOffset off), t.getD a)])
    (effect := fun t => t.movePut (t.moveRes off) (t.moveReg off (moveOffset off)) (t.getD a)) he hs hoff hwrite
    (by rw [hx, hq.moveRes]; exact hevt)
  rw [hx, hq.moveRes] at hexec
  exact hexec

/-! ## The plain registers (42_system_instructions R452, R454, R457, 46_virtualization R707) -/

theorem State.csfrWritten_plain {x : RepReg} (h : plainWrite x = true ∨ statusReg x = true) (r : Resource) (v : Word)
    (o : Bool) : s.csfrWritten r (.rep x) v o = merge
      (if o then (x.layout s.cfg).rw ||| (x.layout s.cfg).rh else (x.layout s.cfg).rw) v (s.getRep r x) := by
  cases x with
  | tpsCon | ccnt | icnt | mcnt | fpuTrapCon | fpuSyncCon => simp [plainWrite, statusReg] at h
  | _ => rfl

theorem State.csfrWriteEffect_plain {x : RepReg} (h : plainWrite x = true ∨ statusReg x = true) (r : Resource)
    (v : Word) : s.csfrWriteEffect r (.rep x) v = s := by
  cases x with
  | tpsTimer => simp [plainWrite, statusReg] at h
  | _ => rfl

/-- A word without reserved bits may be written to an open plain register. -/
theorem State.mayPut_plain {x : RepReg} (h : plainWrite x = true ∨ statusReg x = true) (hc : s.closed (.rep x) = false)
    {v : Word} (hv : (x.layout s.cfg).reserved &&& v = 0) : s.MayPut (.rep x) v := by
  have hhit : s.reservedHit (.rep x) v = ((x.layout s.cfg).reserved &&& v != 0) := by
    cases x with
    | tpsCon => simp [plainWrite, statusReg] at h
    | _ => rfl
  exact ⟨hc, by simp [hhit, hv]⟩

/-- `t` is `s` with register `x` of resource `r` written to `w`, its update open, and nothing else changed. -/
structure RepWritten (s t : State) (r : Resource) (x : RepReg) (w : Word) : Prop where
  pc : t.pc = s.pc
  mem : t.mem = s.mem
  evt : t.evt = s.evt
  res : t.res = s.res
  value : t.getRep r x = w
  others : ∀ q y, q ≠ r ∨ y ≠ x → t.getRep q y = s.getRep q y
  stale : t.stale r (.rep x) = s.getRep r x :: s.stale r (.rep x)
  kept : Kept s t [] [] [.rep x]

theorem State.opened_repWritten (s : State) (r : Resource) (x : RepReg) (w : Word) :
    RepWritten s (s.opened r (.rep x) w (s.getRep r x)) r x w := by
  have hkept := (Kept.hwRep (s := s) r x fun _ => w).opened (by simp [State.canon]) (s.getRep r x)
  have hvalue : ∀ q y, (s.opened r (.rep x) w (s.getRep r x)).getRep q y = (s.hw r (.rep x) fun _ => w).getRep q y :=
    fun _ _ => rfl
  refine ⟨s.hwRep_pc r x fun _ => w, s.hwRep_mem r x fun _ => w, s.hwRep_evt r x fun _ => w,
    State.res_hwRep r x fun _ => w, ?_, fun q y h => ?_, ?_, hkept⟩
  · rw [hvalue, State.getRep_hwRep_same]
  · rw [hvalue, State.getRep_hwRep_ne h]
  · simp [State.opened, State.stale, State.canon, Csfr.home]

/-- A move's write to a plain register. -/
theorem State.moveWrite_plain {x : RepReg} (h : plainWrite x = true ∨ statusReg x = true)
    (hc : s.closed (.rep x) = false) (r : Resource) (v : Word) : RepWritten s (s.moveWrite r (.rep x) v) r x (merge
      (if s.overrides r (.rep x) then (x.layout s.cfg).rw ||| (x.layout s.cfg).rh else (x.layout s.cfg).rw) v
      (s.getRep r x)) := by
  rw [State.moveWrite_opened hc, State.csfrWriteEffect_plain h, State.csfrWritten_plain h]
  exact s.opened_repWritten r x _

/-- A move's write to a plain register of the running resource. -/
theorem State.moveWrite_own {x : RepReg} (h : plainWrite x = true) (hc : s.closed (.rep x) = false) (v : Word) :
    RepWritten s (s.moveWrite s.res (.rep x) v) s.res x (merge (x.layout s.cfg).rw v (s.getRep s.res x)) := by
  have hw := State.moveWrite_plain (.inl h) hc s.res v
  rw [State.overrides_own] at hw
  exact hw

/-- The machine runs the hypervisor's resource in VM0 alone. -/
theorem State.cvmn_of_virtOn (hv : s.virtOn = true) (hr : s.res = .hv) : s.cvmn = 0 := by
  have hvirt : s.cfg.hasVirt = true := (Bool.and_eq_true_iff.mp hv).1
  rw [State.res, if_pos hvirt, resourceOf] at hr
  split at hr
  · assumption
  · split at hr <;> cases hr

theorem State.guestWrites_of_not_guest (h : s.guest = false) (o : Nat) : s.GuestWrites o := fun hg => by
  rw [h] at hg
  cases hg

theorem Kept.closed_eq {ds as : List Reg} {cs : List Csfr} (h : Kept s t ds as cs) (c : Csfr) :
    t.closed c = s.closed c := by
  have e := h.hidden
  simp only [Prod.mk.injEq] at e
  obtain ⟨-, -, -, -, -, -, -, hend, hsafe, -⟩ := e
  rw [State.closed, hend, hsafe]
  rfl

theorem Kept.cfg_eq {ds as : List Reg} {cs : List Csfr} (h : Kept s t ds as cs) : t.cfg = s.cfg :=
  congrArg Prod.fst h.fixed

/-- The end of a move that has written registers `xs`. -/
theorem State.advance_kept {xs : List Csfr} (h : Kept s t [] [] xs) (hpc : t.pc = s.pc) (hmem : t.mem = s.mem)
    (hres : t.res = s.res) : (t.advance 4).pc = s.pc + 4 ∧ KeepsMemory s (t.advance 4) ∧
      Kept s (t.advance 4) [] [] (.pc :: xs) :=
  ⟨congrArg (· + 4) hpc, KeepsMemory.of_mem h.cfg_eq hmem,
    (h.trans (Kept.advance 4) hres).mono (by simp) (by simp) (by simp)⟩

/-- MTDCR to a pair of registers that may take the words (R454). -/
theorem State.execMtdcr_write {off : BitVec 16} {a : Reg} {q : Resource} {x y : Csfr} (hq : s.Selects off q)
    (he : s.NoMoveEvent off) (hs : s.supervisor = true) (hv : s.cvmn = 0 ∨ hyperOffset (moveOffset off) = false)
    (hg : s.GuestWrites (moveOffset off)) (h2 : off.getLsbD 2 = false) (hg' : s.GuestWrites (moveOffset off + 4))
    (ha : a.toNat % 2 = 0) (hx : s.moveReg off (moveOffset off) = some x)
    (hy : s.moveReg off (moveOffset off + 4) = some y) (hputx : s.MayPut x (s.getD a))
    (hputy : s.MayPut y (s.getD (a + 1)))
    (hevt : ((s.moveWrite q x (s.getD a)).moveWrite q y (s.getD (a + 1))).evt = s.evt) :
    exec (.mtdcr off a) s = .next (((s.moveWrite q x (s.getD a)).moveWrite q y (s.getD (a + 1))).advance 4) := by
  have hpair : s.pairCheck a = .go := State.pairCheck_go (by simp [pairEven, ha])
  have hoff : s.offsetCheck off true true = .go :=
    State.offsetCheck_write hq hv hg (fun _ => ⟨h2, hg'⟩) (by simp [State.moveRegs, hx, hy])
  have hwrite : s.writeCheck off [(s.moveReg off (moveOffset off), s.getD a),
      (s.moveReg off (moveOffset off + 4), s.getD (a + 1))] = .go :=
    State.writeCheck_go (by simpa [hx, hy] using ⟨hputx, hputy⟩)
  have hexec := State.execMove_write
    (writes := fun t => [(t.moveReg off (moveOffset off), t.getD a),
      (t.moveReg off (moveOffset off + 4), t.getD (a + 1))])
    (effect := fun t => (t.movePut (t.moveRes off) (t.moveReg off (moveOffset off)) (t.getD a)).movePut (t.moveRes off)
      (t.moveReg off (moveOffset off + 4)) (t.getD (a + 1))) he hs hoff hwrite (by rw [hx, hy, hq.moveRes]; exact hevt)
  rw [hx, hy, hq.moveRes, ← hpair] at hexec
  exact hexec

/-- The offset of a pair has no selector, and its register is the lower one. -/
theorem pairOffset_aligned {off : BitVec 16} (h : off.extractLsb' 0 3 = 0) :
    off.extractLsb' 0 2 = 0 ∧ off.getLsbD 2 = false := by
  have hbit : ∀ k, k < 3 → off.getLsbD k = false := fun k hk => by
    have hk0 : (off.extractLsb' 0 3).getLsbD k = false := by simp [h]
    simpa [BitVec.getLsbD_extractLsb', hk] using hk0
  refine ⟨BitVec.eq_of_getLsbD_eq fun k hk => ?_, hbit 2 (by omega)⟩
  simp [BitVec.getLsbD_extractLsb', hbit k (by omega)]

/-- Settles O39: each write of a plain register leads to `RepWritten`, that of a pair to one after the other. -/
theorem writesOfCoreRegisters : Obligations.writes_of_core_registers := by
  intro s a off x hg he hs hh hc
  refine ⟨fun hx hplain hres h0 => ?_, fun y hx hplain hres ha h3 hg' hy hne hplainy hcy hresy => ?_,
    fun q hvirt hhv hsel hx hform hres => ?_⟩
  · have hoff := moveOffset_aligned h0
    have hw := State.moveWrite_own hplain hc (s.getD a)
    obtain ⟨hpc, hmem, hkept⟩ := State.advance_kept hw.kept hw.pc hw.mem hw.res
    refine ⟨_, State.execMtcr_write (.inl ⟨h0, rfl⟩) he hs (.inr (hoff ▸ hh)) (hoff ▸ hg) (hoff ▸ hx)
      (State.mayPut_plain (.inl hplain) hc hres), hpc, hw.value, fun r hr => hw.others r x (.inl hr), hw.stale, hmem,
      hkept⟩
  · obtain ⟨h0, h2⟩ := pairOffset_aligned h3
    have hoff := moveOffset_aligned h0
    have hw := State.moveWrite_own hplain hc (s.getD a)
    have hwy := State.moveWrite_own hplainy ((hw.kept.closed_eq _).trans hcy) (s.getD (a + 1))
    rw [hw.res, hw.others s.res y (.inr hne.symm), hw.kept.cfg_eq] at hwy
    obtain ⟨hpc, hmem, hkept⟩ := State.advance_kept (hw.kept.trans hwy.kept hw.res) (hwy.pc.trans hw.pc)
      (hwy.mem.trans hw.mem) (hwy.res.trans hw.res)
    exact ⟨_, State.execMtdcr_write (.inl ⟨h0, rfl⟩) he hs (.inr (hoff ▸ hh)) (hoff ▸ hg) h2 (hoff ▸ hg') ha (hoff ▸ hx)
      (hoff ▸ hy) (State.mayPut_plain (.inl hplain) hc hres) (State.mayPut_plain (.inl hplainy) hcy hresy)
      (hwy.evt.trans hw.evt), hpc, (hwy.others s.res x (.inr hne)).trans hw.value, hwy.value, hmem, hkept⟩
  · have hvm := State.cvmn_of_virtOn hvirt hhv
    have hguest : s.guest = false := by simp [State.guest, hvm]
    have hqhv : q ≠ .hv := by rcases hsel with ⟨-, rfl⟩ | ⟨-, rfl⟩ <;> nofun
    have hover : s.overrides q (.rep x) = true := by simp [State.overrides, hvirt, hhv, hqhv]
    have hw := State.moveWrite_plain hform hc q (s.getD a)
    rw [hover, if_pos rfl] at hw
    obtain ⟨hpc, hmem, hkept⟩ := State.advance_kept hw.kept hw.pc hw.mem hw.res
    exact ⟨_, State.execMtcr_write (.inr ⟨hvirt, hhv, hsel⟩) he hs (.inl hvm) (State.guestWrites_of_not_guest hguest _)
      hx (State.mayPut_plain hform hc hres), hpc, hw.value, fun r hr => hw.others r x (.inl hr), hmem, hkept⟩

end Sys2Proof.Machine
end

section
/-! PROOFS. The writes of core registers with a rule of their own (42_system_instructions R457). -/

namespace Sys2Proof.Machine

variable {s t u : State}

/-! ## Words -/

theorem bit_merge (m v old : Word) (k : Nat) : bit (merge m v old) k = if bit m k then bit v k else bit old k := by
  unfold bit merge
  by_cases hk : k < 32
  · cases h : m.getLsbD k <;> simp [h, hk, -BitVec.getLsbD_eq_getElem]
  · simp [BitVec.getLsbD_of_ge _ k (by omega : 32 ≤ k)]

theorem merge_zero (v old : Word) : merge 0 v old = old := by
  rw [word_eq_iff]
  exact fun k _ => by rw [bit_merge, if_neg (by simp [bit])]

theorem merge_ones (v old : Word) : merge 0xFFFFFFFF#32 v old = v := by
  rw [word_eq_iff]
  intro k hk
  have h : bit 0xFFFFFFFF#32 k = true := by
    rw [bit, show 0xFFFFFFFF#32 = BitVec.allOnes 32 from rfl, BitVec.getLsbD_allOnes, decide_eq_true hk]
  rw [bit_merge, if_pos h]

/-- A merge of bit 0 alone, of a word whose bit 0 is 0. -/
theorem merge_one {v : Word} (h : bit v 0 = false) (old : Word) : merge 1 v old = setBit old 0 false := by
  rw [word_eq_iff]
  intro k hk
  rw [bit_merge, bit_setBit _ (by omega)]
  have h1 : bit 1#32 k = decide (k = 0) := by
    unfold bit
    rw [BitVec.getLsbD_one]
    simp
  by_cases hk0 : k = 0
  · subst hk0
    simpa [h1] using h
  · simp [h1, hk0]

/-! ## The frame of a write (70_reset R950) -/

/-- What software does not write, of the registers that are computed, that select the machine, or that hold the pc. -/
def unwritable : List Csfr := [.pc, .cpuId, .coreId, .tccon, .sys .vcon1]

theorem State.setRaw_raw (s : State) (r : Resource) (c : Csfr) : s.setRaw r c (s.raw r c) = s := by
  have hset : ∀ {n : Nat} (v : Vector Word n) (i : Fin n), v.set i (v.get i) = v := fun v i => by
    simp [vector_get]
  cases c with
  | rep x | ga x => cases r <;> simp only [State.setRaw, State.raw, State.getRep, State.setHr, State.hr, hset]
  | sys x | icr => simp only [State.setRaw, State.raw, State.getSys, hset]
  | _ => rfl

/-- An update to the value that a register has touches its open updates alone. -/
theorem Kept.hwSame {r : Resource} {c : Csfr} {f : Word → Word} (h : f (s.raw r c) = s.raw r c) :
    Kept s (s.hw r c f) [] [] [s.canon r c] := by
  have hsame : s.setRaw r c (f (s.raw r c)) = s := by rw [h, State.setRaw_raw]
  have hhw : s.hw r c f = { s with window := (s.hw r c f).window } := by
    simp only [State.hw, hsame]
  have hstale := fun q y (hy : y ∉ [s.canon r c]) => State.stale_hw (s := s) r c f (r := q) (c := y) (by simpa using hy)
  rw [hhw] at hstale ⊢
  exact ⟨fun _ _ => rfl, fun _ _ => rfl, fun _ y _ _ => by cases y <;> rfl, hstale, fun _ => rfl, rfl, rfl⟩

/-- VCON0 shows in CORE_ID and TCCON (10_state R60, R62). -/
theorem Kept.hwVcon0 (r : Resource) (f : Word → Word) :
    Kept s (s.hw r (.sys .vcon0) f) [] [] [.sys .vcon0, .coreId, .tccon] := by
  have hcv : (s.hw r (.sys .vcon0) f).cvmn = s.cvmn := by
    unfold State.cvmn
    rw [State.getSys_hw_ne _ (by simp)]
  have hres : (s.hw r (.sys .vcon0) f).res = s.res := by simp [State.res, hcv]
  have hicr : ∀ q, (s.hw r (.sys .vcon0) f).icrVm q = s.icrVm q := fun q => by
    simp [State.icrVm, hres, State.vm, hcv, State.freeW]
  refine ⟨fun _ _ => rfl, fun n _ => ?_, fun q c hc _ => ?_,
    fun _ c hc => State.stale_hw r (.sys .vcon0) f (fun e => hc (by simp [e, State.canon])), fun _ => rfl, rfl, rfl⟩
  · simp only [State.getA, hres]
    rfl
  · cases c with
    | sys y => exact s.getSys_hw_ne (fun e => hc (by simp [e])) r f
    | icr =>
      simp only [State.raw, hicr]
      exact s.getSys_hw_ne (by simp [icrOf]) r f
    | coreId | tccon => simp at hc
    | _ => rfl

/-- Register `c` of the running resource may come to hold `w`: what software does not write holds what it held, and the
global address registers are another resource's (46_virtualization R706). -/
structure State.Writable (s : State) (c : Csfr) (w : Word) : Prop where
  csfr : ∀ n, c ≠ .ga n
  held : c ∈ unwritable → w = s.raw s.res c

theorem State.canon_mem_writtenWith (s : State) (c : Csfr) : s.canon s.res c ∈ writtenWith s c := by
  cases c with
  | icr => simp [State.canon, writtenWith, State.icrVm_res]
  | rep x => cases x <;> simp [State.canon, writtenWith]
  | sys x => cases x <;> simp [State.canon, writtenWith]
  | _ => simp [State.canon, writtenWith]

theorem State.canon_subset_writtenWith (s : State) (c : Csfr) : [s.canon s.res c] ⊆ writtenWith s c := by
  simpa using s.canon_mem_writtenWith c

/-- The pc and VCON1, which selects the machine, change with no other register. -/
theorem notMem_writtenWith (s : State) {c y : Csfr} (hy : y = .pc ∨ y = .sys .vcon1) (h : c ≠ y) :
    y ∉ writtenWith s c := by
  cases c with
  | rep x => cases x <;> rcases hy with rfl | rfl <;> simp [writtenWith]
  | sys x => cases x <;> rcases hy with rfl | rfl <;> simp [writtenWith] at h ⊢
  | _ => rcases hy with rfl | rfl <;> simp [writtenWith, icrOf] at h ⊢

/-- The frame of a write of a register, its side effect apart. -/
theorem State.Writable.kept {c : Csfr} {w : Word} (h : s.Writable c w) (old : Word) :
    Kept s (s.opened s.res c w old) [] [] (writtenWith s c) := by
  refine Kept.opened ?_ (s.canon_mem_writtenWith c) old
  by_cases hc : c ∈ unwritable
  · exact (Kept.hwSame (f := fun _ => w) (h.held hc)).mono (by simp) (by simp)
      (s.canon_subset_writtenWith c)
  · cases c with
    | rep x =>
      exact (Kept.hwRep _ x _).mono (by simp) (by simp)
        (s.canon_subset_writtenWith (.rep x))
    | sys x =>
      by_cases hx : x = .vcon0
      · subst hx
        exact Kept.hwVcon0 _ _
      · exact (Kept.hwSys (fun e => hc (by simp [e, unwritable])) hx _ _).mono (by simp) (by simp)
          (by cases x <;> simp [writtenWith])
    | icr => exact (Kept.hwCurIcr _).mono (by simp) (by simp) (by simp [writtenWith])
    | pcxi => exact Kept.hwPcxi _ _
    | psw => exact Kept.hwPsw _ _
    | pprs => exact Kept.hwPprs _ _
    | ga n => exact (h.csfr n rfl).elim
    | pc | cpuId | coreId | tccon => simp [unwritable] at hc

/-- A register written holds the word. -/
theorem State.Writable.raw_eq {c : Csfr} {w : Word} (h : s.Writable c w) (old : Word) :
    (s.opened s.res c w old).raw s.res c = w := by
  rw [State.raw_opened]
  cases c with
  | rep x => exact State.getRep_hwRep_same _ x _
  | sys x => exact s.getSys_hw_same _ x _
  | icr => exact State.raw_icr_hwIcr _
  | ga n => exact (h.csfr n rfl).elim
  | cpuId | coreId | tccon => exact (h.held (by simp [unwritable])).symm
  | pc | pcxi | psw | pprs => rfl

/-- Where VCON1 is kept, the same resource runs. -/
theorem Kept.res_eq {ds as : List Reg} {cs : List Csfr} (h : Kept s t ds as cs) (hv : .sys .vcon1 ∉ cs) :
    t.res = s.res := by
  have hcv : t.cvmn = s.cvmn := congrArg (field · 0 3) (h.csfr .hv (.sys .vcon1) hv (by simp))
  rw [State.res, State.res, hcv, h.cfg_eq]

theorem State.Writable.res_eq {c : Csfr} {w : Word} (h : s.Writable c w) (old : Word) :
    (s.opened s.res c w old).res = s.res := by
  by_cases hc : c = .sys .vcon1
  · have hsame : s.setRaw s.res c w = s := by rw [h.held (by simp [hc, unwritable]), State.setRaw_raw]
    have hres : (s.opened s.res c w old).res = (s.setRaw s.res c w).res := rfl
    rw [hres, hsame]
  · exact (h.kept old).res_eq (notMem_writtenWith s (.inr rfl) hc)

/-! ## What a register with a rule of its own holds (42_system_instructions R457) -/

theorem State.csfrWritten_special_rep {x : RepReg} {v w : Word}
    (h : specialWrite s v (s.getRep s.res x) (.rep x) = some w) : s.csfrWritten s.res (.rep x) v false = w := by
  cases x with
  | tpsCon | tpsTimer n | ccnt | icnt | mcnt n | fpuTrapCon | fpuSyncCon =>
    simp only [specialWrite, Option.some.injEq] at h
    subst h
    simp [State.csfrWritten, State.layout, RepReg.layout, State.raw, tpsConWrite, merge_ones, Layout.all, Layout.plain,
      bit_setBit]
  | pstr | dstr | datr | deadd | pietr | piear | dietr | diear | fpuTrapPc | fpuTrapOpc | fpuSrc1L | fpuSrc1U | fpuSrc2L
    | fpuSrc2U | fpuSrc3L | fpuSrc3U | fpuSyncOpc => exact (merge_zero v _).trans (Option.some.inj h)
  | _ => cases h

/-- The tool-control protocol over the fields besides its own two bits (45_debug R679). -/
theorem toolWrite_eq {rw fields : Word} (h : rw &&& ~~~3#32 = fields) (old v : Word) :
    toolWrite rw old v = toolWritten fields v old := by
  subst h
  unfold toolWrite toolWritten
  cases h1 : bit v 1 with
  | true => simp
  | false => cases h0 : bit old 0 <;> simp [h0]

theorem dbgsrWrite_eq (old v : Word) :
    let marks := setBit (setBit old 4 (bit v 4)) 7 (bit v 7)
    dbgsrWrite old v = if bit v 2 && !bit v 1 then setBit marks 1 false
      else if bit v 2 && bit v 1 && bit old 0 then setField (setField (setBit marks 1 true) 8 0#5) 16 0#3
      else marks := by
  unfold dbgsrWrite
  cases bit v 2 <;> cases bit v 1 <;> simp

theorem State.csfrWritten_special_sys {x : SysReg} {v w : Word}
    (h : specialWrite s v (s.getSys x) (.sys x) = some w) : s.csfrWritten s.res (.sys x) v false = w := by
  cases x with
  | bootcon =>
    have hw : (if bit v 0 then s.getSys .bootcon else setBit (s.getSys .bootcon) 0 false) = w := Option.some.inj h
    rw [← hw]
    cases hv : bit v 0 with
    | true => simp [State.csfrWritten, hv, State.raw]
    | false => simpa [State.csfrWritten, State.layout, SysReg.layout, Layout.plain, State.raw, hv] using merge_one hv _
  | dbgsr => exact (dbgsrWrite_eq _ v).trans (Option.some.inj h)
  | dbgcfg | trccfg =>
    refine (toolWrite_eq ?_ _ v).trans (Option.some.inj h)
    cases hv : s.virtOn <;> simp [State.layout, SysReg.layout, Layout.fixed, hv]
  | trcflt => exact (toolWrite_eq (rw := 0xFFFF01B3#32) (by decide) _ v).trans (Option.some.inj h)
  | trclim => exact (toolWrite_eq (rw := 0x000007F3#32) (by decide) _ v).trans (Option.some.inj h)
  | vcon1 | trigAcc | ccon => exact (merge_zero v _).trans (Option.some.inj h)
  | trAdr n => exact (merge_ones v _).trans (Option.some.inj h)
  | _ => exact Option.some.inj h

theorem State.csfrWritten_special {x : Csfr} {v w : Word}
    (h : specialWrite s v (s.raw s.res x) x = some w) : s.csfrWritten s.res x v false = w := by
  cases x with
  | rep x => exact State.csfrWritten_special_rep h
  | sys x => exact State.csfrWritten_special_sys h
  | ga n => cases h
  | cpuId | coreId | tccon => exact (merge_zero v _).trans (Option.some.inj h)
  | _ => exact Option.some.inj h

/-- What software does not write holds what it held. -/
theorem specialWrite_unwritable {x : Csfr} {v old w : Word} (hx : x ∈ unwritable)
    (h : specialWrite s v old x = some w) : w = old := by
  simp only [unwritable, List.mem_cons, List.not_mem_nil, or_false] at hx
  rcases hx with rfl | rfl | rfl | rfl | rfl <;> exact (Option.some.inj h).symm

theorem writtenWith_of_vm (h : t.vm = s.vm) (c : Csfr) : writtenWith t c = writtenWith s c := by
  cases c with
  | icr => simp [writtenWith, h]
  | rep x => cases x <;> rfl
  | sys x => cases x <;> rfl
  | _ => rfl

/-- `t` is `s` with register `x` written to `w`: what it then holds, and the frame, the lock of VCON0 apart. -/
structure SpecialWritten (s t : State) (x : Csfr) (w : Word) : Prop where
  pc : t.pc = s.pc
  res : t.res = s.res
  value : t.raw s.res x = w
  kept : Kept s (t.withLock s) [] [] (writtenWith s x)

/-- A move's write to a register with a rule of its own: its side effect, then the register with its new value. -/
theorem State.moveWrite_special {x : Csfr} {v w : Word} (hc : s.closed x = false)
    (hw : specialWrite s v (s.raw s.res x) x = some w) : SpecialWritten s (s.moveWrite s.res x v) x w := by
  have hmove := State.moveWrite_opened hc s.res v
  rw [State.overrides_own, State.csfrWritten_special hw] at hmove
  have heffect := s.csfrWriteEffect_sideEffect s.res x v
  generalize s.csfrWriteEffect s.res x v = u at heffect hmove
  have hwritable : u.Writable x w := by
    refine ⟨?_, fun hx => ?_⟩
    · rintro n rfl
      cases hw
    · rw [heffect.res, heffect.own]
      exact specialWrite_unwritable hx hw
  have hopened := hwritable.kept (s.raw s.res x)
  have hres := hwritable.res_eq (s.raw s.res x)
  have hraw := hwritable.raw_eq (s.raw s.res x)
  rw [heffect.res, ← hmove] at hopened hraw hres
  rw [writtenWith_of_vm heffect.vm] at hopened
  have hkept : Kept s ((s.moveWrite s.res x v).withLock s) [] [] (writtenWith s x) :=
    (heffect.kept.transLock hopened heffect.res).mono (by simp) (by simp) (by simp)
  refine ⟨?_, hres, hraw, hkept⟩
  by_cases hx : x = .pc
  · subst hx
    exact hraw.trans (specialWrite_unwritable (by simp [unwritable]) hw)
  · exact hkept.csfr s.res .pc (notMem_writtenWith s (.inl rfl) hx) (by simp)

/-- A write of a timer clears its TEXP (60_exceptions R911). -/
theorem State.moveWrite_timer {n : Fin 3} (hc : s.closed (.rep (.tpsTimer n)) = false) (r : Resource) (v : Word) :
    (s.moveWrite r (.rep (.tpsTimer n)) v).getRep r .tpsCon = setBit (s.getRep r .tpsCon) n.val false := by
  rw [State.moveWrite_opened hc]
  refine (State.raw_opened _ r r _ (.rep .tpsCon) _ _).trans ?_
  exact (State.getRep_hwRep_ne (.inr (by simp)) _).trans (State.getRep_hwRep_same r .tpsCon _)

/-- A release of DBGSR.HALT clears BOOTCON.BHALT (70_reset R932). -/
theorem State.moveWrite_dbgsr (hc : s.closed (.sys .dbgsr) = false) (r : Resource) (v : Word) :
    (s.moveWrite r (.sys .dbgsr) v).getSys .bootcon =
      if bit v 2 && !bit v 1 then setBit (s.getSys .bootcon) 0 false else s.getSys .bootcon := by
  rw [State.moveWrite_opened hc]
  refine (State.raw_opened _ r r _ (.sys .bootcon) _ _).trans ((State.getSys_hw_ne _ (by simp) r _).trans ?_)
  simp only [State.csfrWriteEffect]
  split
  · exact State.getSys_hw_same s .hv .bootcon _
  · rfl

/-- A release of BOOTCON.BHALT clears DBGSR.HALT[0] (70_reset R932). -/
theorem State.moveWrite_bootcon (hc : s.closed (.sys .bootcon) = false) (r : Resource) (v : Word) :
    (s.moveWrite r (.sys .bootcon) v).getSys .dbgsr =
      if bit (s.getSys .bootcon) 0 && !bit v 0 then setBit (s.getSys .dbgsr) 1 false else s.getSys .dbgsr := by
  rw [State.moveWrite_opened hc]
  refine (State.raw_opened _ r r _ (.sys .dbgsr) _ _).trans ((State.getSys_hw_ne _ (by simp) r _).trans ?_)
  simp only [State.csfrWriteEffect]
  split
  · exact State.getSys_hw_same s .hv .dbgsr _
  · rfl

/-- Settles O40: the write leads to `SpecialWritten`, its side effects are those of the timers, DBGSR and BOOTCON. -/
theorem writesOfSpecialRegisters : Obligations.writes_of_special_registers := by
  intro s a off x w hg he hs h0 hv hx hc hhit hw
  have hoff := moveOffset_aligned h0
  have hwritten := State.moveWrite_special hc hw
  obtain ⟨hmem, -, hlock, hundef⟩ := State.moveWrite_fields hc s.res (s.getD a)
  have hend : Kept s (((s.moveWrite s.res x (s.getD a)).withLock s).advance 4) [] [] (.pc :: writtenWith s x) :=
    (hwritten.kept.trans (Kept.advance 4) hwritten.res).mono (by simp) (by simp) (by simp)
  refine ⟨_, State.execMtcr_write (.inl ⟨h0, rfl⟩) he hs (hoff ▸ hv) (hoff ▸ hg) (hoff ▸ hx) ⟨hc, hhit⟩,
    congrArg (· + 4) hwritten.pc, fun hpc => ?_, hundef, hlock, ?_, ?_, ?_, KeepsMemory.of_mem hend.cfg_eq hmem, hend⟩
  · have hga : ∀ n, x = .ga n → s.res ≠ (s.moveWrite s.res x (s.getD a)).res := by
      rintro n rfl
      cases hw
    exact ((Kept.advance 4).csfr s.res x (by simpa using hpc) hga).trans hwritten.value
  · rintro n rfl
    exact State.moveWrite_timer hc s.res (s.getD a)
  · rintro rfl
    exact State.moveWrite_dbgsr hc s.res (s.getD a)
  · rintro rfl
    exact State.moveWrite_bootcon hc s.res (s.getD a)

end Sys2Proof.Machine
end

section
/-! PROOFS. The integer instructions that set the status flags, and the extraction of a bit field (43_integer_and_branch
R490 to R498, 47_supplementary_instructions R984, R989, R999). -/

namespace Sys2Proof.Machine

variable {s : State} {i : Instr}

/-! ## The integer status flags (43_integer_and_branch R491 to R494) -/

theorem bit_arithFlags (p : Word) (result : Int) (j : Nat) : bit (arithFlags p result) j =
    if j = 27 then bit p 27 || advances (BitVec.ofInt 32 result) else if j = 28 then advances (BitVec.ofInt 32 result)
    else if j = 29 then bit p 29 || overflows result else if j = 30 then overflows result else bit p j := by
  unfold arithFlags
  rw [bit_setBit _ (by omega), bit_setBit _ (by omega), bit_setBit _ (by omega), bit_setBit _ (by omega)]

/-- PSW after an addition or a subtraction: V, SV, AV and SAV, and C where the instruction writes it. -/
def arithPsw (p : Word) (result : Int) (carry : Option Bool) : Word :=
  carry.elim (arithFlags p result) (setCarry (arithFlags p result))

theorem bit_arithPsw (p : Word) (result : Int) (carry : Option Bool) (j : Nat) : bit (arithPsw p result carry) j =
    if j = 31 then carry.getD (bit p 31) else bit (arithFlags p result) j := by
  cases carry with
  | none =>
    split
    · next hj => subst hj; exact bit_arithFlags p result 31
    · rfl
  | some k => exact bit_setBit _ (by omega) k j

/-- CDC, CDE, GW, IS, IO, PRS, S and the bits up to SAV are none of the integer status flags. -/
theorem field_arithPsw (p : Word) (result : Int) (carry : Option Bool) :
    field (arithPsw p result carry) 0 27 = field p 0 27 := by
  rw [field_eq_iff]
  intro k hk
  rw [bit_arithPsw, bit_arithFlags, if_neg (by omega), if_neg (by omega), if_neg (by omega), if_neg (by omega),
    if_neg (by omega)]

theorem overflows_eq (result : Int) : overflows result = decide (result < -(2 ^ 31) ∨ 2 ^ 31 ≤ result) := by
  rw [overflows, ← Bool.decide_or, decide_eq_decide]
  omega

/-! ## The additions and subtractions (43 R495 to R497) -/

theorem State.execArith_eq (s : State) (len : Nat) (c : Reg) (result : Int) (carry : Option Bool) :
    s.execArith len c result carry =
      .next (((s.modPsw fun p => arithPsw p result carry).setD c (BitVec.ofInt 32 result)).advance len) := by
  cases carry <;> rfl

/-- An addition or a subtraction gives the result of its form and sets the flags by it. -/
theorem exec_of_arithForm {f : ArithForm} (h : arithForm s i = some f) :
    exec i s = s.execArith f.len f.dest f.result f.carry := by
  cases i with
  | add | addC | addx | addxC | addc | addcC | addi | sub | add16C | add16R =>
    cases h
    rfl
  | _ => cases h

/-- Settles O12: each flag is one bit of `arithPsw`. -/
theorem arithmetic : Obligations.arithmetic := by
  unfold Obligations.arithmetic
  intro s i f hform v w av
  have hv : overflows f.result = v := overflows_eq f.result
  have hbit : ∀ j, bit (arithPsw s.psw f.result f.carry) j = if j = 31 then f.carry.getD (bit s.psw 31) else
      if j = 27 then bit s.psw 27 || av else if j = 28 then av else if j = 29 then bit s.psw 29 || v
      else if j = 30 then v else bit s.psw j := fun j => by
    rw [bit_arithPsw, bit_arithFlags, hv]
    rfl
  have hkept := (Kept.modPsw (s := s) fun p => arithPsw p f.result f.carry).trans (Kept.setD_advance f.dest w f.len) rfl
  exact ⟨_, (exec_of_arithForm hform).trans (s.execArith_eq _ _ _ _), State.getD_setD_same _ f.dest w, rfl,
    hbit 31, hbit 30, hbit 29, hbit 28, hbit 27, field_arithPsw s.psw f.result f.carry, rfl, fun _ => rfl,
    hkept.mono (by simp) (by simp) (by simp)⟩

/-! ## EXTR.U (43 R498) -/

theorem toNat_field (w : Word) (lo len : Nat) : (field w lo len).toNat = w.toNat / 2 ^ lo % 2 ^ len := by
  rw [field, BitVec.extractLsb'_toNat, Nat.shiftRight_eq_div_pow]

/-- A mask of `n` ones. -/
theorem toNat_onesMask {n : Nat} (h : n < 32) : ((1#32 <<< n) - 1).toNat = 2 ^ n - 1 := by
  have hlt : 2 ^ n < 2 ^ 32 := Nat.pow_lt_pow_right (by omega) h
  have hone : (1#32 <<< n).toNat = 2 ^ n := by
    rw [BitVec.toNat_shiftLeft, Nat.shiftLeft_eq]
    simpa using Nat.mod_eq_of_lt hlt
  have hle : (1 : Word) ≤ 1#32 <<< n := by
    rw [BitVec.le_def, hone]
    exact Nat.one_le_two_pow
  rw [BitVec.toNat_sub_of_le hle, hone]
  rfl

/-- A field that is not empty and lies in the word is extracted with zeros above it. -/
theorem State.toNat_extract (s : State) (v : Word) {pos width : Nat} (hw : width ≠ 0) (hlt : width < 32)
    (hin : pos + width ≤ 32) : (s.extract v pos width).toNat = v.toNat / 2 ^ pos % 2 ^ width := by
  rw [State.extract, if_neg (by omega), BitVec.toNat_and, toNat_onesMask hlt, Nat.and_two_pow_sub_one_eq_mod,
    BitVec.toNat_ushiftRight, Nat.shiftRight_eq_div_pow]

/-- The course of EXTR.U with its operands read: a width of five bits is less than 32. -/
theorem State.writeD_extract_spec (s : State) (c : Reg) (v : Word) (pos : Nat) (width : BitVec 5) :
    ∃ t, s.writeD 4 c (s.extract v pos width.toNat) = .next t ∧ t.pc = s.pc + 4 ∧ KeepsMemory s t ∧
      Kept s t [c] [] [.pc] ∧ (width.toNat ≠ 0 → pos + width.toNat ≤ 32 →
        (t.getD c).toNat = v.toNat / 2 ^ pos % 2 ^ width.toNat) := by
  obtain ⟨t, he, hc, hpc, hmem, hkept⟩ := s.writeD_spec 4 c (s.extract v pos width.toNat)
  exact ⟨t, he, hpc, hmem, hkept, fun hw hin => hc ▸ s.toNat_extract v hw width.isLt hin⟩

/-- Settles O13: the three forms differ only in where they read position and width. -/
theorem extractUnsigned : Obligations.extract_unsigned := by
  intro s c a d pos width
  have hlow : ∀ w : Word, (field w 0 5).toNat = w.toNat % 32 := fun w => by simp [toNat_field]
  refine ⟨?_, ?_, fun heven => ?_⟩
  · obtain ⟨t, he, hpc, hmem, hkept, hval⟩ := s.writeD_extract_spec c (s.getD a) pos.toNat width
    exact ⟨t, he, hpc, hmem, hkept, fun hw => hval (BitVec.toNat_ne.mp hw)⟩
  · obtain ⟨t, he, hpc, hmem, hkept, hval⟩ := s.writeD_extract_spec c (s.getD a) (field (s.getD d) 0 5).toNat width
    exact ⟨t, he, hpc, hmem, hkept, hlow (s.getD d) ▸ fun hw => hval (BitVec.toNat_ne.mp hw)⟩
  · have hgo : s.pairCheck d = .go := State.pairCheck_go (by simp [pairEven, heven])
    obtain ⟨t, he, hpc, hmem, hkept, hval⟩ :=
      s.writeD_extract_spec c (s.getD a) (field (s.getD d) 0 5).toNat (field (s.getD (d + 1)) 0 5)
    rw [hlow, hlow] at hval
    exact ⟨t, (State.conclude_go hgo _).trans he, hpc, hmem, hkept, hval⟩

end Sys2Proof.Machine
end

section
/-! PROOFS. The branches, the jumps that link and LOOP (43_integer_and_branch R499 to R501,
47_supplementary_instructions R992 to R997). -/

namespace Sys2Proof.Machine

variable {s : State} {i : Instr}

/-! ## The branches but LOOP (43 R499, R501, 47 R992 to R996) -/

/-- A word equals a sign-extended constant where they are the same signed number. -/
theorem beq_sext {n : Nat} (h : n ≤ 32) (w : Word) (k : BitVec n) : (w == sext k) = decide (w.toInt = k.toInt) := by
  have hk : (sext k).toInt = k.toInt := BitVec.toInt_signExtend_of_le h
  exact (decide_eq_decide.mpr (hk ▸ BitVec.toInt_inj)).symm

/-- The displacement of the 16-bit JZ.T, in the reading that the configuration takes (notes/assumptions/49.md). -/
theorem State.relative_disp4 (s : State) (k : BitVec 4) :
    s.relative (if s.cfg.disp4Signed then sext k else zext k) =
      if s.cfg.disp4Signed then relativeTarget s.pc k else s.pc + 2 * k.setWidth 32 := by
  rw [State.relative_eq]
  split
  · simp [relativeTarget, sext]
  · simp [relativeTarget, zext]

/-- Where a branch goes on: at its target if it is taken, else past itself. -/
def State.branchTo (s : State) (len : Nat) (taken : Bool) (target : Word) : State :=
  if taken then s.jump target else s.advance len

theorem State.execBranch_eq (s : State) (len : Nat) (taken : Bool) {n : Nat} (disp : BitVec n) :
    s.execBranch len taken disp = .next (s.branchTo len taken (relativeTarget s.pc disp)) := by
  rw [State.execBranch, State.relative_eq]
  rfl

/-- A branch goes where its form says. -/
theorem exec_of_branchForm {len : Nat} {taken : Bool} {target : Word} (h : branchForm s i = some (len, taken, target)) :
    exec i s = .next (s.branchTo len taken target) := by
  cases i with
  | jzT | jnzT | j =>
    cases h
    exact s.execBranch_eq _ _ _
  | jzT16 n k =>
    cases h
    rw [← State.relative_disp4]
    rfl
  | jeq a b k =>
    cases h
    exact s.execBranch_eq 4 _ k
  | jne a b k =>
    cases h
    rw [decide_not]
    exact s.execBranch_eq 4 _ k
  | jeqC a c k =>
    cases h
    rw [← beq_sext (by omega)]
    exact s.execBranch_eq 4 _ k
  | jneC a c k =>
    cases h
    rw [decide_not, ← beq_sext (by omega)]
    exact s.execBranch_eq 4 _ k
  | ja | ji | jri =>
    cases h
    rfl
  | _ => cases h

/-- Settles O16: a branch that is taken writes the pc, one that is not moves it on. -/
theorem branches : Obligations.branches := by
  intro s i len taken target hform
  refine ⟨s.branchTo len taken target, exec_of_branchForm hform, ?_⟩
  cases taken with
  | true => exact ⟨rfl, fun _ => rfl, Kept.jump target⟩
  | false => exact ⟨rfl, fun _ => rfl, Kept.advance len⟩

/-! ## The jumps that link and LOOP (43 R500, 47 R993, R994, R997) -/

/-- A jump that links goes to the target of its form, read before A[11] is written. -/
theorem exec_of_linkForm {target : Word} (h : linkForm s i = some target) : exec i s = s.execLink 4 target := by
  cases i with
  | jl k =>
    cases h
    exact congrArg (s.execLink 4) (s.relative_eq k)
  | jla | jli =>
    cases h
    rfl
  | _ => cases h

theorem Kept.setA_jump (n : Reg) (v target : Word) : Kept s ((s.setA n v).jump target) [] [n] [.pc] :=
  (Kept.setA n v).trans (Kept.jump target) (by simp)

/-- What is said of an instruction that writes an address register and goes on at a target. -/
theorem State.setA_jump_of {o : Host.Outcome State Fault Refusal} {n : Reg} {v target : Word}
    (he : o = .next ((s.setA n v).jump target)) :
    ∃ t, o = .next t ∧ t.getA n = v ∧ t.pc = target ∧ KeepsMemory s t ∧ Kept s t [] [n] [.pc] :=
  ⟨_, he, s.getA_setA_same n v, rfl, KeepsMemory.of_mem (by simp) (by simp), Kept.setA_jump n v target⟩

/-- LOOP goes past itself where the counter was 0. -/
theorem exec_loop_eq {b : Reg} (hgo : s.globalCheck b = .go) (disp : BitVec 15) : exec (.loop b disp) s =
    .next ((s.setA b (s.getA b - 1)).jump (if s.getA b = 0 then s.pc + 4 else relativeTarget s.pc disp)) := by
  refine (State.conclude_go hgo _).trans ?_
  rw [State.relative_eq]
  by_cases h : s.getA b = 0
  · simp [h, State.advance, State.jump]
  · rw [if_pos (by simpa using h), if_neg h]

/-- Settles O17: a jump that links and LOOP each write one address register and the pc. -/
theorem linksAndLoops : Obligations.links_and_loops := by
  refine fun s => ⟨fun i target hform => ?_, fun b disp hwrite => ?_⟩
  · obtain ⟨t, he, hlink, hpc, hmem, hkept⟩ := State.setA_jump_of (exec_of_linkForm hform)
    exact ⟨t, he, hpc, hlink, hmem, hkept⟩
  · exact State.setA_jump_of (exec_loop_eq (State.globalCheck_go hwrite b (by simp)) disp)

end Sys2Proof.Machine
end

section
/-! PROOFS. The courses of the floating-point instructions (44_fpu R551, R561 to R563, R586, R590 to R600): what an instruction
completes, what its traps capture, and the frames. -/

namespace Sys2Proof.Machine

variable {s t u : State} {i : Instr}

/-! ## The course of an instruction (44_fpu R561) -/

/-- The result `v` written to its destination, the least significant word first. -/
def Place.fill (v : Nat) : Place → State → State
  | .d n, t => t.setD n (BitVec.ofNat 32 v)
  | .e n, t => t.setE n (BitVec.ofNat 64 v)
  | .q n, t => t.setQ n (BitVec.ofNat 128 v)
  | .a _, t => t
  | .p _, t => t

/-- `op` is what a trap captures of an instruction of form `f`: its unit, its destination, its opcode, its operands. -/
structure FpuOp.Captures (op : FpuOp) (f : FpuForm) (c : CaptureForm) : Prop where
  dp : op.dp = f.dp
  dreg : op.dreg = some c.dest
  opc : op.opc = c.opcode
  sources : [op.src1, op.src2, op.src3] = c.sources

/-- Even pair specifiers pass their checks. -/
theorem State.pairChecks_go (s : State) {rs : List Reg} (h : rs.all pairEven = true) :
    Verdict.first (rs.map s.pairCheck) = .go := by
  rw [Verdict.first_eq_go]
  intro v hv
  obtain ⟨r, hr, rfl⟩ := List.mem_map.mp hv
  exact State.pairCheck_go (List.all_eq_true.mp h r hr)

theorem State.execDp_go {c : Reg} {pairs : List Reg} (h : (c :: pairs).all pairEven = true)
    (src1 src2 src3 : Option Nat) (r : FpResult) : s.execDp c pairs src1 src2 src3 r =
      s.execFpu ⟨true, some c, none, src1, src2, src3⟩ .go r (fun p => fpuFlags p r) ((Place.e c).fill r.value) := by
  rw [State.execDp, s.pairChecks_go h]
  rfl

theorem State.execDpWord_go {c : Reg} {pairs : List Reg} (h : pairs.all pairEven = true) (src1 src2 : Option Nat)
    (r : FpResult) : s.execDpWord c pairs src1 src2 r =
      s.execFpu ⟨true, some c, none, src1, src2, none⟩ .go r (fun p => fpuFlags p r) ((Place.d c).fill r.value) := by
  rw [State.execDpWord, s.pairChecks_go h]
  rfl

/-- A floating-point instruction has its captures, and takes the course of R561 with the result of its form where it is
well formed. -/
theorem exec_of_fpuForm {f : FpuForm} (hf : fpuForm s i = some f) : ∃ (c : CaptureForm) (op : FpuOp),
    captureForm s i = some c ∧ op.Captures f c ∧ (i.wellFormed = true → exec i s =
      s.execFpu op .go f.result (fun p => fpuFlags p f.result) (f.dest.fill f.result.value)) := by
  cases i with
  | addF | subF | maddF | msubF | cmpF | mulF | divF | ftoi | ftoin | ftoiz | ftou | ftouz | ftoq31 | ftoq31z | itof | utof
    | q31tof | qseedF | absF | negF | minF | maxF | hptof | ftohp =>
    cases hf
    exact ⟨_, ⟨false, _, _, _, _, _⟩, rfl, ⟨rfl, rfl, rfl, rfl⟩, fun _ => rfl⟩
  | addDf | subDf | mulDf | divDf | maddDf | msubDf | qseedDf | dftol | dftolz | dftoul | dftoulz | ltodf =>
    cases hf
    exact ⟨_, ⟨true, _, _, _, _, _⟩, rfl, ⟨rfl, rfl, rfl, rfl⟩, fun hw => State.execDp_go (Instr.pairs_even hw) ..⟩
  | cmpDf | dftoi | dftoin | dftoiz | dftou | dftouz =>
    cases hf
    exact ⟨_, ⟨true, _, _, _, _, _⟩, rfl, ⟨rfl, rfl, rfl, rfl⟩, fun hw => State.execDpWord_go (Instr.pairs_even hw) ..⟩
  | _ => cases hf

section Course
variable {op : FpuOp} {r : FpResult} {flags : Word → Word} {put : State → State}

/-- UOPC of a core without the unit (R520). -/
theorem State.execFpu_absent (hp : s.fpuPresent op.dp = false) :
    s.execFpu op .go r flags put = .next (s.takeTrap 2 2 s.pc) := by
  simp [State.execFpu, unitCheck, hp, Verdict.first, Verdict.need, State.conclude]

theorem State.execFpu_sync (hp : s.fpuPresent op.dp = true) (hs : s.fpuSyncDue r = true) :
    s.execFpu op .go r flags put = .next ((s.captureSync op r s.rm).takeTrap 2 6 s.pc) := by
  simp [State.execFpu, unitCheck, hp, hs, Verdict.first, Verdict.need]

theorem State.execFpu_async (hp : s.fpuPresent op.dp = true) (hs : s.fpuSyncDue r = false)
    (ha : s.fpuAsyncDue r = true) : s.execFpu op .go r flags put =
      .next ((((put s).modPsw flags).captureAsync op r s.rm).advance 4) := by
  simp [State.execFpu, unitCheck, hp, hs, ha, Verdict.first, Verdict.need]

theorem State.execFpu_plain (hp : s.fpuPresent op.dp = true) (hs : s.fpuSyncDue r = false)
    (ha : s.fpuAsyncDue r = false) : s.execFpu op .go r flags put = .next (((put s).modPsw flags).advance 4) := by
  simp [State.execFpu, unitCheck, hp, hs, ha, Verdict.first, Verdict.need]

end Course

/-! ## The destination -/

theorem Place.getD_fill (v : Nat) (p : Place) (t : State) :
    ∀ k n, p.dataRegs[k]? = some n → (p.fill v t).getD n = BitVec.ofNat 32 (v / 2 ^ (32 * k)) := by
  cases p with
  | d n => simp [Place.dataRegs, Place.fill, forall_getElem?_cons]
  | e n =>
    simp [Place.dataRegs, Place.fill, forall_getElem?_cons, State.setE, State.getD_setD, extractLsb'_ofNat v 0,
      extractLsb'_ofNat v 1]
  | q n =>
    simp [Place.dataRegs, Place.fill, forall_getElem?_cons, State.setQ, State.getD_setD, extractLsb'_ofNat v 0,
      extractLsb'_ofNat v 1, extractLsb'_ofNat v 2, extractLsb'_ofNat v 3]
  | a n | p n => simp [Place.dataRegs]

theorem Place.mem_fill (v : Nat) (p : Place) (t : State) : (p.fill v t).mem = t.mem := by cases p <;> rfl

theorem Kept.fill (v : Nat) (p : Place) (t : State) : Kept t (p.fill v t) p.dataRegs [] [] := by
  cases p with
  | d n => exact Kept.setD n _
  | e n => exact (Kept.setD n _).trans (Kept.setD (n + 1) _) rfl
  | q n =>
    exact (((Kept.setD n _).trans (Kept.setD (n + 1) _) rfl).trans (Kept.setD (n + 2) _) rfl).trans
      (Kept.setD (n + 3) _) rfl
  | a n | p n => exact Kept.refl t

/-! ## The flags in PSW (R551, R586) -/

theorem fpuFlags_set (p : Word) (r : FpResult) : FpuFlagsSet p (fpuFlags p r) r := by
  have hbit : ∀ j, bit (fpuFlags p r) j = if j = 26 then bit p 26 || r.fx else if j = 27 then bit p 27 || r.fu
      else if j = 28 then bit p 28 || r.fz else if j = 29 then bit p 29 || r.fv else if j = 30 then bit p 30 || r.fi
      else if j = 31 then r.fi || r.fv || r.fz || r.fu || r.fx else bit p j := fun j => by
    unfold fpuFlags
    rw [bit_setBit _ (by omega), bit_setBit _ (by omega), bit_setBit _ (by omega), bit_setBit _ (by omega),
      bit_setBit _ (by omega), bit_setBit _ (by omega)]
  refine ⟨hbit 31, hbit 30, hbit 29, hbit 28, hbit 27, hbit 26, field_eq_iff.mpr fun k hk => ?_⟩
  rw [hbit, if_neg (by omega), if_neg (by omega), if_neg (by omega), if_neg (by omega), if_neg (by omega),
    if_neg (by omega)]

/-- PSW after UPDFL with the operand `v`. -/
def updflPsw (v p : Word) : Word :=
  setField p 24 ((field p 24 8 &&& ~~~field v 8 8) ||| (field v 0 8 &&& field v 8 8))

theorem updflPsw_updated (v p : Word) : FlagsUpdated v p (updflPsw v p) := by
  refine ⟨fun k hk => ?_, field_setField_ne p (by omega) _ (by omega)⟩
  rw [updflPsw, bit_setField p 24 (by omega), if_pos (by omega), Nat.add_sub_cancel_left]
  simp only [BitVec.getLsbD_or, BitVec.getLsbD_and, BitVec.getLsbD_not, getLsbD_field, hk, decide_true, Bool.true_and,
    Nat.zero_add]
  cases bit v (8 + k) <;> simp

theorem exec_updfl (a : Reg) (s : State) : exec (.updfl a) s =
    s.execFpu ⟨false, none, some (true, 0x0C), some (s.getD a).toNat, none, none⟩ .go (raisedFlags (s.getD a))
      (updflPsw (s.getD a)) id := by
  have hset : ∀ k, k < 8 → (field (s.getD a) 0 8 &&& field (s.getD a) 8 8).getLsbD k =
      (bit (s.getD a) k && bit (s.getD a) (8 + k)) := fun k hk => by
    rw [BitVec.getLsbD_and, getLsbD_field, getLsbD_field]
    simp [hk]
  change execUpdfl a s = _
  simp only [execUpdfl, hset 6, hset 5, hset 4, hset 3, hset 2, Nat.reduceLT, Nat.reduceAdd]
  rfl

/-! ## What completes -/

/-- The destination and PSW written: the result, the flags, nothing else. -/
theorem State.fill_modPsw_spec (s : State) (p : Place) (r : FpResult) :
    let u := (p.fill r.value s).modPsw fun w => fpuFlags w r
    u.pc = s.pc ∧ (∀ k n, p.dataRegs[k]? = some n → u.getD n = BitVec.ofNat 32 (r.value / 2 ^ (32 * k))) ∧
      FpuFlagsSet s.psw u.psw r ∧ u.pswUndef = s.pswUndef ∧ u.mem = s.mem ∧ Kept s u p.dataRegs [] [.psw] := by
  intro u
  have hkept := Kept.fill r.value p s
  have hpsw : (p.fill r.value s).psw = s.psw := hkept.csfr .hv .psw (by simp) (by simp)
  exact ⟨hkept.csfr .hv .pc (by simp) (by simp), p.getD_fill r.value s, hpsw ▸ fpuFlags_set _ r, hkept.undef (by simp),
    p.mem_fill r.value s,
    (hkept.trans (Kept.modPsw _) (hkept.res_eq (by simp))).mono (by simp) (by simp) (by simp)⟩

theorem Kept.psw_advance {ds as : List Reg} (h : Kept s t ds as [.psw]) (len : Nat) :
    Kept s (t.advance len) ds as [.pc, .psw] :=
  (h.trans (Kept.advance len) (h.res_eq (by simp))).mono (by simp) (by simp) (by simp)

/-- Settles O54: the course of R561 without a trap, then the destination, the flags and the frame. -/
theorem floatingPoint : Obligations.floating_point := by
  refine fun s => ⟨fun i f hf hw hp hs ha => ?_, fun a hp => ?_⟩
  · obtain ⟨c, op, -, hop, he⟩ := exec_of_fpuForm hf
    obtain ⟨hpc, hval, hpsw, hundef, hmem, hkept⟩ := s.fill_modPsw_spec f.dest f.result
    exact ⟨_, (he hw).trans (State.execFpu_plain (hop.dp ▸ hp) hs ha), congrArg (· + 4) hpc, hval, hpsw, hundef,
      KeepsMemory.of_mem hkept.cfg_eq hmem, hkept.psw_advance 4⟩
  · intro v due hs ha
    exact ⟨_, (exec_updfl a s).trans (State.execFpu_plain hp hs ha), rfl, updflPsw_updated v s.psw, rfl,
      fun _ => rfl, (Kept.modPsw _).psw_advance 4⟩

/-! ## The opcode and the destination that a trap captures (R592, R600) -/

theorem State.opcWord_names (s : State) (op : FpuOp) : NamesOpcode (s.opcWord op) op.dp op.opc := by
  obtain ⟨dp, dreg, opc, src1, src2, src3⟩ := op
  cases opc with
  | none => simp [NamesOpcode, State.opcWord, bit_setField, bit_setBit]
  | some x =>
    obtain ⟨rr, opc⟩ := x
    cases rr with
    | true => simp [NamesOpcode, State.opcWord, bit_setField, bit_setBit, field_setField_same]
    | false =>
      have hlow : ∀ w : Word, field (setField w 0 opc) 0 4 = opc.extractLsb' 0 4 := fun w => by
        apply BitVec.eq_of_getLsbD_eq
        intro k hk
        rw [getLsbD_field, bit_setField w 0 (by omega), if_pos (by omega), BitVec.getLsbD_extractLsb']
        simp [hk]
      simp [NamesOpcode, State.opcWord, bit_setField, bit_setBit, field_setField_ne, hlow]

theorem State.opcWord_dest (s : State) {op : FpuOp} {r : Reg} (h : op.dreg = some r) :
    field (s.opcWord op) 16 4 = r := by
  have hd : ∀ w : Word, field (setField w 16 (op.dreg.getD (field (s.freeW 60) 16 4))) 16 4 = r := fun w => by
    rw [field_setField_same w (by omega), h, Option.getD_some]
  unfold State.opcWord
  split
  · rw [field_setField_ne _ (by omega) _ (by omega), field_setBit_ne _ (by omega) _ (by omega), hd]
  · rw [field_setField_ne _ (by omega) _ (by omega), field_setField_ne _ (by omega) _ (by omega),
      field_setBit_ne _ (by omega) _ (by omega), hd]
  · rw [field_setField_ne _ (by omega) _ (by omega), hd]

/-! ## The registers of a capture (R562, R563, R593 to R598) -/

theorem State.getRep_hwCur (s : State) (x y : RepReg) (f : Word → Word) (q : Resource) :
    (s.hwCur (.rep x) f).getRep q y = if q = s.res ∧ y = x then f (s.getRep q y) else s.getRep q y := by
  split
  next h =>
    obtain ⟨rfl, rfl⟩ := h
    exact State.getRep_hwRep_same s.res y f
  next h => exact State.getRep_hwRep_ne (by tauto) f

theorem State.res_hwCur (s : State) (x : RepReg) (f : Word → Word) : (s.hwCur (.rep x) f).res = s.res :=
  State.res_hwRep s.res x f

theorem State.res_captureSrc (s : State) (l u : RepReg) (use : Nat) (src : Option Nat) :
    (s.captureSrc l u use src).res = s.res := by
  rw [State.captureSrc, State.res_hwCur, State.res_hwCur]

theorem State.getRep_captureSrc_ne (s : State) {l u y : RepReg} (hl : y ≠ l) (hu : y ≠ u) (use : Nat)
    (src : Option Nat) (q : Resource) : (s.captureSrc l u use src).getRep q y = s.getRep q y := by
  simp [State.captureSrc, State.getRep_hwCur, hl, hu]

theorem State.getRep_captureSrc_other (s : State) {q : Resource} (hq : q ≠ s.res) (l u y : RepReg) (use : Nat)
    (src : Option Nat) : (s.captureSrc l u use src).getRep q y = s.getRep q y := by
  simp [State.captureSrc, State.getRep_hwCur, State.res_hwCur, hq]

/-- An operand in its two registers. -/
theorem State.getRep_captureSrc_some (s : State) {l u : RepReg} (hne : l ≠ u) (use v : Nat) :
    (s.captureSrc l u use (some v)).getRep s.res l = BitVec.ofNat 32 v ∧
      (s.captureSrc l u use (some v)).getRep s.res u = BitVec.ofNat 32 (v / 2 ^ 32) := by
  simp [State.captureSrc, State.getRep_hwCur, State.res_hwCur, hne, Nat.shiftRight_eq_div_pow]

theorem Kept.captureSrc (s : State) (l u : RepReg) (use : Nat) (src : Option Nat) :
    Kept s (s.captureSrc l u use src) [] [] [.rep l, .rep u] :=
  (Kept.hwCurRep l _).trans (Kept.hwCurRep u _) (s.res_hwCur l _)

/-! ## The synchronous capture (R563) -/

theorem State.captureSync_opcode (s : State) (op : FpuOp) (r : FpResult) (rm : BitVec 2) :
    (s.captureSync op r rm).getRep s.res .fpuSyncOpc = s.opcWord op := by
  simp [State.captureSync, State.getRep_hwCur, State.res_hwCur]

theorem State.captureSync_spec (s : State) (op : FpuOp) (r : FpResult) :
    CapturedSync s (s.captureSync op r s.rm) op.dp op.opc r := by
  have hcon : (s.captureSync op r s.rm).getRep s.res .fpuSyncCon = setBit (setField (setBit (setBit
      (s.getRep s.res .fpuSyncCon) 30 r.fi) 28 r.fz) 8 s.rm) 0 true := by
    simp [State.captureSync, State.getRep_hwCur]
  have hopc := s.captureSync_opcode op r s.rm
  refine ⟨?_, ?_, ?_, fun k hk => ?_, hopc ▸ s.opcWord_names op, fun q hq x => ?_, ?_, ?_⟩
  · simp [hcon, bit_setBit, bit_setField]
  · rw [hcon, field_setBit_ne _ (by omega) _ (by omega), field_setField_same _ (by omega)]
  · simp [hcon, bit_setBit]
  · simp only [List.mem_cons, List.not_mem_nil, or_false] at hk
    rw [hcon, bit_setBit _ (by omega), if_neg (by omega), bit_setField_ne _ (by omega) _ (by omega),
      bit_setBit _ (by omega), if_neg (by omega), bit_setBit _ (by omega), if_neg (by omega)]
  · simp [State.captureSync, State.getRep_hwCur, State.res_hwCur, hq]
  · exact KeepsMemory.of_mem (by simp [State.captureSync, State.hwCur]) (by simp [State.captureSync, State.hwCur])
  · exact (Kept.hwCurRep _ _).trans (Kept.hwCurRep _ _) (s.res_hwCur _ _)

/-! ## The asynchronous capture (R562) -/

/-- The registers of the asynchronous capture, without its request of CAE. -/
def State.captureRegs (s : State) (op : FpuOp) (r : FpResult) (rm : BitVec 2) : State :=
  (((((s.hwCur (.rep .fpuTrapCon) fun w =>
    setBit (setField (setBit (setBit (setBit w 29 r.fv) 27 r.fu) 26 r.fx) 8 rm) 0 true).hwCur (.rep .fpuTrapPc)
      fun _ => even s.pc).hwCur (.rep .fpuTrapOpc) fun _ => s.opcWord op).captureSrc .fpuSrc1L .fpuSrc1U 62
        op.src1).captureSrc .fpuSrc2L .fpuSrc2U 64 op.src2).captureSrc .fpuSrc3L .fpuSrc3U 66 op.src3

theorem State.captureAsync_eq (s : State) (op : FpuOp) (r : FpResult) (rm : BitVec 2) :
    s.captureAsync op r rm = { s.captureRegs op r rm with pendCae := true } := by
  simp [State.captureAsync, State.captureRegs, State.opcWord, State.freeW, State.hwCur]

theorem Kept.captureRegs (s : State) (op : FpuOp) (r : FpResult) (rm : BitVec 2) :
    Kept s (s.captureRegs op r rm) [] [] asyncCapture := by
  have hcon := Kept.hwCurRep (s := s) .fpuTrapCon fun w =>
    setBit (setField (setBit (setBit (setBit w 29 r.fv) 27 r.fu) 26 r.fx) 8 rm) 0 true
  have hopc := (hcon.trans (Kept.hwCurRep .fpuTrapPc fun _ => even s.pc) (s.res_hwCur _ _)).trans
    (Kept.hwCurRep .fpuTrapOpc fun _ => s.opcWord op) (by simp [State.res_hwCur])
  have hsrc := ((hopc.trans (Kept.captureSrc _ .fpuSrc1L .fpuSrc1U 62 op.src1) (by simp [State.res_hwCur])).trans
    (Kept.captureSrc _ .fpuSrc2L .fpuSrc2U 64 op.src2) (by simp [State.res_hwCur, State.res_captureSrc])).trans
    (Kept.captureSrc _ .fpuSrc3L .fpuSrc3U 66 op.src3) (by simp [State.res_hwCur, State.res_captureSrc])
  exact hsrc.mono (by simp) (by simp) (by simp [asyncCapture])

theorem State.captureRegs_opcode (s : State) (op : FpuOp) (r : FpResult) (rm : BitVec 2) :
    (s.captureRegs op r rm).getRep s.res .fpuTrapOpc = s.opcWord op := by
  simp [State.captureRegs, State.getRep_captureSrc_ne, State.getRep_hwCur, State.res_hwCur]

/-- FPU_TRAP_CON takes the flags, the rounding mode and TST. -/
theorem State.captureRegs_con (s : State) (op : FpuOp) (r : FpResult) (rm : BitVec 2) :
    (s.captureRegs op r rm).getRep s.res .fpuTrapCon = setBit (setField (setBit (setBit (setBit
      (s.getRep s.res .fpuTrapCon) 29 r.fv) 27 r.fu) 26 r.fx) 8 rm) 0 true := by
  simp [State.captureRegs, State.getRep_captureSrc_ne, State.getRep_hwCur]

theorem State.captureRegs_pc (s : State) (op : FpuOp) (r : FpResult) (rm : BitVec 2) :
    (s.captureRegs op r rm).getRep s.res .fpuTrapPc = even s.pc := by
  simp [State.captureRegs, State.getRep_captureSrc_ne, State.getRep_hwCur, State.res_hwCur]

theorem State.captureRegs_other (s : State) (op : FpuOp) (r : FpResult) (rm : BitVec 2) {q : Resource} (hq : q ≠ s.res)
    (y : RepReg) : (s.captureRegs op r rm).getRep q y = s.getRep q y := by
  simp [State.captureRegs, State.getRep_captureSrc_other, State.getRep_hwCur, State.res_hwCur, State.res_captureSrc, hq]

/-- Each operand is in the two registers of its place. -/
theorem State.captureRegs_source (s : State) (op : FpuOp) (r : FpResult) (rm : BitVec 2) {k v : Nat}
    {regs : RepReg × RepReg} (hv : [op.src1, op.src2, op.src3][k]? = some (some v)) (hr : sourceRegs[k]? = some regs) :
    (s.captureRegs op r rm).getRep s.res regs.1 = BitVec.ofNat 32 v ∧
      (s.captureRegs op r rm).getRep s.res regs.2 = BitVec.ofNat 32 (v / 2 ^ 32) := by
  have hat := fun (t : State) (hres : t.res = s.res) (l u : RepReg) (hne : l ≠ u) (use : Nat) =>
    hres ▸ t.getRep_captureSrc_some hne use v
  match k with
  | 0 =>
    cases hr
    rw [State.captureRegs, show op.src1 = some v by simpa using hv]
    simpa [State.getRep_captureSrc_ne] using hat _ (by simp [State.res_hwCur]) .fpuSrc1L .fpuSrc1U (by simp) 62
  | 1 =>
    cases hr
    rw [State.captureRegs, show op.src2 = some v by simpa using hv]
    simpa [State.getRep_captureSrc_ne] using
      hat _ (by simp [State.res_hwCur, State.res_captureSrc]) .fpuSrc2L .fpuSrc2U (by simp) 64
  | 2 =>
    cases hr
    rw [State.captureRegs, show op.src3 = some v by simpa using hv]
    exact hat _ (by simp [State.res_hwCur, State.res_captureSrc]) .fpuSrc3L .fpuSrc3U (by simp) 66
  | k + 3 => simp [sourceRegs] at hr

/-- The state after the capture of an instruction that has written its destination and PSW. -/
theorem Kept.capturedAsync {ds : List Reg} (h : Kept s u ds [] [.psw]) (op : FpuOp) (r : FpResult) :
    CapturedAsync s ((u.captureAsync op r s.rm).advance 4) op.dp op.opc [op.src1, op.src2, op.src3] r := by
  have hres : u.res = s.res := h.res_eq (by simp)
  have hrep : ∀ q x, u.getRep q x = s.getRep q x := fun q x => h.csfr q (.rep x) (by simp) (by simp)
  have hpc : u.pc = s.pc := h.csfr .hv .pc (by simp) (by simp)
  have hget : ∀ q x, ((u.captureAsync op r s.rm).advance 4).getRep q x = (u.captureRegs op r s.rm).getRep q x :=
    fun q x => by rw [State.captureAsync_eq]; rfl
  have hcon := u.captureRegs_con op r s.rm
  have hopc := u.captureRegs_opcode op r s.rm
  have hcpc := u.captureRegs_pc op r s.rm
  have hsrc := fun k v regs => u.captureRegs_source op r s.rm (k := k) (v := v) (regs := regs)
  rw [hres] at hcon hopc hcpc hsrc
  refine ⟨?_, ?_, ?_, fun k hk => ?_, ?_, ?_, fun k v regs hv hr => ?_, fun q hq x => ?_, ?_⟩
  · simp [hget, hcon, bit_setBit, bit_setField]
  · rw [hget, hcon, field_setBit_ne _ (by omega) _ (by omega), field_setField_same _ (by omega)]
  · simp [hget, hcon, bit_setBit]
  · simp only [List.mem_cons, List.not_mem_nil, or_false] at hk
    rw [hget, hcon, hrep, bit_setBit _ (by omega), if_neg (by omega), bit_setField_ne _ (by omega) _ (by omega),
      bit_setBit _ (by omega), if_neg (by omega), bit_setBit _ (by omega), if_neg (by omega),
      bit_setBit _ (by omega), if_neg (by omega)]
  · rw [hget, hcpc, hpc]
    rfl
  · rw [hget, hopc]
    exact u.opcWord_names op
  · simpa only [hget] using hsrc k v regs hv hr
  · rw [hget, u.captureRegs_other op r s.rm (hres ▸ hq), hrep]
  · rw [State.captureAsync_eq]
    rfl

theorem Kept.captureAsync_dest {ds : List Reg} (h : Kept s u ds [] [.psw]) {op : FpuOp} {d : Reg}
    (hd : op.dreg = some d) (r : FpResult) (rm : BitVec 2) (len : Nat) :
    field (((u.captureAsync op r rm).advance len).getRep s.res .fpuTrapOpc) 16 4 = d := by
  rw [← h.res_eq (by simp), State.captureAsync_eq, ← u.opcWord_dest hd, ← u.captureRegs_opcode op r rm]
  rfl

/-- The capture keeps what the instruction has completed, the request of CAE aside. -/
theorem Kept.captureAsync_advance {ds : List Reg} (h : Kept s u ds [] [.psw]) (op : FpuOp) (r : FpResult) (rm : BitVec 2)
    (len : Nat) : Kept s { (u.captureAsync op r rm).advance len with pendCae := s.pendCae } ds []
      ([.pc, .psw] ++ asyncCapture) := by
  have hres : u.res = s.res := h.res_eq (by simp)
  have hall := (h.trans (Kept.captureRegs u op r rm) hres).trans (Kept.advance len)
    ((Kept.captureRegs u op r rm).res_eq (by simp [asyncCapture]) |>.trans hres)
  have hcae : (u.captureRegs op r rm).pendCae = s.pendCae := by
    have e := hall.hidden
    simp only [Prod.mk.injEq] at e
    exact e.2.2.1
  rw [State.captureAsync_eq, ← hcae]
  exact hall.mono (by simp) (by simp) (by simp [asyncCapture])

/-- A capture writes only its registers. -/
theorem State.captureAsync_fields (u : State) (op : FpuOp) (r : FpResult) (rm : BitVec 2) :
    (u.captureAsync op r rm).cfg = u.cfg ∧ (u.captureAsync op r rm).pc = u.pc ∧ (u.captureAsync op r rm).d = u.d ∧
      (u.captureAsync op r rm).psw = u.psw ∧ (u.captureAsync op r rm).pswUndef = u.pswUndef ∧
      (u.captureAsync op r rm).mem = u.mem := by
  simp [State.captureAsync, State.captureSrc, State.hwCur]

/-- What an instruction with an asynchronous trap has besides its result and its flags, `u` being the state that they are
written in (R562). -/
theorem Kept.async_spec {ds : List Reg} (h : Kept s u ds [] [.psw]) (hmem : u.mem = s.mem) (op : FpuOp) (r : FpResult) :
    let t := (u.captureAsync op r s.rm).advance 4
    t.pc = s.pc + 4 ∧ (∀ n, t.getD n = u.getD n) ∧ t.psw = u.psw ∧ t.pswUndef = u.pswUndef ∧
      CapturedAsync s t op.dp op.opc [op.src1, op.src2, op.src3] r ∧ KeepsMemory s t ∧
      Kept s { t with pendCae := s.pendCae } ds [] ([.pc, .psw] ++ asyncCapture) := by
  intro t
  obtain ⟨hcfg, hpc, hd, hpsw, hundef, hm⟩ := u.captureAsync_fields op r s.rm
  have hupc : u.pc = s.pc := h.csfr .hv .pc (by simp) (by simp)
  exact ⟨congrArg (· + 4) (hpc.trans hupc), fun n => State.getD_of_d hd n, hpsw, hundef, h.capturedAsync op r,
    KeepsMemory.of_mem (hcfg.trans h.cfg_eq) (hm.trans hmem), h.captureAsync_advance op r s.rm 4⟩

/-- Settles O55: the three ways of R561 to a trap, for the instructions with a destination and for UPDFL. -/
theorem floatingPointTraps : Obligations.floating_point_traps := by
  intro s i
  refine ⟨fun f c hf hc hw => ?_, fun f hf => ?_, ?_⟩
  · obtain ⟨c', op, hc', hop, he⟩ := exec_of_fpuForm hf
    obtain rfl : c' = c := Option.some.inj (hc'.symm.trans hc)
    obtain ⟨hdp, hdreg, hopc, hsrc⟩ := hop
    rw [he hw, ← hdp, ← hopc, ← hsrc]
    refine ⟨fun hp => State.execFpu_absent hp, fun hp hs => ?_, fun hp hs ha => ?_⟩
    · refine ⟨_, State.execFpu_sync hp hs, s.captureSync_spec op f.result, ?_⟩
      rw [s.captureSync_opcode]
      exact s.opcWord_dest hdreg
    · obtain ⟨-, hval, hpsw, hundef, hmem, hkept⟩ := s.fill_modPsw_spec f.dest f.result
      obtain ⟨hpc, hget, htpsw, htundef, hcap, hkeeps, hframe⟩ := hkept.async_spec hmem op f.result
      exact ⟨_, State.execFpu_async hp hs ha, hpc, fun k n hn => (hget n).trans (hval k n hn), htpsw ▸ hpsw,
        htundef.trans hundef, hcap, hkept.captureAsync_dest hdreg f.result s.rm 4, hkeeps, hframe⟩
  · obtain ⟨c, -, hc, -⟩ := exec_of_fpuForm hf
    rw [hc, Option.isSome_some]
  · rintro a rfl v due
    have he := exec_updfl a s
    refine ⟨fun hp => he.trans (State.execFpu_absent hp), fun hp hs => ?_, fun hp hs ha => ?_⟩
    · exact ⟨_, he.trans (State.execFpu_sync hp hs), s.captureSync_spec _ due⟩
    · obtain ⟨hpc, -, htpsw, htundef, hcap, hkeeps, hframe⟩ := (Kept.modPsw (s := s) (updflPsw v)).async_spec rfl
        ⟨false, none, some (true, 0x0C), some v.toNat, none, none⟩ due
      exact ⟨_, he.trans (State.execFpu_async hp hs ha), hpc, htpsw ▸ updflPsw_updated v s.psw, htundef, hcap, hkeeps,
        hframe⟩

end Sys2Proof.Machine
end

section
/-! PROOFS. The data of a floating-point format (44_fpu R523, R525, R529): sign and magnitude, the classes of data by their
magnitude, and the real values, which grow with the magnitude. -/

namespace Sys2Proof.Machine

/-! ## Powers and magnitudes -/

theorem pow2_eq (k : Int) : pow2 k = (2 : ℚ) ^ k := by
  unfold pow2
  split
  next h =>
    obtain ⟨n, rfl⟩ := Int.eq_ofNat_of_zero_le h
    simp
  next h =>
    obtain ⟨n, hn⟩ := Int.eq_ofNat_of_zero_le (show 0 ≤ -k by omega)
    obtain rfl : k = -n := by omega
    simp

theorem pow2_pos (k : Int) : 0 < pow2 k := pow2_eq k ▸ zpow_pos two_pos k

theorem pow2_eq_two_mul (k : Int) : pow2 k = 2 * pow2 (k - 1) := by
  rw [pow2_eq, pow2_eq, ← zpow_one_add₀ two_ne_zero]
  congr 1
  ring

theorem magnitude_eq (r : ℚ) : magnitude r = |r| := by
  unfold magnitude
  split
  next h => exact (abs_of_neg h).symm
  next h => exact (abs_of_nonneg (not_lt.mp h)).symm

/-- The factor of a sign. -/
def signOf (neg : Bool) : ℚ := if neg then -1 else 1

@[simp] theorem signOf_true : signOf true = -1 := rfl

@[simp] theorem signOf_false : signOf false = 1 := rfl

@[simp] theorem signOf_not (a : Bool) : signOf (!a) = -signOf a := by cases a <;> simp

theorem signOf_xor (a b : Bool) : signOf (a != b) = signOf a * signOf b := by cases a <;> cases b <;> simp

@[simp] theorem signOf_mul_self (a : Bool) : signOf a * signOf a = 1 := by cases a <;> simp

@[simp] theorem abs_signOf (a : Bool) : |signOf a| = 1 := by cases a <;> simp

theorem signOf_mul_cancel (a : Bool) (b : ℚ) : signOf a * (signOf a * b) = b := by
  rw [← mul_assoc, signOf_mul_self, one_mul]

theorem abs_signOf_mul (a : Bool) (b : ℚ) : |signOf a * b| = |b| := by rw [abs_mul, abs_signOf, one_mul]

theorem signOf_mul_right_inj (a : Bool) {b c : ℚ} : signOf a * b = signOf a * c ↔ b = c :=
  mul_right_inj' (by cases a <;> simp)

namespace FloatFmt

variable {f : FloatFmt} {x y m : Nat}

/-! ## Sign and magnitude -/

/-- A datum has a sign bit above its magnitude. -/
def width (f : FloatFmt) : Nat := f.expBits + f.fracBits

/-- The magnitude of the infinities: the finite numbers are below it, the NaNs above it. -/
def limit (f : FloatFmt) : Nat := f.top * 2 ^ f.fracBits

/-- A format has exponents between the least and the greatest, and a fraction. -/
structure Proper (f : FloatFmt) : Prop where
  exp : 2 ≤ f.expBits
  frac : 1 ≤ f.fracBits

theorem Proper.half : FloatFmt.half.Proper := ⟨by decide, by decide⟩

theorem Proper.single : FloatFmt.single.Proper := ⟨by decide, by decide⟩

theorem Proper.double : FloatFmt.double.Proper := ⟨by decide, by decide⟩

theorem Proper.ofPrecision {p : Precision} (h : p = .single ∨ p = .double) : p.fmt.Proper := by
  rcases h with rfl | rfl
  · exact .single
  · exact .double

theorem mag_lt (f : FloatFmt) (x : Nat) : f.mag x < 2 ^ f.width := Nat.mod_lt _ (Nat.two_pow_pos _)

theorem limit_lt (f : FloatFmt) : f.limit < 2 ^ f.width := by
  rw [limit, width, pow_add]
  exact Nat.mul_lt_mul_of_pos_right (Nat.sub_lt (Nat.two_pow_pos _) Nat.one_pos) (Nat.two_pow_pos _)

theorem Proper.top_eq (h : f.Proper) : f.top = 2 * f.bias + 1 ∧ 1 ≤ f.bias := by
  obtain ⟨e, he⟩ := Nat.exists_eq_add_of_le h.exp
  have hpos := Nat.two_pow_pos e
  rw [top, bias, he, show 2 + e - 1 = e + 1 by omega, show 2 + e = e + 1 + 1 by omega, pow_succ, pow_succ]
  omega

theorem Proper.limit_pos (h : f.Proper) : 0 < f.limit := by
  rw [limit, h.top_eq.1]
  positivity

theorem mag_of_lt (h : m < 2 ^ f.width) : f.mag m = m := Nat.mod_eq_of_lt h

theorem mag_withSign (s : Bool) (h : m < 2 ^ f.width) : f.mag (f.withSign s m) = m := by
  cases s with
  | false => exact mag_of_lt h
  | true => exact (Nat.add_mod_left _ _).trans (mag_of_lt h)

theorem neg_withSign (s : Bool) (h : m < 2 ^ f.width) : f.neg (f.withSign s m) = s := by
  cases s with
  | false => exact Nat.testBit_lt_two_pow h
  | true => exact (Nat.testBit_two_pow_add_eq m _).trans (by rw [← width, Nat.testBit_lt_two_pow h]; rfl)

theorem withSign_lt (s : Bool) (h : m < 2 ^ f.width) : f.withSign s m < 2 ^ (1 + f.expBits + f.fracBits) := by
  have hw : 2 ^ (1 + f.expBits + f.fracBits) = 2 * 2 ^ f.width := by
    rw [width, Nat.add_assoc, pow_add, pow_one]
  rw [hw]
  cases s with
  | false => exact lt_of_lt_of_le h (by omega)
  | true => exact (Nat.add_lt_add_left h _).trans_eq (Nat.two_mul _).symm

/-- The sign bit is the highest one. -/
theorem neg_eq (hx : x < 2 * 2 ^ f.width) : f.neg x = decide (2 ^ f.width ≤ x) := by
  by_cases h : x < 2 ^ f.width
  · rw [decide_eq_false (by omega)]
    exact Nat.testBit_lt_two_pow h
  · rw [decide_eq_true (by omega)]
    exact Nat.testBit_of_two_pow_le_and_two_pow_add_one_gt (not_lt.mp h) (by rw [pow_succ']; exact hx)

/-- A datum is its sign and its magnitude. -/
theorem mag_eq (hx : x < 2 * 2 ^ f.width) : f.mag x = if 2 ^ f.width ≤ x then x - 2 ^ f.width else x := by
  split
  next h =>
    rw [← Nat.mod_eq_of_lt (show x - 2 ^ f.width < 2 ^ f.width by omega)]
    exact Nat.mod_eq_sub_mod h
  next h => exact mag_of_lt (by omega)

/-- The exponent and the fraction are parts of the magnitude. -/
theorem exp_eq (f : FloatFmt) (x : Nat) : f.exp x = f.mag x / 2 ^ f.fracBits := by
  rw [exp, mag, Nat.add_comm, pow_add, Nat.mod_mul_right_div_self]

theorem frac_eq (f : FloatFmt) (x : Nat) : f.frac x = f.mag x % 2 ^ f.fracBits := by
  rw [frac, mag, Nat.mod_mod_of_dvd _ (pow_dvd_pow 2 (Nat.le_add_left _ _))]

/-! ## The classes of data -/

theorem exp_eq_top (f : FloatFmt) (x : Nat) : f.exp x = f.top ↔ f.limit ≤ f.mag x := by
  have hlt : f.exp x < 2 ^ f.expBits := Nat.mod_lt _ (Nat.two_pow_pos _)
  rw [limit, ← Nat.le_div_iff_mul_le (Nat.two_pow_pos _), ← exp_eq, top]
  omega

/-- A magnitude is its exponent and its fraction. -/
theorem mag_split (f : FloatFmt) (x : Nat) : f.mag x = f.exp x * 2 ^ f.fracBits + f.frac x := by
  rw [exp_eq, frac_eq, Nat.div_add_mod']

theorem isNan_iff (f : FloatFmt) (x : Nat) : f.isNan x = true ↔ f.limit < f.mag x := by
  have htop := f.exp_eq_top x
  have hsplit := f.mag_split x
  simp only [isNan, Bool.and_eq_true, beq_iff_eq, bne_iff_ne]
  constructor
  · rintro ⟨he, hf⟩
    rw [he] at hsplit
    exact hsplit ▸ Nat.lt_add_of_pos_right (Nat.pos_of_ne_zero hf)
  · intro h
    have he := htop.mpr h.le
    rw [he] at hsplit
    exact ⟨he, fun hf => h.ne (by rw [hsplit, hf]; rfl)⟩

theorem isInf_iff (f : FloatFmt) (x : Nat) : f.isInf x = true ↔ f.mag x = f.limit := by
  have htop := f.exp_eq_top x
  have hsplit := f.mag_split x
  simp only [isInf, Bool.and_eq_true, beq_iff_eq]
  constructor
  · rintro ⟨he, hf⟩
    rw [hsplit, he, hf]
    rfl
  · intro h
    have he := htop.mpr h.ge
    rw [he, h, limit] at hsplit
    exact ⟨he, by omega⟩

theorem finite_iff (f : FloatFmt) (x : Nat) :
    f.finite x ↔ x < 2 ^ (1 + f.expBits + f.fracBits) ∧ f.mag x < f.limit := by
  rw [finite, ne_eq, exp_eq_top, not_le]

theorem exp_eq_zero (f : FloatFmt) (x : Nat) : f.exp x = 0 ↔ f.mag x < 2 ^ f.fracBits := by
  rw [exp_eq, Nat.div_eq_zero_iff_lt (Nat.two_pow_pos _)]

theorem isZero_iff (f : FloatFmt) (x : Nat) : f.isZero x = true ↔ f.mag x = 0 := by
  have hsplit := f.mag_split x
  have hpos := Nat.two_pow_pos f.fracBits
  simp only [isZero, Bool.and_eq_true, beq_iff_eq]
  constructor
  · rintro ⟨he, hf⟩
    rw [hsplit, he, hf, Nat.zero_mul]
  · intro h
    rw [h] at hsplit
    have he : f.exp x = 0 := f.exp_eq_zero x |>.mpr (by omega)
    exact ⟨he, by omega⟩

theorem isSub_iff (f : FloatFmt) (x : Nat) : f.isSub x = true ↔ f.mag x ≠ 0 ∧ f.mag x < 2 ^ f.fracBits := by
  have hsplit := f.mag_split x
  simp only [isSub, Bool.and_eq_true, beq_iff_eq, bne_iff_ne, exp_eq_zero]
  constructor
  · rintro ⟨he, hf⟩
    exact ⟨by omega, he⟩
  · rintro ⟨h0, he⟩
    rw [(f.exp_eq_zero x).mpr he] at hsplit
    exact ⟨he, by omega⟩

/-- Data of one magnitude are of one class. -/
theorem class_of_mag (h : f.mag x = f.mag y) : f.isNan x = f.isNan y ∧ f.isInf x = f.isInf y ∧
    f.isZero x = f.isZero y ∧ f.isSub x = f.isSub y := by
  refine ⟨?_, ?_, ?_, ?_⟩
  · rw [Bool.eq_iff_iff, isNan_iff, isNan_iff, h]
  · rw [Bool.eq_iff_iff, isInf_iff, isInf_iff, h]
  · rw [Bool.eq_iff_iff, isZero_iff, isZero_iff, h]
  · rw [Bool.eq_iff_iff, isSub_iff, isSub_iff, h]

/-- A finite datum is neither a NaN nor an infinity. -/
theorem finite.class (h : f.finite x) : f.isNan x = false ∧ f.isInf x = false := by
  have hlt := ((f.finite_iff x).mp h).2
  rw [← Bool.not_eq_true, ← Bool.not_eq_true, isNan_iff, isInf_iff]
  omega

theorem not_isNan_of_isInf (h : f.isInf x = true) : f.isNan x = false := by
  rw [isInf_iff] at h
  rw [← Bool.not_eq_true, isNan_iff]
  omega

/-- A datum that is no NaN is finite or an infinity. -/
theorem finite_or_isInf (hx : x < 2 ^ (1 + f.expBits + f.fracBits)) (h : f.isNan x = false) :
    f.finite x ∨ f.isInf x = true := by
  rw [← Bool.not_eq_true, isNan_iff] at h
  rw [isInf_iff, finite_iff]
  omega

/-! ## The negated datum -/

@[simp] theorem mag_flip (f : FloatFmt) (x : Nat) : f.mag (f.flip x) = f.mag x := mag_withSign _ (f.mag_lt x)

@[simp] theorem neg_flip (f : FloatFmt) (x : Nat) : f.neg (f.flip x) = !f.neg x := neg_withSign _ (f.mag_lt x)

theorem class_flip (f : FloatFmt) (x : Nat) : f.isNan (f.flip x) = f.isNan x ∧ f.isInf (f.flip x) = f.isInf x ∧
    f.isZero (f.flip x) = f.isZero x ∧ f.isSub (f.flip x) = f.isSub x := class_of_mag (f.mag_flip x)

theorem finite_flip (h : f.finite x) : f.finite (f.flip x) := by
  rw [finite_iff] at h ⊢
  exact ⟨withSign_lt _ (f.mag_lt x), by rw [mag_flip]; exact h.2⟩

/-! ## Real values -/

/-- The real value of a magnitude: below the exponent 2 in units of the lowest fraction bit, above it in units that double
with each exponent. -/
def magReal (f : FloatFmt) (m : Nat) : ℚ :=
  ((m - (m / 2 ^ f.fracBits - 1) * 2 ^ f.fracBits : Nat) : ℚ) * 2 ^ (f.lowest + (m / 2 ^ f.fracBits - 1 : Nat))

/-- A real value in the units of one exponent, the next power of two among them. -/
theorem magReal_add (f : FloatFmt) {k n : Nat} (hn : n ≤ 2 * 2 ^ f.fracBits) (hk : 2 ^ f.fracBits ≤ n ∨ k = 0) :
    f.magReal (k * 2 ^ f.fracBits + n) = n * 2 ^ (f.lowest + k) := by
  have hpos := Nat.two_pow_pos f.fracBits
  have hdiv : (k * 2 ^ f.fracBits + n) / 2 ^ f.fracBits = k + n / 2 ^ f.fracBits := by
    rw [Nat.add_comm, Nat.add_mul_div_right _ _ hpos, Nat.add_comm]
  rw [magReal, hdiv]
  rcases Nat.lt_or_ge n (2 ^ f.fracBits) with h | h
  · obtain rfl : k = 0 := hk.resolve_left (by omega)
    simp [Nat.div_eq_of_lt h]
  rcases Nat.lt_or_ge n (2 * 2 ^ f.fracBits) with h2 | h2
  · rw [Nat.div_eq_of_lt_le (k := 1) (by omega) (by omega), Nat.add_sub_cancel, Nat.add_sub_cancel_left]
  · obtain rfl : n = 2 * 2 ^ f.fracBits := by omega
    rw [Nat.mul_div_cancel _ hpos, show k + 2 - 1 = k + 1 from rfl,
      show k * 2 ^ f.fracBits + 2 * 2 ^ f.fracBits - (k + 1) * 2 ^ f.fracBits = 2 ^ f.fracBits by
        rw [← Nat.add_mul, ← Nat.sub_mul, show k + 2 - (k + 1) = 1 by omega, one_mul]]
    push_cast
    rw [← add_assoc, zpow_add_one₀ two_ne_zero]
    ring

/-- Every magnitude in the units of its exponent. -/
theorem exists_units (f : FloatFmt) (m : Nat) : ∃ k n, m = k * 2 ^ f.fracBits + n ∧ n < 2 * 2 ^ f.fracBits ∧
    (2 ^ f.fracBits ≤ n ∨ k = 0) := by
  have hpos := Nat.two_pow_pos f.fracBits
  have hsplit := Nat.div_add_mod' m (2 ^ f.fracBits)
  have hmod := Nat.mod_lt m hpos
  cases hq : m / 2 ^ f.fracBits with
  | zero =>
    rw [hq] at hsplit
    exact ⟨0, m, by omega, by omega, .inr rfl⟩
  | succ k =>
    rw [hq, Nat.succ_mul] at hsplit
    exact ⟨k, 2 ^ f.fracBits + m % 2 ^ f.fracBits, by omega, by omega, .inl (by omega)⟩

theorem magReal_strictMono (f : FloatFmt) : StrictMono f.magReal := by
  refine strictMono_nat_of_lt_succ fun m => ?_
  obtain ⟨k, n, rfl, hn, hk⟩ := f.exists_units m
  rw [Nat.add_assoc, f.magReal_add hn.le hk, f.magReal_add (by omega) (by omega)]
  exact mul_lt_mul_of_pos_right (by exact_mod_cast Nat.lt_succ_self n) (zpow_pos two_pos _)

@[simp] theorem magReal_zero (f : FloatFmt) : f.magReal 0 = 0 := by simp [magReal]

theorem magReal_eq_zero (f : FloatFmt) (m : Nat) : f.magReal m = 0 ↔ m = 0 := by
  rw [← f.magReal_strictMono.injective.eq_iff (a := m), magReal_zero]

theorem magReal_nonneg (f : FloatFmt) (m : Nat) : 0 ≤ f.magReal m :=
  f.magReal_zero ▸ f.magReal_strictMono.monotone (Nat.zero_le m)

/-- A datum in its units. -/
theorem magReal_mag (f : FloatFmt) (x : Nat) : f.magReal (f.mag x) = if f.exp x = 0 then (f.frac x : ℚ) * 2 ^ f.lowest
    else ((2 ^ f.fracBits + f.frac x : Nat) : ℚ) * 2 ^ (f.lowest + (f.exp x - 1 : Nat)) := by
  have hlt : f.frac x < 2 ^ f.fracBits := Nat.mod_lt _ (Nat.two_pow_pos _)
  rw [mag_split]
  cases f.exp x with
  | zero =>
    rw [f.magReal_add (by omega) (.inr rfl)]
    simp
  | succ k =>
    rw [Nat.succ_mul, Nat.add_assoc, f.magReal_add (by omega) (.inl (by omega))]
    rfl

theorem real_eq (f : FloatFmt) (x : Nat) : f.real x = signOf (f.neg x) * f.magReal (f.mag x) := by
  rw [magReal_mag]
  simp only [real, pow2_eq]
  split
  next h => rw [mul_assoc]; rfl
  next h =>
    have hexp : (f.exp x : Int) - f.bias - f.fracBits = f.lowest + (f.exp x - 1 : Nat) := by
      rw [lowest]
      omega
    rw [mul_assoc, hexp]
    rfl

theorem abs_real (f : FloatFmt) (x : Nat) : |f.real x| = f.magReal (f.mag x) := by
  rw [real_eq, abs_signOf_mul, abs_of_nonneg (f.magReal_nonneg _)]

theorem real_withSign (s : Bool) (h : m < 2 ^ f.width) : f.real (f.withSign s m) = signOf s * f.magReal m := by
  rw [real_eq, mag_withSign s h, neg_withSign s h]

theorem real_eq_zero (f : FloatFmt) (x : Nat) : f.real x = 0 ↔ f.mag x = 0 := by
  rw [← abs_eq_zero, abs_real, magReal_eq_zero]

end FloatFmt

/-! ## Subnormal operands (R527) -/

namespace Precision

variable (p : Precision) (x : Nat)

theorem mag_ftz : p.fmt.mag (p.ftz x) = if p.flush && p.fmt.isSub x then 0 else p.fmt.mag x := by
  unfold ftz
  split
  · exact FloatFmt.mag_withSign _ (Nat.two_pow_pos _)
  · rfl

@[simp] theorem neg_ftz : p.fmt.neg (p.ftz x) = p.fmt.neg x := by
  unfold ftz
  split
  · exact FloatFmt.neg_withSign _ (Nat.two_pow_pos _)
  · rfl

theorem mag_ftz_flip : p.fmt.mag (p.ftz (p.fmt.flip x)) = p.fmt.mag (p.ftz x) := by
  rw [mag_ftz, mag_ftz, (p.fmt.class_flip x).2.2.2, FloatFmt.mag_flip]

theorem real_ftz_flip : p.fmt.real (p.ftz (p.fmt.flip x)) = -p.fmt.real (p.ftz x) := by
  rw [FloatFmt.real_eq, FloatFmt.real_eq, mag_ftz_flip, neg_ftz, neg_ftz, FloatFmt.neg_flip, signOf_not, neg_mul]

end Precision

/-! ## Exact values (R523) -/

namespace Exact

theorem real_eq (x : Exact) : x.real = signOf x.neg * (x.num / x.den) := by
  cases h : x.neg <;> simp [real, signed, h, neg_div]

theorem abs_real (x : Exact) : |x.real| = x.num / x.den := by
  rw [real_eq, abs_signOf_mul, abs_of_nonneg (by positivity)]

theorem scaled_neg (s : Bool) (m : Nat) (k : Int) : (scaled s m k).neg = s := by
  unfold scaled
  split <;> rfl

theorem scaled_den (s : Bool) (m : Nat) (k : Int) : (scaled s m k).den ≠ 0 := by
  unfold scaled
  split <;> simp

theorem scaled_num (s : Bool) (m : Nat) (k : Int) : (scaled s m k).num = 0 ↔ m = 0 := by
  unfold scaled
  split <;> simp

theorem scaled_real (s : Bool) (m : Nat) (k : Int) : (scaled s m k).real = signOf s * (m * 2 ^ k) := by
  rw [real_eq, scaled_neg]
  unfold scaled
  split
  next h =>
    obtain ⟨n, rfl⟩ := Int.eq_ofNat_of_zero_le h
    simp
  next h =>
    obtain ⟨n, hn⟩ := Int.eq_ofNat_of_zero_le (show 0 ≤ -k by omega)
    obtain rfl : k = -n := by omega
    simp [div_eq_mul_inv]

end Exact

namespace FloatFmt

theorem value_eq (f : FloatFmt) (x : Nat) : ∃ m k, f.value x = Exact.scaled (f.neg x) m k ∧
    f.magReal (f.mag x) = m * 2 ^ k := by
  rw [magReal_mag, value]
  split
  · exact ⟨_, _, rfl, rfl⟩
  · exact ⟨_, _, rfl, by push_cast; rfl⟩

theorem value_neg (f : FloatFmt) (x : Nat) : (f.value x).neg = f.neg x := by
  obtain ⟨m, k, he, -⟩ := f.value_eq x
  rw [he, Exact.scaled_neg]

theorem value_den (f : FloatFmt) (x : Nat) : (f.value x).den ≠ 0 := by
  obtain ⟨m, k, he, -⟩ := f.value_eq x
  rw [he]
  exact Exact.scaled_den _ _ _

theorem value_real (f : FloatFmt) (x : Nat) : (f.value x).real = f.real x := by
  obtain ⟨m, k, he, hv⟩ := f.value_eq x
  rw [he, Exact.scaled_real, real_eq, hv]

theorem value_num (f : FloatFmt) (x : Nat) : (f.value x).num = 0 ↔ f.mag x = 0 := by
  obtain ⟨m, k, he, hv⟩ := f.value_eq x
  have hk : (2 : ℚ) ^ k ≠ 0 := zpow_ne_zero k two_ne_zero
  rw [he, Exact.scaled_num, ← f.magReal_eq_zero (f.mag x), hv]
  simp [hk]

end FloatFmt

end Sys2Proof.Machine
end

section
/-! PROOFS. NaN operands (44_fpu R526, R530), the comparisons, the selections and the seeds (R570 to R575, R607, R608). -/

namespace Sys2Proof.Machine

variable {p : Precision} {f : FloatFmt} {rm : BitVec 2} {d x y : Nat}

/-! ## NaN operands -/

theorem FloatFmt.testBit_flip {k : Nat} (h : k < f.width) : (f.flip x).testBit k = x.testBit k := by
  have hmag : (f.mag x).testBit k = x.testBit k := by
    rw [mag, Nat.testBit_mod_two_pow, ← width, decide_eq_true h, Bool.true_and]
  unfold flip
  cases !f.neg x with
  | false => exact hmag
  | true => exact (Nat.testBit_two_pow_add_gt h _).trans hmag

theorem FloatFmt.isSnan_flip (h : f.Proper) (x : Nat) : f.isSnan (f.flip x) = f.isSnan x := by
  have hlt : f.fracBits - 1 < f.width := by
    have := h.exp
    rw [width]
    omega
  rw [isSnan, isSnan, (f.class_flip x).1, testBit_flip hlt]

theorem Precision.add_nan (h : p.fmt.isNan x = true ∨ p.fmt.isNan y = true) : p.add rm x y = p.nan [x, y] := by
  simp [add, h]

theorem Precision.madd_nan (h : p.fmt.isNan d = true ∨ p.fmt.isNan x = true ∨ p.fmt.isNan y = true) :
    p.madd rm d x y = p.nan [d, x, y] := by
  unfold madd
  exact if_pos (by simpa [or_assoc] using h)

/-- Settles O56: a NaN is seen first, and the negation of an operand leaves it a NaN of its kind. -/
theorem nanOperands : Obligations.nan_operands := by
  intro p rm d x y approx inexact hp f quiet
  have hproper := FloatFmt.Proper.ofPrecision hp
  have hnan : ∀ a, f.isNan (f.flip a) = f.isNan a := fun a => (f.class_flip a).1
  have hsnan : ∀ a, f.isSnan (f.flip a) = f.isSnan a := FloatFmt.isSnan_flip hproper
  refine ⟨fun h => ⟨Precision.add_nan h, ?_, ?_, ?_, ?_, ?_⟩, fun h => ⟨Precision.madd_nan h, ?_⟩,
    fun h => ⟨if_pos h, if_pos h, if_pos h⟩⟩
  · have hsub : p.sub rm x y = p.nan [x, f.flip y] := Precision.add_nan (by rwa [hnan])
    rw [hsub, Precision.nan, List.any_cons, List.any_cons, hsnan]
    rfl
  · exact if_pos (by simpa using h)
  · exact if_pos (by simpa using h)
  · exact if_pos (by simpa using h)
  · exact if_pos (by simpa using h)
  · have hsub : p.msub rm d x y = p.nan [d, f.flip x, y] := Precision.madd_nan (by rwa [hnan])
    rw [hsub, Precision.nan, List.any_cons, List.any_cons, hsnan]
    rfl

/-! ## The order of data (R570) -/

namespace FloatFmt

/-- Data compare as their real values do, where the infinities are taken as the next numbers beyond the finite ones. -/
theorem less_iff (f : FloatFmt) (x y : Nat) : f.less x y = true ↔ f.real x < f.real y := by
  have hx := f.magReal_nonneg (f.mag x)
  have hy := f.magReal_nonneg (f.mag y)
  have hlt := fun a b => f.magReal_strictMono.lt_iff_lt (a := a) (b := b)
  have h0x := f.magReal_eq_zero (f.mag x)
  have h0y := f.magReal_eq_zero (f.mag y)
  rw [real_eq, real_eq, less]
  cases f.neg x <;> cases f.neg y
  case false.false => simp [hlt]; omega
  case false.true => simp; linarith
  case true.true => simp [hlt]; omega
  case true.false =>
    simp only [signOf_true, signOf_false, neg_mul, one_mul, Bool.not_false, Bool.true_or, if_true]
    rw [neg_lt_iff_pos_add', (add_nonneg hx hy).lt_iff_ne', ne_eq, add_eq_zero_iff_of_nonneg hx hy, h0x, h0y]
    by_cases h : f.mag x = 0 <;> simp [h]

/-- An infinity is beyond every finite number. -/
theorem abs_real_le (h : f.isNan x = false) : |f.real x| ≤ f.magReal f.limit := by
  rw [← Bool.not_eq_true, isNan_iff, not_lt] at h
  rw [abs_real]
  exact f.magReal_strictMono.monotone h

theorem real_eq_limit (hp : f.Proper) (s : Bool) (x : Nat) :
    f.real x = signOf s * f.magReal f.limit ↔ f.isInf x = true ∧ f.neg x = s := by
  have hpos := f.magReal_strictMono hp.limit_pos
  rw [magReal_zero] at hpos
  rw [isInf_iff, ← f.magReal_strictMono.injective.eq_iff, real_eq]
  have hx := f.magReal_nonneg (f.mag x)
  cases s <;> cases f.neg x <;> simp <;> linarith

/-- The order of data without a NaN. -/
theorem below_iff (hp : f.Proper) (hx : x < 2 ^ (1 + f.expBits + f.fracBits)) (hy : y < 2 ^ (1 + f.expBits + f.fracBits))
    (hnx : f.isNan x = false) (hny : f.isNan y = false) : f.Below x y ↔ f.real x < f.real y := by
  obtain ⟨hxl, hxu⟩ := abs_le.mp (abs_real_le hnx)
  obtain ⟨hyl, hyu⟩ := abs_le.mp (abs_real_le hny)
  have hlow := fun a => real_eq_limit hp true a
  have hhigh := fun a => real_eq_limit hp false a
  simp only [signOf_true, signOf_false, neg_mul, one_mul] at hlow hhigh
  constructor
  · rintro (⟨-, -, h⟩ | ⟨hi, hn, hne⟩ | ⟨hi, hn, hne⟩)
    · exact h
    · rw [(hlow x).mpr ⟨hi, hn⟩]
      exact lt_of_le_of_ne hyl fun e => hne ((hlow y).mp e.symm)
    · rw [(hhigh y).mpr ⟨hi, hn⟩]
      exact lt_of_le_of_ne hxu fun e => hne ((hhigh x).mp e)
  · intro h
    rcases finite_or_isInf hx hnx with cx | cx
    · rcases finite_or_isInf hy hny with cy | cy
      · exact .inl ⟨cx, cy, h⟩
      · have hn : f.neg y = false := Bool.eq_false_iff.mpr fun hs => by linarith [(hlow y).mpr ⟨cy, hs⟩]
        exact .inr (.inr ⟨cy, hn, fun hi => by simp [cx.class.2] at hi⟩)
    · have hn : f.neg x = true := by
        by_contra hs
        linarith [(hhigh x).mpr ⟨cx, Bool.eq_false_iff.mpr hs⟩]
      exact .inr (.inl ⟨cx, hn, fun hi => by linarith [(hlow y).mpr hi, (hlow x).mpr ⟨cx, hn⟩]⟩)

end FloatFmt

/-! ## The comparisons, the selections and the seeds -/

/-- A number made of six bits. -/
theorem testBit_sixBits : ∀ a b c d e g : Bool,
    let v := (if a then 1 else 0) + (if b then 2 else 0) + (if c then 4 else 0) + (if d then 8 else 0) +
      (if e then 16 else 0) + (if g then 32 else 0)
    v < 64 ∧ v.testBit 0 = a ∧ v.testBit 1 = b ∧ v.testBit 2 = c ∧ v.testBit 3 = d ∧ v.testBit 4 = e ∧
      v.testBit 5 = g := by
  decide

/-- The bits of CMP (R570, R607). -/
theorem Precision.cmp_bits (p : Precision) (x y : Nat) :
    let f := p.fmt
    let v := (p.cmp x y).value
    let un := f.isNan x || f.isNan y
    v < 64 ∧ v.testBit 0 = (!un && f.less x y) ∧ v.testBit 1 = (!un && !f.less x y && !f.less y x) ∧
      v.testBit 2 = (!un && f.less y x) ∧ v.testBit 3 = un ∧ v.testBit 4 = f.isSub x ∧ v.testBit 5 = f.isSub y :=
  testBit_sixBits ..

theorem Precision.qseed_of_not_nan (h : p.fmt.isNan x = false) (approx : Nat) (inexact : Bool) :
    p.qseed x approx inexact = if p.fmt.isZero (p.ftz x) then { value := p.fmt.inf (p.fmt.neg x) }
      else if p.fmt.neg x then p.invalid 4 else if p.fmt.isInf x then { value := 0 }
      else { value := approx, fx := inexact } := by
  simp [qseed, h]

/-- Settles O59: the order of the model is the order of the real values, and its classes are those of the magnitudes. -/
theorem comparisonsAndSeeds : Obligations.comparisons_and_seeds := by
  intro p x y approx inexact hp f sign nan exactly zero q hx hy
  have hproper := FloatFmt.Proper.ofPrecision hp
  have hbound : 2 ^ (1 + f.expBits + f.fracBits) = 2 * sign := by rw [Nat.add_assoc, pow_add, pow_one]
  have hbelow : ∀ {a b}, a < 2 * sign → b < 2 * sign → ¬ nan a → ¬ nan b → (f.less a b = true ↔ f.Below a b) :=
    fun ha hb hna hnb => (f.less_iff _ _).trans
      (FloatFmt.below_iff hproper (hbound ▸ ha) (hbound ▸ hb) (Bool.not_eq_true _ ▸ hna) (Bool.not_eq_true _ ▸ hnb)).symm
  have hneg : f.neg x = decide (sign ≤ x) := FloatFmt.neg_eq hx
  refine ⟨?_, ?_, ?_, ?_⟩
  · obtain ⟨hlt, h0, h1, h2, h3, h4, h5⟩ := p.cmp_bits x y
    have hun : (f.isNan x || f.isNan y) = false ↔ ¬ nan x ∧ ¬ nan y := by simp [nan]
    refine ⟨rfl, hlt, ?_, ?_, ?_, ?_, h4, h5⟩
    · rw [h0, Bool.and_eq_true, Bool.not_eq_true', hun, and_assoc]
      exact and_congr_right fun hnx => and_congr_right fun hny => hbelow hx hy hnx hny
    · rw [h1, Bool.and_eq_true, Bool.and_eq_true, Bool.not_eq_true', Bool.not_eq_true', Bool.not_eq_true', hun, and_assoc,
        and_assoc, Bool.eq_false_iff, Bool.eq_false_iff]
      exact and_congr_right fun hnx => and_congr_right fun hny =>
        and_congr (not_congr (hbelow hx hy hnx hny)) (not_congr (hbelow hy hx hny hnx))
    · rw [h2, Bool.and_eq_true, Bool.not_eq_true', hun, and_assoc]
      exact and_congr_right fun hnx => and_congr_right fun hny => hbelow hy hx hny hnx
    · rw [h3, Bool.or_eq_true]
  · intro hnx hny
    have hmin : p.min x y = { value := if f.less x y || (!f.less y x && f.neg x) then x else y } :=
      if_neg (by simpa [nan, f] using And.intro hnx hny)
    have hmax : p.max x y = { value := if f.less y x || (!f.less x y && !f.neg x) then x else y } :=
      if_neg (by simpa [nan, f] using And.intro hnx hny)
    have hasymm : f.Below x y → ¬ f.Below y x := by
      rw [← hbelow hx hy hnx hny, ← hbelow hy hx hny hnx, FloatFmt.less_iff, FloatFmt.less_iff]
      exact lt_asymm
    rw [← hbelow hx hy hnx hny, ← hbelow hy hx hny hnx] at hasymm ⊢
    simp only [exactly, hmin, hmax, hneg]
    refine ⟨fun h => ?_, fun h => ?_, fun h h' => ?_⟩
    · simp [h, hasymm h]
    · simp [h, show f.less x y = false from Bool.eq_false_iff.mpr fun hl => hasymm hl h]
    · by_cases hs : sign ≤ x <;> simp [h, h', hs]
  · intro hnx
    have hmag : f.mag x = if sign ≤ x then x - sign else x := FloatFmt.mag_eq hx
    have habs : p.abs x = { value := f.mag x } := if_neg hnx
    have hnegate : p.negate x = { value := f.flip x } := if_neg hnx
    refine ⟨habs.trans (by rw [hmag]), hnegate.trans ?_⟩
    rw [FloatFmt.flip, hneg, hmag]
    by_cases hs : sign ≤ x
    · simp [hs, FloatFmt.withSign]
    · simp [hs, FloatFmt.withSign, sign, Nat.add_comm]
  · intro hnx
    simp only [exactly, p.qseed_of_not_nan (Bool.eq_false_iff.mpr hnx)]
    have hpos : x < sign → ¬ f.neg x = true := fun hs => by simpa [hneg] using hs
    refine ⟨fun h => ?_, fun h hs => ?_, fun h hs hi => ?_, fun h hs hi => ?_⟩
    · rw [if_pos h, ← hneg]
      rfl
    · rw [if_neg h, if_pos (hneg.trans (decide_eq_true hs))]
      rfl
    · rw [if_neg h, if_neg (hpos hs), if_pos hi]
    · rw [if_neg h, if_neg (hpos hs), if_neg (Bool.eq_false_iff.mp hi)]

end Sys2Proof.Machine
end

section
/-! PROOFS. Rounding (44_fpu R527, R528, R531, R540 to R545, R555, R558): a magnitude between two neighbours of a grid, first
the integers, then the data of a format. -/

namespace Sys2Proof.Machine

/-! ## A magnitude between two neighbours (R540, R542) -/

theorem roundingMode_cases : ∀ rm : BitVec 2, rm = 0 ∨ rm = 1 ∨ rm = 2 ∨ rm = 3 := by decide

/-- A rounding mode takes the upper neighbour `hi` of the magnitude `a` of a number, `m` being the place of the lower
neighbour `lo`. -/
def RoundsUp (rm : BitVec 2) (neg : Bool) (lo a hi : ℚ) (m : Nat) : Prop :=
  (rm = 0 ∧ (lo + hi < 2 * a ∨ lo + hi = 2 * a ∧ m % 2 = 1)) ∨ (rm = 1 ∧ neg = false ∧ a ≠ lo) ∨
    (rm = 2 ∧ neg = true ∧ a ≠ lo)

/-- On the grid `v` a rounding mode takes place `n` for the magnitude `a` of a number, which lies between the places `m` and
`m + 1`. -/
structure RoundsTo (v : Nat → ℚ) (rm : BitVec 2) (neg : Bool) (a : ℚ) (m n : Nat) : Prop where
  below : v m ≤ a
  above : a < v (m + 1)
  pick : RoundsUp rm neg (v m) a (v (m + 1)) m ∧ n = m + 1 ∨ ¬ RoundsUp rm neg (v m) a (v (m + 1)) m ∧ n = m

/-- A quotient by its whole part and its remainder. -/
theorem div_eq_add_mod (num : Nat) {den : Nat} (hd : den ≠ 0) :
    (num / den : ℚ) = (num / den : Nat) + (num % den : Nat) / (den : ℚ) := by
  have hq : (den : ℚ) ≠ 0 := Nat.cast_ne_zero.mpr hd
  rw [div_eq_iff hq, add_mul, div_mul_cancel₀ _ hq]
  exact_mod_cast (Nat.div_add_mod' num den).symm

/-- The rounding of a quotient to an integer, exact where the quotient is one. -/
theorem roundNat_roundsTo (rm : BitVec 2) (neg : Bool) (num : Nat) {den : Nat} (hd : den ≠ 0) :
    RoundsTo (↑) rm neg (num / den) (num / den) (roundNat rm neg num den).1 ∧
      ((roundNat rm neg num den).2 = true ↔ (num / den : ℚ) ≠ (num / den : Nat)) := by
  have hq : (0 : ℚ) < den := by positivity
  have hlt : num % den < den := Nat.mod_lt _ (Nat.pos_of_ne_zero hd)
  have ht0 : (0 : ℚ) ≤ (num % den : Nat) / (den : ℚ) := by positivity
  have ht1 : ((num % den : Nat) : ℚ) / den < 1 := (div_lt_one hq).mpr (by exact_mod_cast hlt)
  have hexact : num % den = 0 ↔ ((num % den : Nat) : ℚ) / den = 0 := by simp [hd]
  have habove : den < 2 * (num % den) ↔ 1 < 2 * (((num % den : Nat) : ℚ) / den) := by
    rw [← mul_div_assoc, one_lt_div hq]
    exact_mod_cast Iff.rfl
  have htie : 2 * (num % den) = den ↔ 1 = 2 * (((num % den : Nat) : ℚ) / den) := by
    rw [← mul_div_assoc, eq_div_iff hq.ne', one_mul, eq_comm]
    exact_mod_cast Iff.rfl
  rw [div_eq_add_mod num hd]
  unfold roundNat
  generalize ((num % den : Nat) : ℚ) / den = t at *
  generalize num % den = r at *
  generalize num / den = q at *
  refine ⟨⟨by linarith, by push_cast; linarith, ?_⟩, by simp [hexact]⟩
  have hlo : (2 * q + 1 : ℚ) < 2 * (q + t) ↔ 1 < 2 * t := by constructor <;> intro h <;> linarith
  have heq : (2 * q + 1 : ℚ) = 2 * (q + t) ↔ 1 = 2 * t := by constructor <;> intro h <;> linarith
  have hsum : (q + ((q + 1 : Nat) : ℚ)) = 2 * q + 1 := by push_cast; ring
  rw [RoundsUp, hsum, hlo, heq, ← habove, ← htie, ne_eq, add_eq_left, ← hexact]
  rcases roundingMode_cases rm with rfl | rfl | rfl | rfl
  · by_cases h : den < 2 * r ∨ 2 * r = den ∧ q % 2 = 1 <;> simp [h]
  · cases neg <;> by_cases h : r = 0 <;> simp [h]
  · cases neg <;> by_cases h : r = 0 <;> simp [h]
  · simp

namespace RoundsTo

variable {v w : Nat → ℚ} {rm : BitVec 2} {neg : Bool} {a c y : ℚ} {m n d : Nat}

theorem roundsUp_scale (hc : 0 < c) (lo a hi : ℚ) (hd : d % 2 = 0) :
    RoundsUp rm neg (lo * c) (a * c) (hi * c) (d + m) ↔ RoundsUp rm neg lo a hi m := by
  have hodd : (d + m) % 2 = m % 2 := by omega
  rw [RoundsUp, RoundsUp, hodd, ← add_mul, ← mul_assoc, mul_lt_mul_iff_left₀ hc, mul_left_inj' hc.ne', ne_eq, ne_eq,
    mul_left_inj' hc.ne']

/-- The neighbours in other units, from an even place on. -/
theorem scale (h : RoundsTo v rm neg a m n) (hc : 0 < c) (hd : d % 2 = 0) (h0 : w (d + m) = v m * c)
    (h1 : w (d + m + 1) = v (m + 1) * c) : RoundsTo w rm neg (a * c) (d + m) (d + n) := by
  refine ⟨?_, ?_, ?_⟩
  · rw [h0]
    exact mul_le_mul_of_nonneg_right h.below hc.le
  · rw [h1]
    exact mul_lt_mul_of_pos_right h.above hc
  · rw [h0, h1, roundsUp_scale hc _ _ _ hd, Nat.add_assoc, Nat.add_right_inj, Nat.add_right_inj]
    exact h.pick

/-- A number of the grid is not between two neighbours. -/
theorem gap (hv : StrictMono v) (m : Nat) {k : Nat} (hy : |y| = v k) : |y| ≤ v m ∨ v (m + 1) ≤ |y| := by
  rw [hy, hv.le_iff_le, hv.le_iff_le]
  omega

/-- To nearest: no number of the grid is nearer, and one equally near is the same or the one taken is even. -/
theorem nearest (h : RoundsTo v 0 neg a m n) (h0 : 0 ≤ v m) (hodd : m % 2 = 1 → 0 < v m)
    (hy : |y| ≤ v m ∨ v (m + 1) ≤ |y|) :
    |v n - a| ≤ |y - a| ∧ (|v n - a| = |y - a| → y = v n ∨ n % 2 = 0) := by
  have hcases : y ≤ v m ∨ v (m + 1) ≤ y ∨ y ≤ -v (m + 1) := by
    rcases hy with hy | hy
    · exact .inl (abs_le.mp hy).2
    · exact .inr ((le_abs.mp hy).imp_right fun h => by linarith)
  have hdist : y - a ≤ |y - a| ∧ a - y ≤ |y - a| := ⟨le_abs_self _, by linarith [neg_abs_le (y - a)]⟩
  obtain ⟨hlo, hhi, ⟨hup, rfl⟩ | ⟨hup, rfl⟩⟩ := h
  · have hnear : v m + v (m + 1) < 2 * a ∨ v m + v (m + 1) = 2 * a ∧ m % 2 = 1 := by simpa [RoundsUp] using hup
    have hle : v m + v (m + 1) ≤ 2 * a := hnear.elim le_of_lt fun h => h.1.le
    rw [abs_of_nonneg (show 0 ≤ v (m + 1) - a by linarith)]
    refine ⟨by rcases hcases with h | h | h <;> linarith, fun he => ?_⟩
    rcases hnear with hlt | ⟨-, hm⟩
    · refine .inl (le_antisymm (by linarith) ?_)
      rcases hcases with h | h | h <;> linarith
    · exact .inr (by omega)
  · have hnear : 2 * a ≤ v n + v (n + 1) ∧ (v n + v (n + 1) = 2 * a → n % 2 = 0) := by simpa [RoundsUp] using hup
    rw [abs_sub_comm, abs_of_nonneg (show 0 ≤ a - v n by linarith)]
    refine ⟨by rcases hcases with h | h | h <;> linarith [hnear.1], fun he => ?_⟩
    rcases Nat.mod_two_eq_zero_or_one n with hn | hn
    · exact .inr hn
    · have hlt : 2 * a < v n + v (n + 1) := lt_of_le_of_ne hnear.1 fun e => by
        have := hnear.2 e.symm
        omega
      refine .inl (le_antisymm ?_ (by linarith))
      rcases hcases with h | h | h <;> linarith [hodd hn]

/-- Away from zero: the least not below. -/
theorem away (h : RoundsTo v rm neg a m n) (hrm : rm = 1 ∧ neg = false ∨ rm = 2 ∧ neg = true) (h0 : 0 ≤ v m)
    (hy : |y| ≤ v m ∨ v (m + 1) ≤ |y|) : a ≤ v n ∧ (a ≤ y → v n ≤ y) := by
  have hup : RoundsUp rm neg (v m) a (v (m + 1)) m ↔ a ≠ v m := by
    rcases hrm with ⟨rfl, rfl⟩ | ⟨rfl, rfl⟩ <;> simp [RoundsUp]
  obtain ⟨hlo, hhi, ⟨hne, rfl⟩ | ⟨he, rfl⟩⟩ := h
  · have hlt : v m < a := lt_of_le_of_ne hlo (Ne.symm (hup.mp hne))
    refine ⟨hhi.le, fun hay => ?_⟩
    rw [abs_of_nonneg (by linarith)] at hy
    exact hy.resolve_left (by linarith)
  · have hea : a = v n := not_not.mp fun hne => he (hup.mpr hne)
    exact ⟨hea.le, fun hay => hea ▸ hay⟩

/-- Towards zero: the lower neighbour. -/
theorem toward (h : RoundsTo v rm neg a m n) (hrm : rm = 1 ∧ neg = true ∨ rm = 2 ∧ neg = false ∨ rm = 3) : n = m := by
  refine (h.pick.resolve_left fun hp => ?_).2
  rcases hrm with ⟨rfl, rfl⟩ | ⟨rfl, rfl⟩ | rfl <;> simp [RoundsUp] at hp

/-- The place taken is exact where the lower neighbour is. -/
theorem value_eq_iff (h : RoundsTo v rm neg a m n) : v n = a ↔ v m = a := by
  have hne : v (m + 1) ≠ a := h.above.ne'
  rcases h.pick with ⟨hup, rfl⟩ | ⟨-, rfl⟩
  · refine iff_of_false hne fun he => ?_
    have hgt := h.above
    rcases hup with ⟨-, hlt | ⟨htie, -⟩⟩ | ⟨-, -, hn⟩ | ⟨-, -, hn⟩
    · linarith
    · linarith
    · exact hn he.symm
    · exact hn he.symm
  · rfl

/-- The greatest not above. -/
theorem toward_le (h : RoundsTo v rm neg a m n) (hrm : rm = 1 ∧ neg = true ∨ rm = 2 ∧ neg = false ∨ rm = 3)
    (h0 : 0 ≤ v m) (hy : |y| ≤ v m ∨ v (m + 1) ≤ |y|) : v n ≤ a ∧ (y ≤ a → y ≤ v n) := by
  rw [h.toward hrm]
  refine ⟨h.below, fun hya => ?_⟩
  rcases hy with hy | hy
  · exact (abs_le.mp hy).2
  · have hneg : y ≤ -v (m + 1) := by
      rcases le_abs.mp hy with hy | hy <;> linarith [h.above]
    linarith [h.below, h.above]

end RoundsTo

/-! ## The leading bit -/

/-- A quotient of numbers with leading bits `a` and `b` has its own at `a - b` or one below. -/
theorem div_bounds_of_log2 {num den : Nat} (hn : num ≠ 0) (hd : den ≠ 0) :
    (2 : ℚ) ^ ((num.log2 : Int) - den.log2 - 1) ≤ num / den ∧
      (num / den : ℚ) < 2 ^ ((num.log2 : Int) - den.log2 + 1) := by
  have hden : (0 : ℚ) < den := by positivity
  have hnlo : ((2 ^ num.log2 : Nat) : ℚ) ≤ num := by exact_mod_cast Nat.log2_self_le hn
  have hdlo : ((2 ^ den.log2 : Nat) : ℚ) ≤ den := by exact_mod_cast Nat.log2_self_le hd
  have hnhi : (num : ℚ) < (2 ^ (num.log2 + 1) : Nat) := by exact_mod_cast Nat.lt_log2_self
  have hdhi : (den : ℚ) < (2 ^ (den.log2 + 1) : Nat) := by exact_mod_cast Nat.lt_log2_self
  push_cast at hnlo hdlo hnhi hdhi
  rw [le_div_iff₀ hden, div_lt_iff₀ hden]
  constructor
  · calc (2 : ℚ) ^ ((num.log2 : Int) - den.log2 - 1) * den
        ≤ 2 ^ ((num.log2 : Int) - den.log2 - 1) * 2 ^ (den.log2 + 1) := by gcongr
      _ = 2 ^ num.log2 := by
        rw [← zpow_natCast, ← zpow_natCast, ← zpow_add₀ two_ne_zero]
        congr 1
        push_cast
        ring
      _ ≤ num := hnlo
  · calc (num : ℚ) < 2 ^ (num.log2 + 1) := hnhi
      _ = 2 ^ ((num.log2 : Int) - den.log2 + 1) * 2 ^ den.log2 := by
        rw [← zpow_natCast, ← zpow_natCast, ← zpow_add₀ two_ne_zero]
        congr 1
        push_cast
        ring
      _ ≤ 2 ^ ((num.log2 : Int) - den.log2 + 1) * den := by gcongr

/-- The exponent of the leading bit of a quotient. -/
theorem leading_spec {num den : Nat} (hn : num ≠ 0) (hd : den ≠ 0) :
    (2 : ℚ) ^ leading num den ≤ num / den ∧ (num / den : ℚ) < 2 ^ (leading num den + 1) := by
  obtain ⟨hlo, hhi⟩ := div_bounds_of_log2 hn hd
  have hden : (0 : ℚ) < den := by positivity
  have hlead : leading num den = if (num / den : ℚ) < 2 ^ ((num.log2 : Int) - den.log2) then
      (num.log2 : Int) - den.log2 - 1 else (num.log2 : Int) - den.log2 := by
    dsimp only [leading]
    generalize (num.log2 : Int) - den.log2 = e
    split
    next h =>
      obtain ⟨k, rfl⟩ := Int.eq_ofNat_of_zero_le h
      refine if_congr ?_ rfl rfl
      rw [div_lt_iff₀' hden]
      exact_mod_cast Iff.rfl
    next h =>
      obtain ⟨k, hk⟩ := Int.eq_ofNat_of_zero_le (show 0 ≤ -e by omega)
      obtain rfl : e = -k := by omega
      refine if_congr ?_ rfl rfl
      rw [zpow_neg, ← one_div, div_lt_div_iff₀ hden (by positivity), one_mul, neg_neg]
      exact_mod_cast Iff.rfl
  rw [hlead]
  split
  next h => exact ⟨hlo, by simpa using h⟩
  next h => exact ⟨not_lt.mp h, hhi⟩

/-! ## A number in units of a power of two -/

/-- `x` divided by `2^q`. -/
def Exact.inUnits (x : Exact) (q : Int) : Exact :=
  if 0 ≤ q then ⟨x.neg, x.num, x.den * 2 ^ q.toNat⟩ else ⟨x.neg, x.num * 2 ^ (-q).toNat, x.den⟩

theorem Exact.inUnits_den {x : Exact} (h : x.den ≠ 0) (q : Int) : (x.inUnits q).den ≠ 0 := by
  unfold inUnits
  split
  · exact Nat.mul_ne_zero h (Nat.two_pow_pos _).ne'
  · exact h

theorem Exact.inUnits_div (x : Exact) (q : Int) : ((x.inUnits q).num / (x.inUnits q).den : ℚ) * 2 ^ q = x.num / x.den := by
  unfold inUnits
  split
  next h =>
    obtain ⟨n, rfl⟩ := Int.eq_ofNat_of_zero_le h
    simp
    field_simp
  next h =>
    obtain ⟨n, hn⟩ := Int.eq_ofNat_of_zero_le (show 0 ≤ -q by omega)
    obtain rfl : q = -n := by omega
    simp
    field_simp

namespace FloatFmt

variable {f : FloatFmt} {rm : BitVec 2} {x : Exact}

/-- The exponent of the units that a number is rounded in. -/
def quantum (f : FloatFmt) (x : Exact) : Int :=
  if leading x.num x.den < 1 - (f.bias : Int) then f.lowest else leading x.num x.den - f.fracBits

/-- The magnitude that a number is rounded to. -/
def roundedMag (f : FloatFmt) (rm : BitVec 2) (x : Exact) : Nat :=
  (f.quantum x - f.lowest).toNat * 2 ^ f.fracBits +
    (roundNat rm x.neg (x.inUnits (f.quantum x)).num (x.inUnits (f.quantum x)).den).1

theorem round_zero (h : x.num = 0) : f.round rm x = { value := f.withSign x.neg 0 } := if_pos h

theorem round_unfold (h : x.num ≠ 0) : f.round rm x =
    if f.limit ≤ f.roundedMag rm x then { value := f.withSign x.neg (f.overflowMag rm x.neg), fv := true, fx := true }
    else { value := f.withSign x.neg (f.roundedMag rm x), fu := decide (leading x.num x.den < 1 - (f.bias : Int)),
           fx := (roundNat rm x.neg (x.inUnits (f.quantum x)).num (x.inUnits (f.quantum x)).den).2 } := by
  simp only [round, if_neg h, roundedMag, quantum, decide_eq_true_eq]
  rfl

/-- In its units a number has as many bits as a fraction and the leading bit, fewer only in the lowest units. -/
theorem quantum_spec (hn : x.num ≠ 0) (hd : x.den ≠ 0) : ∃ k : Nat, f.quantum x = f.lowest + k ∧
    (x.num / x.den : ℚ) < 2 ^ (f.fracBits + 1) * 2 ^ f.quantum x ∧
    ((2 : ℚ) ^ f.fracBits * 2 ^ f.quantum x ≤ x.num / x.den ∨ k = 0) := by
  obtain ⟨hlo, hhi⟩ := leading_spec hn hd
  have hlow : f.lowest = 1 - (f.bias : Int) - f.fracBits := rfl
  unfold quantum
  generalize leading x.num x.den = e at *
  rw [← zpow_natCast, ← zpow_natCast, ← zpow_add₀ two_ne_zero, ← zpow_add₀ two_ne_zero]
  split
  next h =>
    refine ⟨0, by simp, hhi.trans_le (zpow_le_zpow_right₀ one_le_two ?_), .inr rfl⟩
    push_cast
    omega
  next h =>
    refine ⟨(e - f.fracBits - f.lowest).toNat, by omega, hhi.trans_le (zpow_le_zpow_right₀ one_le_two ?_),
      .inl ((zpow_le_zpow_right₀ one_le_two ?_).trans hlo)⟩
    · push_cast
      omega
    · omega

/-- A number is rounded to one of the two data that it lies between. -/
theorem roundedMag_roundsTo (hp : f.Proper) (rm : BitVec 2) (hn : x.num ≠ 0) (hd : x.den ≠ 0) :
    ∃ m, RoundsTo f.magReal rm x.neg (x.num / x.den) m (f.roundedMag rm x) ∧
      ((roundNat rm x.neg (x.inUnits (f.quantum x)).num (x.inUnits (f.quantum x)).den).2 = true ↔
        (x.num / x.den : ℚ) ≠ f.magReal m) := by
  obtain ⟨k, hk, hhi, hlo⟩ := f.quantum_spec hn hd
  have hdiv := x.inUnits_div (f.quantum x)
  obtain ⟨hround, hexact⟩ := roundNat_roundsTo rm x.neg (x.inUnits (f.quantum x)).num (Exact.inUnits_den hd (f.quantum x))
  have hunits : (0 : ℚ) < 2 ^ f.quantum x := zpow_pos two_pos _
  unfold roundedMag
  generalize hy : x.inUnits (f.quantum x) = y at *
  generalize hm : y.num / y.den = m at *
  rw [← hdiv, mul_lt_mul_iff_left₀ hunits] at hhi
  rw [← hdiv, mul_le_mul_iff_left₀ hunits] at hlo
  have hmlt : m < 2 * 2 ^ f.fracBits := by
    rw [← pow_succ']
    exact_mod_cast hround.below.trans_lt hhi
  have hmge : 2 ^ f.fracBits ≤ m ∨ k = 0 := hlo.imp_left fun h => by
    exact Nat.lt_succ_iff.mp (by exact_mod_cast h.trans_lt hround.above)
  have hgrid : ∀ n, n ≤ m + 1 → m ≤ n → f.magReal (k * 2 ^ f.fracBits + n) = n * 2 ^ f.quantum x := fun n hn1 hn2 => by
    rw [hk, f.magReal_add (by omega) (by omega)]
  have heven : k * 2 ^ f.fracBits % 2 = 0 :=
    Nat.mod_eq_zero_of_dvd ((dvd_pow_self 2 (Nat.one_le_iff_ne_zero.mp hp.frac)).mul_left k)
  rw [show (f.quantum x - f.lowest).toNat = k by omega, ← hdiv]
  refine ⟨k * 2 ^ f.fracBits + m, hround.scale hunits heven (hgrid m (by omega) le_rfl) (hgrid (m + 1) le_rfl (by omega)), ?_⟩
  rw [hexact, hgrid m (by omega) le_rfl, ne_eq, ne_eq, mul_left_inj' hunits.ne']

/-- A number is tiny where it is below the least normal number. -/
theorem tiny_iff (f : FloatFmt) (hn : x.num ≠ 0) (hd : x.den ≠ 0) :
    leading x.num x.den < 1 - (f.bias : Int) ↔ (x.num / x.den : ℚ) < 2 ^ (1 - (f.bias : Int)) := by
  obtain ⟨hlo, hhi⟩ := leading_spec hn hd
  constructor
  · exact fun h => hhi.trans_le (zpow_le_zpow_right₀ one_le_two (by omega))
  · intro h
    by_contra hge
    exact absurd ((zpow_le_zpow_right₀ one_le_two (not_lt.mp hge)).trans hlo) (not_le.mpr h)

/-! ## The datum of a rounding mode (R540, R542) -/

section Datum
variable {neg : Bool} {a : ℚ} {m n : Nat}

theorem withSign_mod_two (hp : f.Proper) (s : Bool) (m : Nat) : f.withSign s m % 2 = m % 2 := by
  have hdvd : 2 ∣ 2 ^ (f.expBits + f.fracBits) := dvd_pow_self 2 (by have := hp.exp; omega)
  unfold withSign
  split
  · omega
  · rfl

/-- A number of the grid that is odd is not 0. -/
theorem magReal_pos_of_odd (f : FloatFmt) (h : m % 2 = 1) : 0 < f.magReal m :=
  f.magReal_zero ▸ f.magReal_strictMono (show 0 < m by omega)

/-- The datum on the grid is the one that the mode names among all finite data. -/
theorem rounded_of_roundsTo (hp : f.Proper) (h : RoundsTo f.magReal rm neg a m n) (hlt : n < f.limit) :
    f.Rounded rm (signOf neg * a) (f.withSign neg n) := by
  have hw := hlt.trans f.limit_lt
  have h0 := f.magReal_nonneg m
  have ha0 : 0 ≤ a := h0.trans h.below
  refine ⟨(f.finite_iff _).mpr ⟨withSign_lt neg hw, by rwa [mag_withSign neg hw]⟩, fun y _ => ?_⟩
  have hgap : |signOf neg * f.real y| ≤ f.magReal m ∨ f.magReal (m + 1) ≤ |signOf neg * f.real y| :=
    RoundsTo.gap f.magReal_strictMono m (k := f.mag y) (by rw [abs_signOf_mul, abs_real])
  simp only [magnitude_eq, real_withSign neg hw, withSign_mod_two hp]
  have hdist : ∀ b : ℚ, |b - signOf neg * a| = |signOf neg * b - a| := fun b => by
    rw [← abs_signOf_mul neg (b - signOf neg * a), mul_sub, signOf_mul_cancel]
  refine ⟨?_, ?_, ?_, ?_⟩
  · rintro rfl
    obtain ⟨hle, heq⟩ := h.nearest h0 f.magReal_pos_of_odd hgap
    rw [hdist, hdist, signOf_mul_cancel]
    refine ⟨hle, fun e => (heq e).imp_left fun hy => ?_⟩
    rw [← hy, signOf_mul_cancel]
  · rintro rfl
    cases neg with
    | false => simpa using h.away (.inl ⟨rfl, rfl⟩) h0 hgap
    | true => simpa [neg_le] using h.toward_le (.inl ⟨rfl, rfl⟩) h0 hgap
  · rintro rfl
    cases neg with
    | false => simpa using h.toward_le (.inr (.inl ⟨rfl, rfl⟩)) h0 hgap
    | true => simpa [le_neg] using h.away (.inr ⟨rfl, rfl⟩) h0 hgap
  · rintro rfl
    obtain rfl := h.toward (.inr (.inr rfl))
    rw [hdist, hdist, signOf_mul_cancel, abs_signOf_mul, abs_signOf_mul, abs_of_nonneg h0, abs_of_nonneg ha0,
      abs_sub_comm, abs_of_nonneg (sub_nonneg.mpr h.below)]
    rw [abs_signOf_mul] at hgap
    refine ⟨h.below, fun hy => ?_⟩
    have hin : |signOf neg * f.real y| ≤ f.magReal n := by
      rw [abs_signOf_mul]
      exact hgap.resolve_right fun hge => absurd h.above (not_lt.mpr (hge.trans hy))
    linarith [abs_le.mp hin, neg_abs_le (signOf neg * f.real y - a)]

end Datum

/-! ## Overflow (R543, R555) -/

/-- The real value of the magnitude after the largest finite one. -/
theorem magReal_limit (hp : f.Proper) : f.magReal f.limit = 2 ^ ((f.bias : Int) + 1) := by
  obtain ⟨htop, hb⟩ := hp.top_eq
  have hsplit : f.limit = (f.top - 1) * 2 ^ f.fracBits + 2 ^ f.fracBits := by
    rw [← Nat.succ_mul, limit]
    congr 1
    omega
  rw [hsplit, f.magReal_add (by omega) (.inl le_rfl)]
  push_cast
  rw [← zpow_natCast, ← zpow_add₀ two_ne_zero]
  congr 1
  rw [lowest]
  omega

/-- The real value of the largest finite magnitude. -/
theorem magReal_largest (hp : f.Proper) : f.magReal (f.limit - 1) = f.largest := by
  obtain ⟨htop, hb⟩ := hp.top_eq
  have hsplit : f.limit - 1 = (f.top - 2) * 2 ^ f.fracBits + (2 * 2 ^ f.fracBits - 1) := by
    have hmul : f.top * 2 ^ f.fracBits = (f.top - 2) * 2 ^ f.fracBits + 2 * 2 ^ f.fracBits := by
      rw [← Nat.add_mul]
      congr 1
      omega
    have := Nat.two_pow_pos f.fracBits
    rw [limit]
    omega
  have hcast : ((2 * 2 ^ f.fracBits - 1 : Nat) : ℚ) = 2 * 2 ^ f.fracBits - 1 := by
    rw [Nat.cast_sub (by have := Nat.two_pow_pos f.fracBits; omega)]
    push_cast
    rfl
  have := Nat.two_pow_pos f.fracBits
  rw [hsplit, f.magReal_add (by omega) (.inl (by omega)), largest, pow2_eq, pow2_eq, hcast, sub_mul, one_mul,
    ← pow_succ', ← zpow_natCast, ← zpow_add₀ two_ne_zero]
  congr 2
  · rw [lowest]
    omega
  · rw [lowest]
    omega

section Overflow
variable {neg : Bool} {a : ℚ} {m n : Nat}

/-- Where a magnitude stands against one of the grid, its lower neighbour does. -/
theorem le_place_iff (h : RoundsTo f.magReal rm neg a m n) (k : Nat) : k ≤ m ↔ f.magReal k ≤ a := by
  constructor
  · exact fun hk => (f.magReal_strictMono.monotone hk).trans h.below
  · intro hk
    exact Nat.lt_succ_iff.mp (f.magReal_strictMono.lt_iff_lt.mp (hk.trans_lt h.above))

theorem limit_even (hp : f.Proper) : f.limit % 2 = 0 :=
  Nat.mod_eq_zero_of_dvd ((dvd_pow_self 2 (Nat.one_le_iff_ne_zero.mp hp.frac)).mul_left _)

/-- To nearest, what is no nearer to the largest finite number than to the next one overflows. -/
theorem limit_le_nearest (hp : f.Proper) (h : RoundsTo f.magReal 0 neg a m n) :
    f.limit ≤ n ↔ f.magReal (f.limit - 1) + f.magReal f.limit ≤ 2 * a := by
  have hpos := hp.limit_pos
  have heven := limit_even hp
  have hstep := f.magReal_strictMono (show f.limit - 1 < f.limit by omega)
  have hlast := le_place_iff h (f.limit - 1)
  have hlim := le_place_iff h f.limit
  rcases lt_trichotomy (m + 1) f.limit with hm | hm | hm
  · have hlt : a < f.magReal (f.limit - 1) := not_le.mp fun hle => by
      have := hlast.mpr hle
      omega
    have hn : n ≤ m + 1 := by
      rcases h.pick with ⟨-, hn⟩ | ⟨-, hn⟩ <;> omega
    exact ⟨fun hle => by omega, fun hle => by linarith⟩
  · obtain rfl : m = f.limit - 1 := by omega
    have hpick := h.pick
    rw [show f.limit - 1 + 1 = f.limit by omega] at hpick
    simp only [RoundsUp, true_and] at hpick
    rcases hpick with ⟨hup, hn⟩ | ⟨hup, hn⟩
    · refine ⟨fun _ => ?_, fun _ => by omega⟩
      rcases hup with (hup | ⟨hup, -⟩) | ⟨h0, -⟩ | ⟨h0, -⟩
      · exact hup.le
      · exact hup.le
      · simp at h0
      · simp at h0
    · refine ⟨fun _ => by omega, fun hle => absurd ?_ hup⟩
      exact .inl (hle.lt_or_eq.imp_right fun e => ⟨e, by omega⟩)
  · have hle := hlim.mp (by omega)
    have hn : m ≤ n := by
      rcases h.pick with ⟨-, hn⟩ | ⟨-, hn⟩ <;> omega
    exact ⟨fun _ => by linarith, fun _ => by omega⟩

/-- Away from zero, what is beyond the largest finite number overflows. -/
theorem limit_le_away (hp : f.Proper) (h : RoundsTo f.magReal rm neg a m n)
    (hrm : rm = 1 ∧ neg = false ∨ rm = 2 ∧ neg = true) : f.limit ≤ n ↔ f.magReal (f.limit - 1) < a := by
  have hpos := hp.limit_pos
  have hlast := le_place_iff h (f.limit - 1)
  obtain ⟨hle, hleast⟩ := h.away hrm (f.magReal_nonneg m) (RoundsTo.gap f.magReal_strictMono m
    (k := f.limit - 1) (abs_of_nonneg (f.magReal_nonneg _)))
  constructor
  · intro hn
    by_contra ha
    have := f.magReal_strictMono.le_iff_le.mp (hleast (not_lt.mp ha))
    omega
  · intro ha
    have := f.magReal_strictMono.lt_iff_lt.mp (ha.trans_le hle)
    omega

theorem overflows_iff (hp : f.Proper) (h : RoundsTo f.magReal rm neg a m n) (ha : 0 < a) :
    f.Overflows rm (signOf neg * a) ↔ f.limit ≤ n := by
  have hhalf := pow2_eq_two_mul ((f.bias : Int) - f.fracBits)
  have hmag : magnitude (signOf neg * a) = a := by rw [magnitude_eq, abs_signOf_mul, abs_of_pos ha]
  have htoward : rm = 1 ∧ neg = true ∨ rm = 2 ∧ neg = false ∨ rm = 3 →
      (pow2 ((f.bias : Int) + 1) ≤ a ↔ f.limit ≤ n) := fun hrm => by
    rw [pow2_eq, ← magReal_limit hp, h.toward hrm, le_place_iff h]
  rw [Overflows, hmag]
  rcases roundingMode_cases rm with rfl | rfl | rfl | rfl
  · rw [if_pos rfl, limit_le_nearest hp h, magReal_largest hp, magReal_limit hp, largest, ← pow2_eq, hhalf]
    constructor <;> intro <;> linarith
  · cases neg with
    | false => simpa [ha, magReal_largest hp] using (limit_le_away hp h (.inl ⟨rfl, rfl⟩)).symm
    | true => simpa [not_lt.mpr ha.le] using htoward (.inl ⟨rfl, rfl⟩)
  · cases neg with
    | false => simpa [not_lt.mpr ha.le] using htoward (.inr (.inl ⟨rfl, rfl⟩))
    | true => simpa [ha, magReal_largest hp] using (limit_le_away hp h (.inr ⟨rfl, rfl⟩)).symm
  · simpa using htoward (.inr (.inr rfl))

theorem withSign_overflowMag (f : FloatFmt) (rm : BitVec 2) (s : Bool) :
    f.withSign s (f.overflowMag rm s) = f.overflowValue rm s := by
  rcases roundingMode_cases rm with rfl | rfl | rfl | rfl <;> cases s <;> rfl

end Overflow

/-! ## Rounding (R540 to R545, R555, R558) -/

theorem magReal_normal (f : FloatFmt) : f.magReal (2 ^ f.fracBits) = 2 ^ (1 - (f.bias : Int)) := by
  have h := f.magReal_add (k := 0) (n := 2 ^ f.fracBits) (by omega) (.inr rfl)
  rw [Nat.zero_mul, Nat.zero_add] at h
  rw [h]
  push_cast
  rw [← zpow_natCast, ← zpow_add₀ two_ne_zero]
  congr 1
  rw [lowest]
  omega

/-- What overflows is no tiny number. -/
theorem normal_of_limit_le (hp : f.Proper) {neg : Bool} {a : ℚ} {m n : Nat} (h : RoundsTo f.magReal rm neg a m n)
    (hn : f.limit ≤ n) : (2 : ℚ) ^ (1 - (f.bias : Int)) ≤ a := by
  have hm : n ≤ m + 1 := by
    rcases h.pick with ⟨-, hn⟩ | ⟨-, hn⟩ <;> omega
  have hlim : 2 * 2 ^ f.fracBits ≤ f.limit := by
    obtain ⟨htop, hb⟩ := hp.top_eq
    exact Nat.mul_le_mul_right _ (by omega)
  have := Nat.two_pow_pos f.fracBits
  rw [← magReal_normal, ← le_place_iff h]
  omega

/-- The rounding of a number other than 0 to a format, subnormal results kept. -/
structure RoundSpec (f : FloatFmt) (rm : BitVec 2) (x : Exact) (q : FpResult) : Prop where
  fv : q.fv = true ↔ f.Overflows rm x.real
  datum : q.fv = false → f.Rounded rm x.real q.value ∧ f.neg q.value = x.neg ∧ (q.fx = true ↔ f.real q.value ≠ x.real)
  overflow : q.fv = true → q.value = f.overflowValue rm x.neg ∧ q.fx = true
  fu : q.fu = true ↔ magnitude x.real < pow2 (1 - (f.bias : Int))
  others : q.fi = false ∧ q.fz = false

theorem round_spec (hp : f.Proper) (rm : BitVec 2) (hn : x.num ≠ 0) (hd : x.den ≠ 0) :
    f.RoundSpec rm x (f.round rm x) := by
  obtain ⟨m, hround, hexact⟩ := roundedMag_roundsTo hp rm hn hd
  have hpos : (0 : ℚ) < x.num / x.den := by positivity
  have hover := overflows_iff hp hround hpos
  have htiny := f.tiny_iff hn hd
  have hmag : magnitude x.real = x.num / x.den := by rw [magnitude_eq, Exact.abs_real]
  rw [← Exact.real_eq] at hover
  rw [round_unfold hn]
  by_cases hlim : f.limit ≤ f.roundedMag rm x
  · rw [if_pos hlim]
    exact ⟨iff_of_true rfl (hover.mpr hlim), nofun, fun _ => ⟨f.withSign_overflowMag rm x.neg, rfl⟩,
      iff_of_false nofun (by rw [hmag, pow2_eq, not_lt]; exact normal_of_limit_le hp hround hlim), rfl, rfl⟩
  · rw [if_neg hlim]
    have hw := (not_le.mp hlim).trans f.limit_lt
    refine ⟨iff_of_false nofun fun ho => hlim (hover.mp ho), fun _ => ⟨?_, neg_withSign _ hw, ?_⟩, nofun, ?_, rfl, rfl⟩
    · rw [Exact.real_eq]
      exact rounded_of_roundsTo hp hround (not_le.mp hlim)
    · rw [hexact, real_withSign _ hw, Exact.real_eq, ne_eq, ne_eq, signOf_mul_right_inj, hround.value_eq_iff, eq_comm]
    · rw [hmag, pow2_eq, ← htiny, decide_eq_true_iff]

/-- A zero is rounded to the zero of its sign. -/
theorem rounded_zero (hp : f.Proper) (rm : BitVec 2) (s : Bool) :
    f.Rounded rm 0 (f.withSign s 0) ∧ ¬ f.Overflows rm 0 := by
  have hstep := f.magReal_strictMono Nat.one_pos
  rw [magReal_zero] at hstep
  have hround : RoundsTo f.magReal rm s 0 0 0 :=
    ⟨by simp, by simpa using hstep, .inr ⟨by simp [RoundsUp, hstep.le], rfl⟩⟩
  refine ⟨by simpa using rounded_of_roundsTo hp hround hp.limit_pos, ?_⟩
  have htop := pow2_pos ((f.bias : Int) + 1)
  have hhalf : pow2 ((f.bias : Int) - f.fracBits - 1) < pow2 ((f.bias : Int) + 1) := by
    rw [pow2_eq, pow2_eq]
    exact zpow_lt_zpow_right₀ one_lt_two (by omega)
  have hmag : magnitude 0 = 0 := by simp [magnitude_eq]
  rcases roundingMode_cases rm with rfl | rfl | rfl | rfl <;> simp [Overflows, hmag, htop, hhalf]

end FloatFmt

/-! ## Rounding in a precision (R527, R528, R531) -/

/-- Rounding keeps the sign. -/
theorem FloatFmt.RoundSpec.neg_value {f : FloatFmt} {rm : BitVec 2} {x : Exact} {q : FpResult} (h : f.RoundSpec rm x q) :
    f.neg q.value = x.neg := by
  cases hv : q.fv with
  | false => exact (h.datum hv).2.1
  | true =>
    rw [(h.overflow hv).1]
    exact neg_withSign _ ((Nat.sub_le _ _).trans_lt f.limit_lt)

theorem Precision.ftz_zero (p : Precision) (s : Bool) : p.ftz (p.fmt.withSign s 0) = p.fmt.withSign s 0 := by
  have hmag : p.fmt.mag (p.fmt.withSign s 0) = 0 := FloatFmt.mag_withSign s (Nat.two_pow_pos _)
  refine if_neg fun h => ?_
  exact ((p.fmt.isSub_iff _).mp ((Bool.and_eq_true _ _).mp h).2).1 hmag

theorem Precision.round_zero {p : Precision} {x : Exact} (rm : BitVec 2) (h : x.num = 0) :
    p.round rm x = { value := p.fmt.withSign x.neg 0 } := by
  unfold round
  rw [FloatFmt.round_zero h]
  split
  · simp [p.ftz_zero]
  · rfl

theorem Precision.ftz_flush {p : Precision} (h : p.flush = true) (x : Nat) :
    p.ftz x = if p.fmt.isSub x then p.fmt.withSign (p.fmt.neg x) 0 else x := by
  simp [ftz, h]

theorem Precision.round_flush {p : Precision} (h : p.flush = true) (rm : BitVec 2) (x : Exact) :
    p.round rm x = { p.fmt.round rm x with
      value := p.ftz (p.fmt.round rm x).value, fx := (p.fmt.round rm x).fx || (p.fmt.round rm x).fu } := if_pos h

theorem Precision.round_keep {p : Precision} (h : p.flush = false) (rm : BitVec 2) (x : Exact) :
    p.round rm x = { p.fmt.round rm x with fu := (p.fmt.round rm x).fu && (p.fmt.round rm x).fx } :=
  if_neg (by simp [h])

/-- Settles O57: rounding to the format, then what the precision makes of a tiny result. -/
theorem rounding : Obligations.rounding := by
  intro p rm x hp hd f r q z
  have hproper := FloatFmt.Proper.ofPrecision hp
  refine ⟨Precision.round_zero rm, fun hn => ?_⟩
  have hspec : f.RoundSpec rm x q := FloatFmt.round_spec hproper rm hn hd
  refine ⟨hspec.fv, hspec.datum, hspec.overflow, ?_⟩
  have hne : Precision.single ≠ .double := by decide
  rcases hp with hp | hp
  · have hflush : p.flush = true := by rw [hp, Precision.single]
    have hbias : (-126 : Int) = 1 - (f.bias : Int) := by
      rw [show f = .single from congrArg Precision.fmt hp]
      rfl
    rw [show z = _ from Precision.round_flush hflush rm x, hbias]
    refine ⟨rfl, hspec.others.1, hspec.others.2, fun _ => ⟨?_, hspec.fu, rfl⟩, fun h => absurd (hp.symm.trans h) hne⟩
    rw [← hspec.neg_value]
    exact Precision.ftz_flush hflush q.value
  · have hflush : p.flush = false := by rw [hp, Precision.double]
    have hbias : (-1022 : Int) = 1 - (f.bias : Int) := by
      rw [show f = .double from congrArg Precision.fmt hp]
      rfl
    rw [show z = _ from Precision.round_keep hflush rm x, hbias, ← hspec.fu]
    exact ⟨rfl, hspec.others.1, hspec.others.2, fun h => absurd (h.symm.trans hp) hne,
      fun _ => ⟨rfl, Bool.and_eq_true_iff, rfl⟩⟩

end Sys2Proof.Machine
end

section
/-! PROOFS. The arithmetic without a NaN (44_fpu R541, R553, R554, R556, R564 to R569, R601 to R606): exact values, then what each
operation makes of finite operands, infinities and zeros. -/

namespace Sys2Proof.Machine

/-! ## Exact operations -/

namespace Exact

variable {x y : Exact}

theorem mul_den (hx : x.den ≠ 0) (hy : y.den ≠ 0) : (x.mul y).den ≠ 0 := Nat.mul_ne_zero hx hy

theorem mul_real (x y : Exact) : (x.mul y).real = x.real * y.real := by
  simp only [real_eq, mul, signOf_xor]
  push_cast
  ring

theorem div_den (hx : x.den ≠ 0) (hy : y.num ≠ 0) : (x.div y).den ≠ 0 := Nat.mul_ne_zero hx hy

theorem div_real (x y : Exact) : (x.div y).real = x.real / y.real := by
  have hsign : ∀ s, (signOf s)⁻¹ = signOf s := fun s => by cases s <;> simp
  simp only [real_eq, div, signOf_xor, div_eq_mul_inv, mul_inv, hsign, inv_inv]
  push_cast
  ring

/-- The sign of an exact sum that is 0 (44_fpu section 6). -/
def sumSign (rm : BitVec 2) (a b : Bool) : Bool := if a = b then a else rm == 2

theorem add_spec (rm : BitVec 2) (hx : x.den ≠ 0) (hy : y.den ≠ 0) : (add rm x y).den ≠ 0 ∧
    (add rm x y).real = x.real + y.real ∧ ((add rm x y).num = 0 → (add rm x y).neg = sumSign rm x.neg y.neg) := by
  have hsum : x.real + y.real = ((x.signed * y.den + y.signed * x.den : Int) : ℚ) / (x.den * y.den : Nat) := by
    rw [real, real, div_add_div _ _ (Nat.cast_ne_zero.mpr hx) (Nat.cast_ne_zero.mpr hy)]
    push_cast
    ring
  rw [hsum]
  dsimp only [add]
  generalize x.signed * y.den + y.signed * x.den = n
  split
  next h => simp [h, real, signed, sumSign]
  next h =>
    refine ⟨Nat.mul_ne_zero hx hy, ?_, fun hn => absurd (Int.natAbs_eq_zero.mp hn) h⟩
    have hsigned : signed ⟨decide (n < 0), n.natAbs, x.den * y.den⟩ = n := by
      by_cases hneg : n < 0
      · simp only [signed, hneg, decide_true, if_true]
        omega
      · simp only [signed, hneg, decide_false, Bool.false_eq_true, if_false]
        omega
    rw [real, hsigned]

end Exact

/-! ## Operands -/

namespace Precision

variable {p : Precision} {rm : BitVec 2} {d x y : Nat}

/-- `q` is the real number `r` with one rounding, the sign of a zero being `zeroNeg`. -/
def RoundsOnce (p : Precision) (rm : BitVec 2) (q : FpResult) (r : ℚ) (zeroNeg : Bool) : Prop :=
  ∃ e : Exact, e.den ≠ 0 ∧ e.real = r ∧ (e.num = 0 → e.neg = zeroNeg) ∧ q = p.round rm e

/-- The exact value of an operand. -/
theorem operand_spec (p : Precision) (x : Nat) : (p.fmt.value (p.ftz x)).den ≠ 0 ∧
    (p.fmt.value (p.ftz x)).real = p.fmt.real (p.ftz x) ∧ (p.fmt.value (p.ftz x)).neg = p.fmt.neg x ∧
    ((p.fmt.value (p.ftz x)).num = 0 ↔ p.fmt.isZero (p.ftz x) = true) :=
  ⟨p.fmt.value_den _, p.fmt.value_real _, (p.fmt.value_neg _).trans (p.neg_ftz x),
    (p.fmt.value_num _).trans (p.fmt.isZero_iff _).symm⟩

theorem isZero_ftz_flip (p : Precision) (x : Nat) :
    p.fmt.isZero (p.ftz (p.fmt.flip x)) = p.fmt.isZero (p.ftz x) :=
  (FloatFmt.class_of_mag (p.mag_ftz_flip x)).2.2.1

/-- An infinity is no zero. -/
theorem not_isZero_of_isInf (hp : p.fmt.Proper) (h : p.fmt.isInf x = true) : p.fmt.isZero (p.ftz x) = false := by
  have hlim := hp.limit_pos
  have hsub : p.fmt.isSub x = false := by
    rw [← Bool.not_eq_true, FloatFmt.isSub_iff, (p.fmt.isInf_iff x).mp h, FloatFmt.limit, hp.top_eq.1]
    have := Nat.two_pow_pos p.fmt.fracBits
    exact fun hlt => absurd hlt.2 (not_lt.mpr (Nat.le_mul_of_pos_left _ (Nat.succ_pos _)))
  rw [← Bool.not_eq_true, FloatFmt.isZero_iff, mag_ftz, hsub, Bool.and_false, if_neg (by simp),
    (p.fmt.isInf_iff x).mp h]
  omega

/-! ## Sums (R564, R565) -/

theorem add_finite (hx : p.fmt.finite x) (hy : p.fmt.finite y) :
    p.RoundsOnce rm (p.add rm x y) (p.fmt.real (p.ftz x) + p.fmt.real (p.ftz y))
      (Exact.sumSign rm (p.fmt.neg x) (p.fmt.neg y)) := by
  obtain ⟨hdx, hrx, hnx, -⟩ := p.operand_spec x
  obtain ⟨hdy, hry, hny, -⟩ := p.operand_spec y
  obtain ⟨hd, hr, hs⟩ := Exact.add_spec rm hdx hdy
  refine ⟨_, hd, by rw [hr, hrx, hry], fun h => by rw [hs h, hnx, hny], ?_⟩
  simp [add, hx.class, hy.class]

theorem add_inf_left (hx : p.fmt.isInf x = true) (hy : p.fmt.isNan y = false)
    (hs : p.fmt.isInf y = true → p.fmt.neg x = p.fmt.neg y) : p.add rm x y = { value := x } := by
  have hnan := FloatFmt.not_isNan_of_isInf hx
  cases hi : p.fmt.isInf y with
  | false => simp [add, hx, hy, hnan, hi]
  | true => simp [add, hx, hy, hnan, hi, hs hi]

theorem add_inf_right (hx : p.fmt.finite x) (hy : p.fmt.isInf y = true) : p.add rm x y = { value := y } := by
  simp [add, hx.class, hy, FloatFmt.not_isNan_of_isInf hy]

theorem add_invalid (hx : p.fmt.isInf x = true) (hy : p.fmt.isInf y = true) (hs : p.fmt.neg x ≠ p.fmt.neg y) :
    p.add rm x y = { value := p.qnan + 1, fi := true } := by
  simp [add, hx, hy, FloatFmt.not_isNan_of_isInf hx, FloatFmt.not_isNan_of_isInf hy, hs, invalid]

/-! ## Products and quotients (R566, R567, R556) -/

theorem mul_finite (hx : p.fmt.finite x) (hy : p.fmt.finite y) :
    p.RoundsOnce rm (p.mul rm x y) (p.fmt.real (p.ftz x) * p.fmt.real (p.ftz y)) (p.fmt.neg x != p.fmt.neg y) := by
  obtain ⟨hdx, hrx, hnx, -⟩ := p.operand_spec x
  obtain ⟨hdy, hry, hny, -⟩ := p.operand_spec y
  refine ⟨_, Exact.mul_den hdx hdy, by rw [Exact.mul_real, hrx, hry], fun _ => by rw [Exact.mul, hnx, hny], ?_⟩
  simp [mul, hx.class, hy.class]

/-- A zero times an infinity. -/
def ZeroTimesInf (p : Precision) (x y : Nat) : Prop :=
  (p.fmt.isZero (p.ftz x) = true ∧ p.fmt.isInf y = true) ∨ (p.fmt.isInf x = true ∧ p.fmt.isZero (p.ftz y) = true)

/-- An infinity times what is no zero. -/
def InfTimesOther (p : Precision) (x y : Nat) : Prop :=
  (p.fmt.isInf x = true ∧ ¬ p.fmt.isZero (p.ftz y) = true) ∨ (¬ p.fmt.isZero (p.ftz x) = true ∧ p.fmt.isInf y = true)

/-- What the model tests of a product with an infinity. -/
theorem InfTimesOther.tests (hp : p.fmt.Proper) (h : p.InfTimesOther x y) :
    ((p.fmt.isZero (p.ftz x) && p.fmt.isInf y) || (p.fmt.isInf x && p.fmt.isZero (p.ftz y))) = false ∧
      (p.fmt.isInf x || p.fmt.isInf y) = true := by
  rcases h with ⟨hi, hz⟩ | ⟨hz, hi⟩ <;> simp [hi, hz, not_isZero_of_isInf hp hi]

theorem mul_invalid (hx : p.fmt.isNan x = false) (hy : p.fmt.isNan y = false) (h : p.ZeroTimesInf x y) :
    p.mul rm x y = { value := p.qnan + 2, fi := true } := by
  have htest : ((p.fmt.isZero (p.ftz x) && p.fmt.isInf y) || (p.fmt.isInf x && p.fmt.isZero (p.ftz y))) = true := by
    simpa [ZeroTimesInf] using h
  simp only [mul, hx, hy, htest, Bool.or_false, Bool.false_eq_true, if_false, if_true]
  rfl

theorem mul_inf (hp : p.fmt.Proper) (hx : p.fmt.isNan x = false) (hy : p.fmt.isNan y = false) (h : p.InfTimesOther x y) :
    p.mul rm x y = { value := p.fmt.inf (p.fmt.neg x != p.fmt.neg y) } := by
  simp only [mul, hx, hy, h.tests hp, Bool.or_false, Bool.false_eq_true, if_false, if_true]

theorem div_finite (hx : p.fmt.finite x) (hy : p.fmt.finite y) (hz : ¬ p.fmt.isZero (p.ftz y) = true) :
    p.RoundsOnce rm (p.div rm x y) (p.fmt.real (p.ftz x) / p.fmt.real (p.ftz y)) (p.fmt.neg x != p.fmt.neg y) := by
  obtain ⟨hdx, hrx, hnx, -⟩ := p.operand_spec x
  obtain ⟨-, hry, hny, hzy⟩ := p.operand_spec y
  refine ⟨_, Exact.div_den hdx (hzy.not.mpr hz), by rw [Exact.div_real, hrx, hry],
    fun _ => by rw [Exact.div, hnx, hny], ?_⟩
  simp [div, hx.class, hy.class, hz]

theorem div_by_zero (hx : p.fmt.finite x) (hy : p.fmt.finite y) (hzy : p.fmt.isZero (p.ftz y) = true)
    (hzx : ¬ p.fmt.isZero (p.ftz x) = true) :
    p.div rm x y = { value := p.fmt.inf (p.fmt.neg x != p.fmt.neg y), fz := true } := by
  simp [div, hx.class, hy.class, hzx, hzy]

theorem div_inf_inf (hx : p.fmt.isInf x = true) (hy : p.fmt.isInf y = true) :
    p.div rm x y = { value := p.qnan + 8, fi := true } := by
  simp [div, hx, hy, FloatFmt.not_isNan_of_isInf hx, FloatFmt.not_isNan_of_isInf hy, invalid]

theorem div_zero_zero (hx : p.fmt.isNan x = false) (hy : p.fmt.isNan y = false)
    (hzx : p.fmt.isZero (p.ftz x) = true) (hzy : p.fmt.isZero (p.ftz y) = true) :
    p.div rm x y = { value := p.qnan + 8, fi := true } := by
  simp [div, hx, hy, hzx, hzy, invalid]

theorem div_inf_left (hp : p.fmt.Proper) (hx : p.fmt.isInf x = true) (hy : p.fmt.finite y) :
    p.div rm x y = { value := p.fmt.inf (p.fmt.neg x != p.fmt.neg y) } := by
  simp [div, hx, hy.class, FloatFmt.not_isNan_of_isInf hx, not_isZero_of_isInf hp hx]

theorem div_inf_right (hp : p.fmt.Proper) (hx : p.fmt.finite x) (hy : p.fmt.isInf y = true) :
    p.div rm x y = { value := p.fmt.withSign (p.fmt.neg x != p.fmt.neg y) 0 } := by
  simp [div, hy, hx.class, FloatFmt.not_isNan_of_isInf hy, not_isZero_of_isInf hp hy]

/-! ## Multiply-add (R568, R569) -/

theorem madd_finite (hd : p.fmt.finite d) (hx : p.fmt.finite x) (hy : p.fmt.finite y) :
    p.RoundsOnce rm (p.madd rm d x y)
      (p.fmt.real (p.ftz d) + p.fmt.real (p.ftz x) * p.fmt.real (p.ftz y))
      (Exact.sumSign rm (p.fmt.neg d) (p.fmt.neg x != p.fmt.neg y)) := by
  obtain ⟨hdd, hrd, hnd, -⟩ := p.operand_spec d
  obtain ⟨hdx, hrx, hnx, -⟩ := p.operand_spec x
  obtain ⟨hdy, hry, hny, -⟩ := p.operand_spec y
  obtain ⟨hden, hr, hs⟩ := Exact.add_spec rm hdd (Exact.mul_den hdx hdy)
  refine ⟨_, hden, by rw [hr, Exact.mul_real, hrd, hrx, hry], fun h => by rw [hs h, Exact.mul, hnd, hnx, hny], ?_⟩
  simp [madd, hd.class, hx.class, hy.class]

theorem madd_inf_addend (hd : p.fmt.isInf d = true) (hx : p.fmt.finite x) (hy : p.fmt.finite y) :
    p.madd rm d x y = { value := d } := by
  simp [madd, hd, hx.class, hy.class, FloatFmt.not_isNan_of_isInf hd]

section Numeric
variable (hd : p.fmt.isNan d = false) (hx : p.fmt.isNan x = false) (hy : p.fmt.isNan y = false)
include hd hx hy

theorem madd_invalid (h : p.ZeroTimesInf x y) : p.madd rm d x y = { value := p.qnan + 2, fi := true } := by
  have htest : ((p.fmt.isZero (p.ftz x) && p.fmt.isInf y) || (p.fmt.isInf x && p.fmt.isZero (p.ftz y))) = true := by
    simpa [ZeroTimesInf] using h
  simp only [madd, hd, hx, hy, htest, Bool.or_false, Bool.false_eq_true, if_false, if_true]
  rfl

/-- An infinite product and an addend: invalid where the addend is the other infinity, else the product. -/
theorem madd_inf_product (hp : p.fmt.Proper) (h : p.InfTimesOther x y) :
    (p.fmt.isInf d = true ∧ p.fmt.neg d ≠ (p.fmt.neg x != p.fmt.neg y) →
      p.madd rm d x y = { value := p.qnan + 1, fi := true }) ∧
    (¬ (p.fmt.isInf d = true ∧ p.fmt.neg d ≠ (p.fmt.neg x != p.fmt.neg y)) →
      p.madd rm d x y = { value := p.fmt.inf (p.fmt.neg x != p.fmt.neg y) }) := by
  simp only [madd, hd, hx, hy, h.tests hp, Bool.or_false, Bool.false_eq_true, if_false, Bool.true_and, if_true,
    Bool.and_eq_true, bne_iff_ne]
  exact ⟨fun h => if_pos h, fun h => if_neg h⟩

end Numeric

/-! ## Operations with a negated operand (R565, R569) -/

theorem zeroTimesInf_flip (p : Precision) (x y : Nat) : p.ZeroTimesInf (p.fmt.flip x) y ↔ p.ZeroTimesInf x y := by
  simp only [ZeroTimesInf, isZero_ftz_flip, p.fmt.class_flip]

theorem infTimesOther_flip (p : Precision) (x y : Nat) : p.InfTimesOther (p.fmt.flip x) y ↔ p.InfTimesOther x y := by
  simp only [InfTimesOther, isZero_ftz_flip, p.fmt.class_flip]

theorem sub_finite (hx : p.fmt.finite x) (hy : p.fmt.finite y) :
    p.RoundsOnce rm (p.sub rm x y) (p.fmt.real (p.ftz x) - p.fmt.real (p.ftz y))
      (Exact.sumSign rm (p.fmt.neg x) (!p.fmt.neg y)) := by
  have h := add_finite (rm := rm) hx (FloatFmt.finite_flip hy)
  rwa [real_ftz_flip, FloatFmt.neg_flip, ← sub_eq_add_neg] at h

theorem msub_finite (hd : p.fmt.finite d) (hx : p.fmt.finite x) (hy : p.fmt.finite y) :
    p.RoundsOnce rm (p.msub rm d x y)
      (p.fmt.real (p.ftz d) - p.fmt.real (p.ftz x) * p.fmt.real (p.ftz y))
      (Exact.sumSign rm (p.fmt.neg d) (!(p.fmt.neg x != p.fmt.neg y))) := by
  have h := madd_finite (rm := rm) hd (FloatFmt.finite_flip hx) hy
  rwa [real_ftz_flip, FloatFmt.neg_flip, neg_mul, ← sub_eq_add_neg, Bool.not_bne] at h

end Precision

/-- Settles O58: the finite operands, then the infinities and zeros, operation by operation. -/
theorem floatArithmetic : Obligations.float_arithmetic := by
  intro p rm d x y hp f v zero inf numeric s rounds sumSign invalid exactly hd hx hy
  have hproper := FloatFmt.Proper.ofPrecision hp
  have hflip := f.class_flip
  have hneg := f.neg_flip
  refine ⟨fun fx fy => ⟨Precision.add_finite fx fy, Precision.sub_finite fx fy, Precision.mul_finite fx fy,
      Precision.div_finite fx fy, Precision.div_by_zero fx fy,
      fun fd => ⟨Precision.madd_finite fd fx fy, Precision.msub_finite fd fx fy⟩,
      fun id => ⟨Precision.madd_inf_addend id fx fy, Precision.madd_inf_addend id (FloatFmt.finite_flip fx) fy⟩⟩,
    fun ix iy => ⟨fun hs => ⟨Precision.add_inf_left ix hy.2 fun _ => hs, ?_⟩,
      fun hs => ⟨Precision.add_invalid ix iy hs, ?_⟩, Precision.div_inf_inf ix iy⟩,
    fun ix fy => ⟨?_, ?_, Precision.div_inf_left hproper ix fy⟩,
    fun fx iy => ⟨Precision.add_inf_right fx iy, ?_, Precision.div_inf_right hproper fx iy⟩,
    fun zx zy => Precision.div_zero_zero hx.2 hy.2 zx zy, fun h => ?_, fun h => ?_⟩
  · exact Precision.add_invalid ix ((hflip y).2.1.trans iy) (by simpa [hneg, f] using hs)
  · exact Precision.add_inf_left ix ((hflip y).1.trans hy.2) fun _ => (Bool.eq_not_iff.mpr hs).trans (hneg y).symm
  · exact Precision.add_inf_left ix hy.2 fun iy => absurd (fy.class.2.symm.trans iy) Bool.false_ne_true
  · exact Precision.add_inf_left ix ((hflip y).1.trans hy.2) fun iy =>
      absurd (fy.class.2.symm.trans ((hflip y).2.1.symm.trans iy)) Bool.false_ne_true
  · exact Precision.add_inf_right fx ((hflip y).2.1.trans iy)
  · exact ⟨Precision.mul_invalid hx.2 hy.2 h, Precision.madd_invalid hd.2 hx.2 hy.2 h,
      Precision.madd_invalid hd.2 ((hflip x).1.trans hx.2) hy.2 ((p.zeroTimesInf_flip x y).mpr h)⟩
  · obtain ⟨hinv, hinf⟩ := Precision.madd_inf_product (rm := rm) hd.2 hx.2 hy.2 hproper h
    have hsub := Precision.madd_inf_product (rm := rm) hd.2 ((hflip x).1.trans hx.2) hy.2 hproper
      ((p.infTimesOther_flip x y).mpr h)
    rw [hneg, Bool.not_bne] at hsub
    rw [Bool.ne_not] at hsub
    exact ⟨Precision.mul_inf hproper hx.2 hy.2 h, hinv, hinf, hsub.1, hsub.2⟩

end Sys2Proof.Machine
end

section
/-! PROOFS. The conversions (44_fpu R576 to R588, R609 to R618): to integers and fractions, from them, and between half and
single precision. -/

namespace Sys2Proof.Machine

/-! ## To integers and fractions (R576 to R582, R609 to R617) -/

section Integers
variable {rm : BitVec 2} {neg : Bool} {a : ℚ} {m n : Nat}

/-- The nearest integer is at most one half away, and the even one of two that are. -/
theorem RoundsTo.nearest_int (h : RoundsTo (↑) 0 neg a m n) :
    |(n : ℚ) - a| ≤ 1 / 2 ∧ (|(n : ℚ) - a| = 1 / 2 → n % 2 = 0) := by
  have hlo := h.below
  have hhi := h.above
  rcases h.pick with ⟨hup, rfl⟩ | ⟨hup, rfl⟩
  · have hnear : (m : ℚ) + (m + 1) < 2 * a ∨ (m : ℚ) + (m + 1) = 2 * a ∧ m % 2 = 1 := by simpa [RoundsUp] using hup
    rw [abs_of_nonneg (sub_nonneg.mpr hhi.le)]
    push_cast
    rcases hnear with hlt | ⟨htie, hm⟩
    · exact ⟨by linarith, fun he => by linarith⟩
    · exact ⟨by linarith, fun _ => by omega⟩
  · have hnear : 2 * a ≤ (n : ℚ) + (n + 1) ∧ ((n : ℚ) + (n + 1) = 2 * a → n % 2 = 0) := by simpa [RoundsUp] using hup
    rw [abs_sub_comm, abs_of_nonneg (sub_nonneg.mpr hlo)]
    exact ⟨by linarith [hnear.1], fun he => hnear.2 (by linarith)⟩

/-- The next integer away from zero is less than one away. -/
theorem RoundsTo.away_int (h : RoundsTo (↑) rm neg a m n) (hrm : rm = 1 ∧ neg = false ∨ rm = 2 ∧ neg = true) :
    a ≤ n ∧ (n : ℚ) < a + 1 := by
  refine ⟨(h.away (y := m) hrm m.cast_nonneg (.inl (abs_of_nonneg m.cast_nonneg).le)).1, ?_⟩
  have hlo := h.below
  rcases h.pick with ⟨hup, rfl⟩ | ⟨-, rfl⟩
  · have hne : a ≠ m := by
      rcases hrm with ⟨rfl, rfl⟩ | ⟨rfl, rfl⟩ <;> simpa [RoundsUp] using hup
    have hlt := lt_of_le_of_ne hlo hne.symm
    push_cast
    linarith
  · linarith

/-- The next integer towards zero is less than one away. -/
theorem RoundsTo.toward_int (h : RoundsTo (↑) rm neg a m n)
    (hrm : rm = 1 ∧ neg = true ∨ rm = 2 ∧ neg = false ∨ rm = 3) : (n : ℚ) ≤ a ∧ a < n + 1 := by
  rw [h.toward hrm]
  exact ⟨h.below, by exact_mod_cast h.above⟩

/-- The integer of a sign and a magnitude. -/
theorem signedInt_cast (neg : Bool) (n : Nat) : (((if neg then -n else n : Int)) : ℚ) = signOf neg * n := by
  cases neg <;> simp

/-- The integer on the grid of integers is the one that the mode names. -/
theorem RoundsTo.roundedInt (h : RoundsTo (↑) rm neg a m n) :
    RoundedInt rm (signOf neg * a) (if neg then -n else n) := by
  rw [RoundedInt, signedInt_cast]
  simp only [magnitude_eq]
  refine ⟨?_, ?_, ?_, ?_⟩
  · rintro rfl
    obtain ⟨hle, heven⟩ := h.nearest_int
    rw [← mul_sub, abs_signOf_mul]
    refine ⟨hle, fun he => ?_⟩
    have := heven he
    cases neg <;> simp <;> omega
  · rintro rfl
    cases neg with
    | false => simpa using h.away_int (.inl ⟨rfl, rfl⟩)
    | true =>
      obtain ⟨hle, hlt⟩ := h.toward_int (.inl ⟨rfl, rfl⟩)
      simp only [signOf_true, neg_mul, one_mul]
      constructor <;> linarith
  · rintro rfl
    cases neg with
    | false => simpa using h.toward_int (.inr (.inl ⟨rfl, rfl⟩))
    | true =>
      obtain ⟨hle, hlt⟩ := h.away_int (.inr ⟨rfl, rfl⟩)
      simp only [signOf_true, neg_mul, one_mul]
      constructor <;> linarith
  · rintro rfl
    obtain ⟨hle, hlt⟩ := h.toward_int (.inr (.inr rfl))
    have hn : (0 : ℚ) ≤ n := n.cast_nonneg
    rw [abs_signOf_mul, abs_signOf_mul, abs_of_nonneg hn, abs_of_nonneg (hn.trans hle), mul_mul_mul_comm,
      signOf_mul_self, one_mul]
    exact ⟨hle, hlt, mul_nonneg hn (hn.trans hle)⟩

end Integers

/-- The value that a conversion rounds. -/
theorem Precision.toInt_finite {p : Precision} {x : Nat} (h : p.fmt.finite x) (rm : BitVec 2) (lo hi k : Int) (bits : Nat) :
    let v := (p.fmt.value (p.ftz x)).mul (Exact.scaled false 1 k)
    let n := roundNat rm v.neg v.num v.den
    let i : Int := if v.neg then -n.1 else n.1
    p.toInt rm lo hi k bits x = if hi < i then { value := twos bits hi, fi := true }
      else if i < lo then { value := twos bits lo, fi := true } else { value := twos bits i, fx := n.2 } := by
  simp only [toInt, h.class, Bool.false_eq_true, if_false]

theorem Precision.toInt_inf {p : Precision} {x : Nat} (h : p.fmt.isInf x = true) (rm : BitVec 2) (lo hi k : Int)
    (bits : Nat) : p.toInt rm lo hi k bits x = { value := twos bits (if p.fmt.neg x then lo else hi), fi := true } := by
  simp only [toInt, h, FloatFmt.not_isNan_of_isInf h, Bool.false_eq_true, if_false, if_true]

theorem Precision.toInt_converts (p : Precision) (rm : BitVec 2) {lo hi : Int} (hle : lo ≤ hi) (k : Int) (bits x : Nat) :
    ConvertsToInt p rm k lo hi bits x (p.toInt rm lo hi k bits x) := by
  have htwos : ∀ i, twos bits i = (i % 2 ^ bits).toNat := fun i => by simp [twos]
  refine ⟨fun h => if_pos h, fun h => by rw [Precision.toInt_inf h, htwos], fun h => ?_⟩
  have hfin := Precision.toInt_finite h rm lo hi k bits
  generalize hv : (p.fmt.value (p.ftz x)).mul (Exact.scaled false 1 k) = v at hfin
  have hreal : v.real = p.fmt.real (p.ftz x) * pow2 k := by
    rw [← hv, Exact.mul_real, FloatFmt.value_real, Exact.scaled_real, pow2_eq]
    simp
  have hden : v.den ≠ 0 := hv ▸ Exact.mul_den (FloatFmt.value_den _ _) (Exact.scaled_den _ _ _)
  obtain ⟨hround, hexact⟩ := roundNat_roundsTo rm v.neg v.num hden
  dsimp only at hfin
  generalize roundNat rm v.neg v.num v.den = n at *
  refine ⟨if v.neg then -n.1 else n.1, ?_, fun hi' => ?_, fun hlo' => ?_, fun hlo' hhi' => ?_⟩
  · rw [← hreal, Exact.real_eq]
    exact hround.roundedInt
  · rw [hfin, if_pos hi', htwos]
  · rw [hfin, if_neg (by omega), if_pos hlo', htwos]
  · have hfx : n.2 = decide ((((if v.neg then -n.1 else n.1 : Int)) : ℚ) ≠ p.fmt.real (p.ftz x) * pow2 k) := by
      rw [Bool.eq_iff_iff, decide_eq_true_iff, hexact, signedInt_cast, ← hreal, Exact.real_eq, ne_eq, ne_eq,
        signOf_mul_right_inj, hround.value_eq_iff, eq_comm]
    rw [hfin, if_neg (by omega), if_neg (by omega), htwos, hfx]

/-! ## From integers and fractions (R583 to R585, R618) -/

theorem Exact.ofInt_spec (i k : Int) : (ofInt i k).den ≠ 0 ∧ (ofInt i k).real = i * pow2 k ∧
    (ofInt i k).neg = decide (i < 0) := by
  refine ⟨scaled_den _ _ _, ?_, scaled_neg _ _ _⟩
  have habs : signOf (decide (i < 0)) * (i.natAbs : ℚ) = i := by
    rw [← signedInt_cast]
    congr 1
    by_cases h : i < 0
    · simp only [h, decide_true, if_true]
      omega
    · simp only [h, decide_false, Bool.false_eq_true, if_false]
      omega
  rw [ofInt, scaled_real, pow2_eq, ← mul_assoc, habs]

theorem Precision.round_ofInt_zero (p : Precision) (rm : BitVec 2) (k : Int) :
    p.round rm (Exact.ofInt 0 k) = { value := 0 } := by
  have hneg : (Exact.ofInt 0 k).neg = false := Exact.scaled_neg _ _ _
  have hnum : (Exact.ofInt 0 k).num = 0 := (Exact.scaled_num _ _ _).mpr rfl
  rw [Precision.round_zero rm hnum, hneg]
  rfl

/-! ## Between half and single precision (R587, R588) -/

namespace FloatFmt

/-- A number with no more bits than a datum, and none below the lowest one, is the value of a datum. -/
theorem exists_magReal_eq (f : FloatFmt) (j : Nat) : ∀ c : Nat, c < 2 * 2 ^ f.fracBits →
    ∃ m, f.magReal m = c * 2 ^ (f.lowest + j) := by
  induction j with
  | zero => exact fun c hc => ⟨0 * 2 ^ f.fracBits + c, f.magReal_add hc.le (.inr rfl)⟩
  | succ j ih =>
    intro c hc
    by_cases hbits : 2 ^ f.fracBits ≤ c
    · exact ⟨(j + 1) * 2 ^ f.fracBits + c, f.magReal_add hc.le (.inl hbits)⟩
    · obtain ⟨m, hm⟩ := ih (2 * c) (by omega)
      refine ⟨m, hm.trans ?_⟩
      push_cast
      rw [← add_assoc, zpow_add_one₀ two_ne_zero]
      ring

/-- Every magnitude of half precision is one of single precision. -/
theorem exists_single_of_half (m : Nat) : ∃ k, FloatFmt.single.magReal k = FloatFmt.half.magReal m := by
  obtain ⟨k, n, rfl, hn, hk⟩ := FloatFmt.half.exists_units m
  rw [FloatFmt.half.magReal_add hn.le hk]
  have hlow : FloatFmt.half.lowest + k = FloatFmt.single.lowest + (k + 125 : Nat) := by
    have h1 : FloatFmt.half.lowest = -24 := rfl
    have h2 : FloatFmt.single.lowest = -149 := rfl
    rw [h1, h2]
    omega
  rw [hlow]
  exact FloatFmt.single.exists_magReal_eq (k + 125) n (hn.trans (by decide))

variable {f : FloatFmt} {rm : BitVec 2} {r : ℚ} {v y : Nat}

/-- To nearest, the value of a finite datum is rounded to itself. -/
theorem Rounded.real_eq_of_datum (h : f.Rounded 0 r v) (hy : f.finite y) (he : f.real y = r) : f.real v = r := by
  have hle := ((h.2 y hy).1 rfl).1
  rw [he, sub_self, magnitude_eq, magnitude_eq, abs_zero, abs_nonpos_iff] at hle
  exact sub_eq_zero.mp hle

/-- The value of a finite datum does not overflow. -/
theorem not_overflows_of_datum (hp : f.Proper) (rm : BitVec 2) (hy : f.finite y) : ¬ f.Overflows rm (f.real y) := by
  have hlt := ((f.finite_iff y).mp hy).2
  have hle : |f.real y| ≤ f.largest := by
    rw [abs_real, ← magReal_largest hp]
    exact f.magReal_strictMono.monotone (by omega)
  have hunit := pow2_pos ((f.bias : Int) - f.fracBits - 1)
  have hhalf := pow2_eq_two_mul ((f.bias : Int) - f.fracBits)
  rw [largest] at hle
  rw [Overflows, magnitude_eq]
  split
  · linarith
  split
  · rw [largest]
    linarith
  · linarith

/-- Every finite datum of half precision has the value of one of single precision. -/
theorem exists_single_datum {x : Nat} (hx : FloatFmt.half.finite x) :
    ∃ y, FloatFmt.single.finite y ∧ FloatFmt.single.real y = FloatFmt.half.real x := by
  obtain ⟨k, hk⟩ := exists_single_of_half (FloatFmt.half.mag x)
  have hlt : k < FloatFmt.single.limit := by
    rw [← FloatFmt.single.magReal_strictMono.lt_iff_lt, hk, magReal_limit .single]
    refine (FloatFmt.half.magReal_strictMono ((FloatFmt.half.finite_iff x).mp hx).2).trans ?_
    rw [magReal_limit .half]
    exact zpow_lt_zpow_right₀ one_lt_two (by decide)
  have hw := hlt.trans FloatFmt.single.limit_lt
  refine ⟨FloatFmt.single.withSign (FloatFmt.half.neg x) k, ?_, ?_⟩
  · rw [finite_iff, mag_withSign _ hw]
    exact ⟨withSign_lt _ hw, hlt⟩
  · rw [real_withSign _ hw, hk, FloatFmt.half.real_eq]

/-- Every datum of half precision but a zero is a normal number of single precision. -/
theorem half_normal_in_single {x : Nat} (hx : FloatFmt.half.mag x ≠ 0) :
    pow2 (1 - (FloatFmt.single.bias : Int)) ≤ |FloatFmt.half.real x| := by
  have hone : FloatFmt.half.magReal 1 = 2 ^ FloatFmt.half.lowest := by
    have h := FloatFmt.half.magReal_add (k := 0) (n := 1) (by decide) (.inr rfl)
    simpa using h
  rw [abs_real, pow2_eq]
  refine le_trans ?_ (FloatFmt.half.magReal_strictMono.monotone (Nat.one_le_iff_ne_zero.mpr hx))
  rw [hone]
  exact zpow_le_zpow_right₀ one_le_two (by decide)

end FloatFmt

theorem halfToSingle_finite {x : Nat} (hx : FloatFmt.half.finite x) : ∃ v, halfToSingle x = { value := v } ∧
    FloatFmt.single.finite v ∧ FloatFmt.single.real v = FloatFmt.half.real x ∧
    FloatFmt.single.neg v = FloatFmt.half.neg x := by
  have hround : halfToSingle x = FloatFmt.single.round 0 (FloatFmt.half.value x) := by
    simp only [halfToSingle, hx.class, Bool.false_eq_true, if_false]
  have hneg := FloatFmt.half.value_neg x
  have hreal := FloatFmt.half.value_real x
  rw [hround]
  by_cases hn : (FloatFmt.half.value x).num = 0
  · refine ⟨_, FloatFmt.round_zero hn, (FloatFmt.rounded_zero .single 0 _).1.1, ?_, ?_⟩
    · rw [FloatFmt.real_withSign _ (Nat.two_pow_pos _), FloatFmt.magReal_zero, mul_zero, eq_comm, FloatFmt.real_eq_zero]
      exact (FloatFmt.half.value_num x).mp hn
    · rw [FloatFmt.neg_withSign _ (Nat.two_pow_pos _), hneg]
  · have hspec := FloatFmt.round_spec .single 0 hn (FloatFmt.half.value_den x)
    generalize FloatFmt.single.round 0 (FloatFmt.half.value x) = q at hspec
    obtain ⟨y, hy, hyreal⟩ := FloatFmt.exists_single_datum hx
    rw [← hreal] at hyreal
    have hfv : q.fv = false := Bool.eq_false_iff.mpr fun hv =>
      FloatFmt.not_overflows_of_datum .single 0 hy (hyreal ▸ hspec.fv.mp hv)
    obtain ⟨hrounded, hsign, hfx⟩ := hspec.datum hfv
    have hvalue := hrounded.real_eq_of_datum hy hyreal
    have hfx : q.fx = false := Bool.eq_false_iff.mpr fun h => hfx.mp h hvalue
    have hfu : q.fu = false := Bool.eq_false_iff.mpr fun h => by
      have hsmall := hspec.fu.mp h
      rw [magnitude_eq, hreal] at hsmall
      exact absurd hsmall (not_lt.mpr (FloatFmt.half_normal_in_single fun h0 => hn ((FloatFmt.half.value_num x).mpr h0)))
    refine ⟨q.value, ?_, hrounded.1, hvalue.trans hreal, hsign.trans hneg⟩
    obtain ⟨value, fi, fv, fz, fu, fx⟩ := q
    simpa using ⟨hspec.others.1, hfv, hspec.others.2, hfu, hfx⟩

/-- The conversion of a finite datum to half precision (R588, 92 D22). -/
theorem singleToHalf_finite {x : Nat} (hx : FloatFmt.single.finite x) {rm : BitVec 2} {q : FpResult}
    (hq : FloatFmt.half.round rm (FloatFmt.single.value x) = q) :
    (q.fv = true → singleToHalf rm x = { value := 0x7FE0, fi := true }) ∧
      (q.fv = false → singleToHalf rm x = { q with fu := q.fu && q.fx }) := by
  simp only [singleToHalf, hx.class, Bool.false_eq_true, if_false, hq]
  exact ⟨fun h => if_pos h, fun h => if_neg (Bool.eq_false_iff.mp h)⟩

theorem singleToHalf_spec {x : Nat} (hx : FloatFmt.single.finite x) (rm : BitVec 2) :
    let r := FloatFmt.single.real x
    let q := singleToHalf rm x
    (FloatFmt.half.Overflows rm r → q = { value := 0x7FE0, fi := true }) ∧
    (¬ FloatFmt.half.Overflows rm r → FloatFmt.half.Rounded rm r q.value ∧
      FloatFmt.half.neg q.value = FloatFmt.single.neg x ∧ (q.fx = true ↔ FloatFmt.half.real q.value ≠ r) ∧
      (q.fu = true ↔ magnitude r < pow2 (-14) ∧ q.fx = true) ∧ q.fi = false ∧ q.fv = false ∧ q.fz = false) := by
  intro r q
  have hneg := FloatFmt.single.value_neg x
  have hreal : (FloatFmt.single.value x).real = r := FloatFmt.single.value_real x
  by_cases hn : (FloatFmt.single.value x).num = 0
  · have hr : r = 0 := (FloatFmt.single.real_eq_zero x).mpr ((FloatFmt.single.value_num x).mp hn)
    obtain ⟨hrounded, hover⟩ := FloatFmt.rounded_zero .half rm (FloatFmt.single.neg x)
    have hzero : FloatFmt.half.real (FloatFmt.half.withSign (FloatFmt.single.neg x) 0) = 0 := by
      rw [FloatFmt.real_withSign _ (Nat.two_pow_pos _), FloatFmt.magReal_zero, mul_zero]
    have hq : q = _ := (singleToHalf_finite hx (FloatFmt.round_zero hn)).2 rfl
    rw [hq, hr, hneg]
    exact ⟨fun h => absurd h hover, fun _ => ⟨hrounded, FloatFmt.neg_withSign _ (Nat.two_pow_pos _),
      iff_of_false Bool.false_ne_true (not_not.mpr hzero),
      iff_of_false Bool.false_ne_true fun h => Bool.false_ne_true h.2, rfl, rfl, rfl⟩⟩
  · have hspec := FloatFmt.round_spec .half rm hn (FloatFmt.single.value_den x)
    generalize hround : FloatFmt.half.round rm (FloatFmt.single.value x) = z at hspec
    obtain ⟨hover, hfin⟩ := singleToHalf_finite hx hround
    obtain ⟨hfv, hdatum, -, hfu, hfi, hfz⟩ := hspec
    rw [hreal] at hfv hdatum hfu
    refine ⟨fun h => hover (hfv.mpr h), fun h => ?_⟩
    have hv : z.fv = false := Bool.eq_false_iff.mpr fun hv => h (hfv.mp hv)
    obtain ⟨hrounded, hsign, hfx⟩ := hdatum hv
    rw [show q = _ from hfin hv]
    refine ⟨hrounded, hsign.trans hneg, hfx, ?_, hfi, hv, hfz⟩
    rw [Bool.and_eq_true, hfu]
    rfl

/-- Settles O60: the conversions to integers, from integers, and between half and single precision. -/
theorem floatConversions : Obligations.float_conversions := by
  intro rm x h f
  have h31 : (-2 ^ 31 : Int) = -2147483648 ∧ (2 ^ 31 - 1 : Int) = 2147483647 := by decide
  have h32 : (2 ^ 32 - 1 : Int) = 4294967295 := by decide
  have h63 : (-2 ^ 63 : Int) = -9223372036854775808 ∧ (2 ^ 63 - 1 : Int) = 9223372036854775807 := by decide
  have h64 : (2 ^ 64 - 1 : Int) = 18446744073709551615 := by decide
  rw [h31.1, h31.2, h32, h63.1, h63.2, h64]
  refine ⟨fun p _ => ⟨p.toInt_converts rm (by decide) 0 32 x, p.toInt_converts rm (by decide) 0 32 x,
      p.toInt_converts rm (by decide) 0 64 x, p.toInt_converts rm (by decide) 0 64 x, p.round_ofInt_zero rm⟩,
    fun s a b => ⟨rfl, Precision.single.toInt_converts rm (by decide) _ 32 _⟩, Exact.ofInt_spec,
    fun _ => ⟨fun hnan => if_pos hnan, fun hinf => ?_, halfToSingle_finite⟩,
    fun _ => ⟨fun hnan => if_pos hnan, fun hinf => ?_, fun hfin => singleToHalf_spec hfin rm⟩⟩
  · have hnan : FloatFmt.half.isNan x = false := FloatFmt.not_isNan_of_isInf hinf
    have hinf : FloatFmt.half.isInf x = true := hinf
    simp only [halfToSingle, hnan, hinf, Bool.false_eq_true, if_false, if_true]
    rfl
  · have hnan : FloatFmt.single.isNan x = false := FloatFmt.not_isNan_of_isInf hinf
    have hinf : FloatFmt.single.isInf x = true := hinf
    simp only [singleToHalf, hnan, hinf, Bool.false_eq_true, if_false, if_true]
    rfl

end Sys2Proof.Machine
end

section
/-! PROOFS. The breakpoint trap and the return from the debug monitor (45_debug R651, R652): the debug context at DCX,
the registers around it, the frame. -/

namespace Sys2Proof.Machine

variable {s t u : State}

/-! ## The debug registers and the running resource -/

/-- With no update open a debug register governs with its stored value. -/
theorem State.dbg_of_window_nil (hw : s.window = []) (x : SysReg) : s.dbg x = s.getSys x :=
  s.eff_of_window_nil hw .hv (.sys x) .debug

/-- A frame that leaves VCON1 alone keeps the running machine. -/
theorem Kept.cvmn_eq {ds as : List Reg} {cs : List Csfr} (h : Kept s t ds as cs) (hc : .sys .vcon1 ∉ cs) :
    t.cvmn = s.cvmn := congrArg (field · 0 3) (h.csfr .hv (.sys .vcon1) hc (by simp))

theorem Kept.vm_eq {ds as : List Reg} {cs : List Csfr} (h : Kept s t ds as cs) (hc : .sys .vcon1 ∉ cs) :
    t.vm = s.vm := by rw [State.vm, h.cfg_eq, h.cvmn_eq hc, State.vm]

/-! ## The debug context (45_debug R651, 92_eei_decisions D25) -/

/-- The address of the debug context: DCX without its low six bits. -/
def debugContext (dcx : Word) : Word := dcx &&& 0xFFFFFFC0#32

/-- The debug context lies on a 64-byte boundary, so that its words lie in one segment. -/
theorem debugContext_aligned (dcx : Word) : (debugContext dcx).toNat % 64 = 0 := by
  have h : ∀ k, k < 6 → (debugContext dcx).getLsbD k = false := fun k hk => by
    rw [debugContext, BitVec.getLsbD_and]
    interval_cases k <;> simp
  have hlow : (debugContext dcx).extractLsb' 0 6 = 0 := by
    refine BitVec.eq_of_getLsbD_eq fun k hk => ?_
    simp [BitVec.getLsbD_extractLsb', h k hk]
  simpa using congrArg BitVec.toNat hlow

/-- The four words of the debug context as the breakpoint trap stores them. -/
def State.withDebugContext (s : State) (dcx : Word) : State :=
  (((s.putWord (dcx + 4) s.pswImage).putWord dcx s.link).putWord (dcx + 8) (s.getA 10)).putWord (dcx + 12) (s.getA 11)

theorem State.putDebugContext_eq (s : State) : s.putDebugContext =
    if s.kindOf (span (debugContext (s.dbg .dcx)).toNat 16) == some .ram then
      s.withDebugContext (debugContext (s.dbg .dcx))
    else s := rfl

theorem State.putDebugContext_ram (hw : s.window = [])
    (hram : s.kindOf (span (debugContext (s.getSys .dcx)).toNat 16) = some .ram) :
    s.putDebugContext = s.withDebugContext (debugContext (s.getSys .dcx)) := by
  rw [State.putDebugContext_eq, State.dbg_of_window_nil hw, if_pos (beq_iff_eq.mpr hram)]

/-- A word stored in another place of the segment leaves a word alone. -/
theorem State.wordAt_putWord_ne {a b : Word} (v : Word) (ha : a.toNat % 4 = 0) (hb : b.toNat % 4 = 0)
    (hs : a.toNat / 2 ^ 28 = b.toNat / 2 ^ 28) (hne : a.toNat ≠ b.toNat) : (s.putWord b v).wordAt a = s.wordAt a := by
  refine State.wordAt_congr fun c hc => State.putWord_keeps b v c fun hm => ?_
  obtain ⟨d, hd, e⟩ := List.mem_map.mp hm
  rw [mem_span] at hc hd
  have := State.cell_inj (by omega) e
  omega

/-- Word `k` of a debug context is in its place. -/
theorem debugContext_word {dcx : Word} (h : dcx.toNat % 64 = 0) {k : Nat} (hk : k < 16) :
    (dcx + BitVec.ofNat 32 k).toNat = dcx.toNat + k := by
  have := dcx.isLt
  rw [BitVec.toNat_add, BitVec.toNat_ofNat, Nat.mod_eq_of_lt (a := k) (by omega), Nat.mod_eq_of_lt (by omega)]

theorem State.withDebugContext_holds {dcx : Word} (h : dcx.toNat % 64 = 0) :
    HoldsWords (s.withDebugContext dcx) dcx [s.link, s.pswImage, s.getA 10, s.getA 11] := by
  have h4 : (dcx + 4).toNat = dcx.toNat + 4 := debugContext_word (k := 4) h (by decide)
  have h8 : (dcx + 8).toNat = dcx.toNat + 8 := debugContext_word (k := 8) h (by decide)
  have h12 : (dcx + 12).toNat = dcx.toNat + 12 := debugContext_word (k := 12) h (by decide)
  intro k w hk
  unfold State.withDebugContext
  rcases k with _ | _ | _ | _ | k
  · cases hk
    rw [Nat.mul_zero, BitVec.add_zero, State.wordAt_putWord_ne _ (by omega) (by omega) (by omega) (by omega),
      State.wordAt_putWord_ne _ (by omega) (by omega) (by omega) (by omega),
      State.wordAt_putWord_same _ (by omega)]
  · cases hk
    show State.wordAt _ (dcx + 4) = _
    rw [State.wordAt_putWord_ne _ (by omega) (by omega) (by omega) (by omega),
      State.wordAt_putWord_ne _ (by omega) (by omega) (by omega) (by omega),
      State.wordAt_putWord_ne _ (by omega) (by omega) (by omega) (by omega),
      State.wordAt_putWord_same _ (by omega)]
  · cases hk
    show State.wordAt _ (dcx + 8) = _
    rw [State.wordAt_putWord_ne _ (by omega) (by omega) (by omega) (by omega), State.wordAt_putWord_same _ (by omega)]
  · cases hk
    exact State.wordAt_putWord_same _ (by omega)
  · cases hk

/-- A word stored inside the debug context leaves the memory outside it alone. -/
theorem KeepsMemoryBut.putWord {base k : Nat} {a v : Word} (h : KeepsMemoryBut s t (span base 16))
    (hc : t.cfg = s.cfg) (ha : a.toNat = base + k) (hk : k + 4 ≤ 16) :
    KeepsMemoryBut s (t.putWord a v) (span base 16) := by
  intro c hc'
  refine (State.putWord_keeps a v c fun hm => hc' ?_).trans (h c hc')
  rw [State.cell_of_cfg hc] at hm
  obtain ⟨d, hd, e⟩ := List.mem_map.mp hm
  rw [State.cell_of_cfg hc] at e
  exact List.mem_map.mpr ⟨d, by rw [mem_span] at hd ⊢; omega, e⟩

theorem State.withDebugContext_keeps {dcx : Word} (h : dcx.toNat % 64 = 0) :
    KeepsMemoryBut s (s.withDebugContext dcx) (span dcx.toNat 16) := by
  have h4 : (dcx + 4).toNat = dcx.toNat + 4 := debugContext_word (k := 4) h (by decide)
  have h8 : (dcx + 8).toNat = dcx.toNat + 8 := debugContext_word (k := 8) h (by decide)
  have h12 : (dcx + 12).toNat = dcx.toNat + 12 := debugContext_word (k := 12) h (by decide)
  have hnone : KeepsMemoryBut s s (span dcx.toNat 16) := fun _ _ => rfl
  unfold State.withDebugContext
  exact (((hnone.putWord rfl h4 (by decide)).putWord (k := 0) (by simp) rfl (by decide)).putWord (by simp) h8
    (by decide)).putWord (by simp) h12 (by decide)

theorem Kept.putWord (a v : Word) : Kept s (s.putWord a v) [] [] [] := Kept.putWords a [v]

theorem Kept.withDebugContext (dcx : Word) : Kept s (s.withDebugContext dcx) [] [] [] :=
  (((Kept.putWord _ _).trans (Kept.putWord _ _) (by simp)).trans (Kept.putWord _ _) (by simp)).trans
    (Kept.putWord _ _) (by simp)

/-! ## The breakpoint trap (45_debug R651) -/

/-- PSW at the first instruction of the debug monitor: a handler's, with the call depth counter off. -/
def monitorPsw (p : Word) : Word := setBit (pswHandler p) 7 false

theorem bit_monitorPsw (p : Word) (j : Nat) :
    bit (monitorPsw p) j = if j = 7 then false else bit (pswHandler p) j := bit_setBit _ (by omega) false j

theorem Kept.putDebugContext : Kept s s.putDebugContext [] [] [] := by
  rw [State.putDebugContext_eq]
  split
  · exact Kept.withDebugContext _
  · exact Kept.refl s

theorem State.putDebugContext_window (s : State) : s.putDebugContext.window = s.window := by
  rw [State.putDebugContext_eq]
  split
  · simp [State.withDebugContext]
  · rfl

/-- The address registers of the debug monitor: A[11], and A[10] on the interrupt stack. -/
def State.monitorAddrs (s : State) (ra : Word) : State :=
  let s1 := s.putDebugContext.setA 11 ra
  if pswIs (s.ctl .psw .entry) then s1 else s1.setA 10 (s.ctl (.rep .isp) .entry)

theorem State.monitorAddrs_spec (s : State) (ra : Word) :
    let t := s.monitorAddrs ra
    t.getA 11 = ra ∧ t.getA 10 = (if pswIs (s.ctl .psw .entry) then s.getA 10 else s.ctl (.rep .isp) .entry) ∧
      t.mem = s.putDebugContext.mem ∧ t.window = s.window ∧ Kept s t [] [10, 11] [] := by
  have hwin := s.putDebugContext_window
  have hcontext := Kept.putDebugContext (s := s)
  have hra := hcontext.trans (Kept.setA 11 ra) (hcontext.res_eq (by simp))
  have hsp : (s.putDebugContext.setA 11 ra).getA 10 = s.getA 10 := hra.addr 10 (by simp)
  unfold State.monitorAddrs
  cases pswIs (s.ctl .psw .entry) with
  | true => exact ⟨by simp, hsp, by simp, by simpa, hra.mono (by simp) (by simp) (by simp)⟩
  | false =>
    have h := hra.trans (Kept.setA 10 (s.ctl (.rep .isp) .entry)) (hra.res_eq (by simp))
    exact ⟨by simp [State.getA_setA_ne], by simp, by simp, by simpa, h.mono (by simp) (by simp) (by simp)⟩

/-- The special registers of the debug monitor: PCXI, PSW, ICR and DBGTCR. -/
def State.monitorCsfrs (s : State) (info : Word → Word) : State :=
  (((s.hw .hv .pcxi info).modPsw monitorPsw).hwCur .icr fun i => setBit i 15 false).hw .hv (.sys .dbgtcr)
    fun w => setBit w 0 true

theorem Kept.monitorCsfrs (info : Word → Word) :
    Kept s (s.monitorCsfrs info) [] [] [.psw, .pcxi, .icr, .sys (icrOf s.vm), .sys .dbgtcr] := by
  have h := ((Kept.hwPcxi .hv info).trans (Kept.modPsw monitorPsw) rfl).trans
    (Kept.hwCurIcr fun i => setBit i 15 false) (s := s) rfl
  exact (h.trans (Kept.hwSys (x := .dbgtcr) (by simp) (by simp) .hv fun w => setBit w 0 true)
    (h.res_eq (by simp [icrOf]))).mono (by simp) (by simp) (by simp [State.modPsw])

theorem State.monitorCsfrs_window_nil (hw : s.window = []) (info : Word → Word) :
    (s.monitorCsfrs info).window = [] := by
  unfold State.monitorCsfrs State.hwCur State.modPsw
  iterate 4 refine State.hw_window_nil _ ?_
  exact hw

@[simp] theorem State.monitorCsfrs_pswUndef (s : State) (info : Word → Word) :
    (s.monitorCsfrs info).pswUndef = s.pswUndef := by simp [State.monitorCsfrs, State.modPsw, State.hwCur]

@[simp] theorem State.monitorCsfrs_mem (s : State) (info : Word → Word) : (s.monitorCsfrs info).mem = s.mem := by
  simp [State.monitorCsfrs, State.modPsw, State.hwCur]

@[simp] theorem State.monitorCsfrs_psw (s : State) (info : Word → Word) :
    (s.monitorCsfrs info).psw = monitorPsw s.psw := by
  simp [State.monitorCsfrs, State.modPsw, State.hwCur]

@[simp] theorem State.monitorCsfrs_pcxi (s : State) (info : Word → Word) :
    (s.monitorCsfrs info).pcxi = info s.pcxi := by
  simp [State.monitorCsfrs, State.modPsw, State.hwCur]

/-- ICR.IE is 0, and the rest of ICR is kept. -/
theorem State.raw_icr_monitorCsfrs (s : State) (info : Word → Word) :
    (s.monitorCsfrs info).raw s.res .icr = setBit (s.raw s.res .icr) 15 false :=
  ((Kept.hwSys (x := .dbgtcr) (by simp) (by simp) .hv fun w => setBit w 0 true).csfr s.res .icr (by simp)
    (by simp)).trans
    (State.raw_icr_hwIcr (s := (s.hw .hv .pcxi info).modPsw monitorPsw) fun i => setBit i 15 false)

/-- DBGTCR.DTA is 1. -/
theorem State.dbgtcr_monitorCsfrs (s : State) (info : Word → Word) :
    (s.monitorCsfrs info).getSys .dbgtcr = setBit (s.getSys .dbgtcr) 0 true := by
  have hicr : ∀ t : State, (t.hwCur .icr fun i => setBit i 15 false).getSys .dbgtcr = t.getSys .dbgtcr := fun t =>
    t.getSys_hwIcr_ne (by simp [icrOf]) _
  rw [State.monitorCsfrs, State.getSys_hw_same, hicr]
  rfl

/-- The breakpoint trap: the address registers, the special registers, the pc. -/
theorem State.breakpointTrap_eq (hw : s.window = []) (ra : Word) : s.breakpointTrap ra =
    ((s.monitorAddrs ra).monitorCsfrs fun p =>
      pcxiSetInfo p (icrIe (s.raw s.res .icr)) (icrCcpn (s.raw s.res .icr))).atHandler (even (s.getSys .dms)) := by
  have hicr : s.ctl .icr .context = s.raw s.res .icr := s.ctl_of_window_nil hw .icr .context
  rw [← hicr, ← State.dbg_of_window_nil hw]
  rfl

/-- The bits of the debug monitor's PSW (45 R651). -/
theorem monitorPsw_fields (p : Word) : pswIo (monitorPsw p) = 0b10#2 ∧ pswPrs (monitorPsw p) = 0 ∧
    pswIs (monitorPsw p) = true ∧ pswGw (monitorPsw p) = false ∧ pswCde (monitorPsw p) = false ∧
    pswCdc (monitorPsw p) = 0 ∧ bit (monitorPsw p) 14 = bit p 14 ∧ field (monitorPsw p) 16 16 = field p 16 16 := by
  obtain ⟨hio, his, hprs, ⟨-, hcdc⟩, hgw, hsafe, -⟩ := handlerPsw p (bit p 14)
  have hb : ∀ j, j ≠ 7 → bit (monitorPsw p) j = bit (pswSetS (pswHandler p) (bit p 14)) j := fun j hj => by
    rw [bit_monitorPsw, if_neg hj, pswSetS, bit_setBit _ (by omega)]
    split
    · subst_vars
      simp [bit_pswHandler]
    · rfl
  refine ⟨?_, (pswPrs_eq_iff.mpr ⟨hb 12 (by decide), hb 13 (by decide), hb 15 (by decide)⟩).trans hprs,
    (hb 9 (by decide)).trans his, (hb 8 (by decide)).trans hgw, by simp [pswCde, bit_monitorPsw], ?_,
    (hb 14 (by decide)).trans hsafe, ?_⟩
  · exact (field_eq_iff.mpr fun k _ => hb _ (by omega)).trans hio
  · exact (field_eq_iff.mpr fun k _ => hb _ (by omega)).trans hcdc
  · refine field_eq_iff.mpr fun k _ => ?_
    rw [bit_monitorPsw, bit_pswHandler]
    grind

/-- Settles O44: the debug context is stored, then the registers follow. -/
theorem breakpointTrapEntry : Obligations.breakpoint_trap_entry := by
  unfold Obligations.breakpoint_trap_entry
  intro s ra hw dcx hram t
  obtain ⟨hra, hsp, hmem, hwin, haddrs⟩ := s.monitorAddrs_spec ra
  rw [State.ctl_of_window_nil s hw, State.ctl_of_window_nil s hw] at hsp
  have ht : t = _ := State.breakpointTrap_eq hw ra
  generalize s.monitorAddrs ra = b at *
  generalize hinfo : (fun p => pcxiSetInfo p (icrIe (s.raw s.res .icr)) (icrCcpn (s.raw s.res .icr))) = info at ht
  have hres : b.res = s.res := haddrs.res_eq (by simp)
  have hraw : ∀ c, (∀ n, c ≠ .ga n) → b.raw s.res c = s.raw s.res c := fun c hc =>
    haddrs.csfr s.res c (by simp) fun n e => absurd e (hc n)
  have hcsfrs := Kept.monitorCsfrs (s := b) info
  have hframe := haddrs.trans hcsfrs hres
  have hend := Kept.atHandler (State.monitorCsfrs_window_nil (hwin.trans hw) info) (even (s.getSys .dms))
  rw [← ht] at hend
  have hkept : Kept s t [] [10, 11] [.pc, .psw, .pcxi, .icr, .sys (icrOf s.vm), .sys .dbgtcr] := by
    rw [← haddrs.vm_eq (by simp)]
    exact (hframe.trans hend (hframe.res_eq (by simp [icrOf]))).mono (by simp) (by simp) (by simp)
  have hstored : t.mem = (s.withDebugContext dcx).mem := by
    rw [ht, State.atHandler_mem, State.monitorCsfrs_mem, hmem]
    exact congrArg State.mem (State.putDebugContext_ram hw hram)
  have hbytes : ∀ a, t.byteAt a = (s.withDebugContext dcx).byteAt a :=
    State.byteAt_of_mem (hkept.cfg_eq.trans (Kept.withDebugContext dcx).cfg_eq.symm) hstored
  have hicr : t.raw s.res .icr = setBit (s.raw s.res .icr) 15 false := by
    have hicr := b.raw_icr_monitorCsfrs info
    rw [hres, hraw .icr (by simp)] at hicr
    exact (hend.csfr s.res .icr (by simp) (by simp)).trans hicr
  have hpsw : b.psw = s.psw := hraw .psw (by simp)
  have hpsw : t.psw = monitorPsw s.psw := by rw [ht, State.atHandler_psw, State.monitorCsfrs_psw, hpsw]
  have haligned : dcx.toNat % 64 = 0 := debugContext_aligned _
  obtain ⟨hie, hccpn, hpipn⟩ := icr_setIe (s.raw s.res .icr) false
  obtain ⟨hio, hprs, his, hgw, hcde, hcdc, hsafe, hupper⟩ := monitorPsw_fields s.psw
  rw [← State.link_of_window_nil hw, ← State.pswImage_of_window_nil hw]
  rw [← hpsw] at hio hprs his hgw hcde hcdc hsafe hupper
  rw [← hicr] at hie hccpn hpipn
  refine ⟨by rw [ht]; rfl, ?_, ?_, ?_, ?_, ?_, hio, hprs, his, hgw, hcde, hcdc, hsafe, hupper, ?_, hie, hccpn, hpipn,
    ?_, hkept⟩
  · exact ((hend.addr 11 (by simp)).trans (hcsfrs.addr 11 (by simp))).trans hra
  · exact ((hend.addr 10 (by simp)).trans (hcsfrs.addr 10 (by simp))).trans hsp
  · exact fun k w hk => (State.wordAt_congr fun c _ => hbytes c).trans (State.withDebugContext_holds haligned k w hk)
  · exact fun a ha => (hbytes a).trans (State.withDebugContext_keeps haligned a ha)
  · have hpcxi : b.pcxi = s.pcxi := hraw .pcxi (by simp)
    rw [ht, State.link_of_window_nil hw, State.atHandler_pcxi, State.monitorCsfrs_pcxi, hpcxi, ← hinfo]
  · exact ((hend.undef (by simp)).trans (b.monitorCsfrs_pswUndef info)).trans (haddrs.undef (by simp))
  · have hdta := b.dbgtcr_monitorCsfrs info
    have hkeep : b.getSys .dbgtcr = s.getSys .dbgtcr := hraw (.sys .dbgtcr) (by simp)
    rw [hkeep] at hdta
    exact (hend.csfr .hv (.sys .dbgtcr) (by simp) (by simp)).trans hdta

/-! ## The return from the debug monitor (45_debug R652) -/

/-- A word of a debug context in ordinary memory. -/
theorem State.debugWord_ram (hw : s.window = [])
    (hram : s.kindOf (span (debugContext (s.getSys .dcx)).toNat 16) = some .ram) (k : Nat) :
    s.debugWord k = s.wordAt (debugContext (s.getSys .dcx) + BitVec.ofNat 32 (4 * k)) := by
  unfold State.debugWord
  rw [State.dbg_of_window_nil hw]
  exact if_pos (beq_iff_eq.mpr hram)

/-- The special registers that come back: ICR from PCXI, PCXI and PSW from the debug context; DBGTCR.DTA is 0. -/
def State.resumedCsfrs (s : State) : State :=
  ((s.restoreIcr.hw .hv .pcxi fun _ => s.debugWord 0).modPsw fun _ => s.debugWord 1).hw .hv (.sys .dbgtcr)
    fun w => setBit w 0 false

/-- What comes back besides ICR leaves ICR alone. -/
theorem Kept.resumedOthers : Kept s.restoreIcr s.resumedCsfrs [] [] [.psw, .pcxi, .sys .dbgtcr] := by
  have h := (Kept.hwPcxi (s := s.restoreIcr) .hv fun _ => s.debugWord 0).trans (Kept.modPsw fun _ => s.debugWord 1)
    (by simp)
  exact (h.trans (Kept.hwSys (x := .dbgtcr) (by simp) (by simp) .hv fun w => setBit w 0 false)
    (h.res_eq (by simp))).mono (by simp) (by simp) (by simp)

theorem Kept.resumedCsfrs : Kept s s.resumedCsfrs [] [] [.psw, .pcxi, .icr, .sys (icrOf s.vm), .sys .dbgtcr] :=
  (Kept.restoreIcr.trans Kept.resumedOthers State.res_restoreIcr).mono (by simp) (by simp) (by simp)

/-- The resumed program: the special registers, the address registers, the pc. -/
theorem State.leaveMonitor_eq (s : State) : s.leaveMonitor =
    ((s.resumedCsfrs.setA 10 (s.debugWord 2)).setA 11 (s.debugWord 3)).sync.jump (even (s.getA 11)) := rfl

theorem State.raw_icr_resumedCsfrs (hw : s.window = []) :
    s.resumedCsfrs.raw s.res .icr = setField (setBit (s.raw s.res .icr) 15 (pcxiPie s.pcxi)) 0 (pcxiPcpn s.pcxi) :=
  (Kept.resumedOthers.csfr s.res .icr (by simp) (by simp)).trans (State.raw_icr_restoreIcr hw)

theorem State.resumedCsfrs_window_nil (hw : s.window = []) : s.resumedCsfrs.window = [] := by
  unfold State.resumedCsfrs State.modPsw
  iterate 3 refine State.hw_window_nil _ ?_
  exact State.restoreIcr_window_nil hw

/-- Settles O43: outside debug mode RFM is a NOP, in it `State.leaveMonitor`. -/
theorem returnFromMonitor : Obligations.return_from_monitor := by
  unfold Obligations.return_from_monitor
  intro s hs dcx
  have hcheck : s.supervisorCheck = .go := by simp [State.supervisorCheck, hs]
  have hexec : exec .rfm s = .next (if s.debugMode then s.leaveMonitor else s.advance 4) :=
    s.conclude_go hcheck _
  refine ⟨fun hd => by rw [hexec, hd]; rfl, fun hd hw hram => ⟨s.leaveMonitor, by rw [hexec, hd]; rfl, ?_⟩⟩
  have hcsfrs := Kept.resumedCsfrs (s := s)
  have hres := hcsfrs.res_eq (by simp [icrOf])
  have hregs := (hcsfrs.trans (Kept.setA 10 (s.debugWord 2)) hres).trans (Kept.setA 11 (s.debugWord 3)) (by simpa)
  have hwin : ((s.resumedCsfrs.setA 10 (s.debugWord 2)).setA 11 (s.debugWord 3)).window = [] := by
    simpa using State.resumedCsfrs_window_nil hw
  have hleft := (hregs.trans (Kept.sync hwin) (by simpa)).trans (Kept.jump (even (s.getA 11))) (by simpa)
  have hicr : s.leaveMonitor.raw s.res .icr =
      setField (setBit (s.raw s.res .icr) 15 (pcxiPie s.pcxi)) 0 (pcxiPcpn s.pcxi) := by
    rw [← State.raw_icr_resumedCsfrs hw, State.leaveMonitor_eq]
    exact State.raw_icr_of_sys (by simp) (by simp) (by simp) _
  have hmem : s.resumedCsfrs.mem = s.mem := by
    simp [State.resumedCsfrs, State.modPsw, State.restoreIcr, State.hwCur]
  have hundef : s.resumedCsfrs.pswUndef = s.pswUndef := by
    simp [State.resumedCsfrs, State.modPsw, State.restoreIcr, State.hwCur]
  have hpcxi : s.leaveMonitor.pcxi = s.debugWord 0 := by simp [State.leaveMonitor_eq, State.resumedCsfrs, State.modPsw]
  have hpsw : s.leaveMonitor.psw = s.debugWord 1 := by simp [State.leaveMonitor_eq, State.resumedCsfrs, State.modPsw]
  have hsp : s.leaveMonitor.getA 10 = s.debugWord 2 := by simp [State.leaveMonitor_eq, State.getA_setA_ne]
  have hra : s.leaveMonitor.getA 11 = s.debugWord 3 := by simp [State.leaveMonitor_eq]
  have hword : ∀ k, s.debugWord k = s.wordAt (dcx + BitVec.ofNat 32 (4 * k)) := State.debugWord_ram hw hram
  refine ⟨rfl, ?_, ?_, ?_, ?_, ?_, ?_, ?_, ?_, ?_, ?_⟩
  · rw [hpcxi, hword, Nat.mul_zero, BitVec.add_zero]
  · exact hpsw.trans (hword 1)
  · exact hsp.trans (hword 2)
  · exact hra.trans (hword 3)
  · simp [State.leaveMonitor_eq, State.resumedCsfrs, State.getSys_hw_same, bit_setBit]
  · rw [hicr, icrIe, bit_setField_ne _ (by omega) _ (by omega), bit_setBit _ (by omega), if_pos rfl]
  · rw [hicr, icrCcpn, field_setField_same _ (by omega)]
  · simpa [State.leaveMonitor_eq] using hundef
  · exact KeepsMemory.of_mem hleft.cfg_eq (by simpa [State.leaveMonitor_eq] using hmem)
  · exact hleft.mono (by simp) (by simp) (by simp)

end Sys2Proof.Machine
end

section
/-! PROOFS. A debug event (45_debug R631 to R642): what it notes in DBGSR, what it tells the host, and how it ends. -/

namespace Sys2Proof.Machine

variable {s t u : State}

/-! ## What an event notes before its last action (45_debug R635 to R639) -/

/-- Two hardware updates of a single-copy register are one. -/
theorem State.hwSys_hwSys (s : State) (q : Resource) (x : SysReg) (f g : Word → Word) :
    (s.hw q (.sys x) f).hw q (.sys x) g = s.hw q (.sys x) fun w => g (f w) := by
  have hone : ∀ e : Stale,
      (fun e : Stale => if e.res = .hv && e.reg = .sys x then { e with old := g e.old } else e)
        (if e.res = .hv && e.reg = .sys x then { e with old := f e.old } else e) =
      if e.res = .hv && e.reg = .sys x then { e with old := g (f e.old) } else e := fun e => by
    by_cases he : (e.res = .hv && e.reg = .sys x) = true
    · simp only [he, if_true]
    · simp only [he, if_false, Bool.false_eq_true]
  simp only [State.hw, State.setRaw, State.raw, State.canon, State.getSys, vector_get, Vector.set_set,
    Vector.getElem_set_self, List.map_map]
  congr 1
  exact List.map_congr_left fun e _ => hone e

/-- The state with a record in DBGSR, the CNT action on the task-mode gate, and the events told to the host. -/
def State.signal (s : State) (f : Word → Word) (cnt : BitVec 2) (told : List OutEvent) : State :=
  { (s.hw .hv (.sys .dbgsr) f).gate cnt with out := told, evt := true }

theorem State.signal_dbgsr (f g : Word → Word) (cnt : BitVec 2) (told : List OutEvent) :
    (s.signal f cnt told).hw .hv (.sys .dbgsr) g = s.signal (fun w => g (f w)) cnt told := by
  have h : (s.signal f cnt told).hw .hv (.sys .dbgsr) g =
      { ((s.hw .hv (.sys .dbgsr) f).hw .hv (.sys .dbgsr) g).gate cnt with out := told, evt := true } := rfl
  rw [h, State.hwSys_hwSys]
  rfl

theorem State.signal_emit (f : Word → Word) (cnt : BitVec 2) (told : List OutEvent) (e : OutEvent) :
    (s.signal f cnt told).emit e = s.signal f cnt (e :: told) := rfl

/-- The action of a debug event: DBGACT.EVTA. -/
def State.eventAction (s : State) : Nat := (field (s.dbg .dbgact) 0 3).toNat

/-- The action is a breakpoint interrupt that the core has. -/
abbrev State.PostsInterrupt (s : State) : Prop := 4 ≤ s.eventAction ∧ s.eventAction - 4 < s.cfg.nBrkInt

/-- An event gives a pulse on break-out. -/
def State.pulses (s : State) : Bool :=
  !bit (s.dbg .dbgact) 3 && (decide (s.eventAction < 4) || decide (s.eventAction - 4 < s.cfg.nBrkInt))

/-- DBGSR with the source of an event and the machine it met. -/
def State.sourceNoted (s : State) (src : BitVec 5) (w : Word) : Word :=
  if s.virtOn then setField (setField w 8 src) 16 (if src = 0 then 0 else s.cvmn) else setField w 8 src

/-- DBGSR with PEVT or SUSOUT besides. -/
def State.signalNoted (s : State) (src : BitVec 5) (w : Word) : Word :=
  if s.PostsInterrupt then setBit (s.sourceNoted src w) 7 true
  else if bit (s.dbg .dbgact) 4 then setBit (s.sourceNoted src w) 4 true
  else s.sourceNoted src w

/-- DBGSR with HALT besides: all that an event notes there. -/
def State.eventNoted (s : State) (src : BitVec 5) (w : Word) : Word :=
  if s.eventAction = 2 then setBit (s.signalNoted src w) 1 true else s.signalNoted src w

/-- What the host has been told with the breakpoint interrupt of an event. -/
def State.toldInterrupt (s : State) : List OutEvent :=
  if s.PostsInterrupt then .breakInterrupt (s.eventAction - 4) :: s.out else s.out

/-- What the host has been told with the pulse besides. -/
def State.toldEvent (s : State) : List OutEvent := if s.pulses then .breakOut :: s.toldInterrupt else s.toldInterrupt

/-- The state before the last action of an event. -/
def State.noted (s : State) (src : BitVec 5) (ereg : Word) : State :=
  s.signal (s.eventNoted src) (field ereg 6 2) s.toldEvent

/-- The state after the signals of an event. -/
def State.signalled (s : State) (src : BitVec 5) (ereg : Word) : State :=
  s.signal (s.signalNoted src) (field ereg 6 2) s.toldEvent

/-- The signals as the model gives them, one after the other. -/
theorem State.signalled_eq (s : State) (src : BitVec 5) (ereg : Word) : s.signalled src ereg =
    let s1 := { (s.noteEvent src).gate (field ereg 6 2) with evt := true }
    let s2 :=
      if s.PostsInterrupt then
        (s1.hw .hv (.sys .dbgsr) fun w => setBit w 7 true).emit (.breakInterrupt (s.eventAction - 4))
      else if bit (s.dbg .dbgact) 4 then s1.hw .hv (.sys .dbgsr) fun w => setBit w 4 true
      else s1
    if s.pulses then s2.emit .breakOut else s2 := by
  have h1 : { (s.noteEvent src).gate (field ereg 6 2) with evt := true } =
    s.signal (s.sourceNoted src) (field ereg 6 2) s.out := rfl
  have h2 : (if s.PostsInterrupt then
      s.signal (fun w => setBit (s.sourceNoted src w) 7 true) (field ereg 6 2)
        (.breakInterrupt (s.eventAction - 4) :: s.out)
      else if bit (s.dbg .dbgact) 4 then s.signal (fun w => setBit (s.sourceNoted src w) 4 true) (field ereg 6 2) s.out
      else s.signal (s.sourceNoted src) (field ereg 6 2) s.out) =
      s.signal (s.signalNoted src) (field ereg 6 2) s.toldInterrupt := by
    unfold State.signalNoted State.toldInterrupt
    by_cases hp : s.PostsInterrupt
    · simp only [if_pos hp]
    · simp only [if_neg hp]
      split <;> rfl
  dsimp only
  rw [h1, State.signal_dbgsr, State.signal_dbgsr, State.signal_emit, h2, State.signalled, State.toldEvent]
  split <;> rfl

/-- A debug event whose action is disabled does nothing; any other notes itself, and then goes on, halts the core or
takes the breakpoint trap. -/
theorem State.debugEvent_eq (s : State) (src : BitVec 5) (ereg ra : Word) : s.debugEvent src ereg ra =
    if s.eventAction = 0 then (s, false)
    else if s.eventAction = 2 then ({ s.noted src ereg with pc := ra }, true)
    else if s.eventAction = 3 ∧ !bit (s.dbg .dbgtcr) 0 then ((s.noted src ereg).breakpointTrap ra, true)
    else (s.noted src ereg, false) := by
  have hstages : s.debugEvent src ereg ra =
    if s.eventAction = 0 then (s, false)
    else if s.eventAction = 2 then
      ({ (s.signalled src ereg).hw .hv (.sys .dbgsr) fun w => setBit w 1 true with pc := ra }, true)
    else if s.eventAction = 3 ∧ !bit (s.dbg .dbgtcr) 0 then ((s.signalled src ereg).breakpointTrap ra, true)
    else (s.signalled src ereg, false) := by
    rw [State.signalled_eq]
    rfl
  have hnoted : s.noted src ereg =
      if s.eventAction = 2 then (s.signalled src ereg).hw .hv (.sys .dbgsr) fun w => setBit w 1 true
      else s.signalled src ereg := by
    rw [State.signalled, State.signal_dbgsr, State.noted]
    unfold State.eventNoted
    split <;> rfl
  rw [hstages, hnoted]
  split <;> simp_all

/-! ## DBGSR after an event (45_debug R635 to R641, R660) -/

theorem State.bit_sourceNoted (s : State) (src : BitVec 5) (w : Word) (k : Nat) : bit (s.sourceNoted src w) k =
    if 8 ≤ k ∧ k < 13 then src.getLsbD (k - 8)
    else if s.virtOn = true ∧ 16 ≤ k ∧ k < 19 then (if src = 0 then (0 : BitVec 3) else s.cvmn).getLsbD (k - 16)
    else bit w k := by
  have hsrc := bit_setField w 8 (by omega) src k
  unfold State.sourceNoted
  cases s.virtOn with
  | false => simpa using hsrc
  | true =>
    rw [if_pos rfl, bit_setField _ 16 (by omega), hsrc]
    by_cases h : 16 ≤ k ∧ k < 19
    · have hno : ¬ (8 ≤ k ∧ k < 13) := by omega
      simp [h, hno]
    · simp [h]

theorem State.bit_eventNoted (s : State) (src : BitVec 5) (w : Word) (k : Nat) : bit (s.eventNoted src w) k =
    if k = 1 then bit w 1 || decide (s.eventAction = 2)
    else if k = 4 then bit w 4 || (bit (s.dbg .dbgact) 4 && !decide s.PostsInterrupt)
    else if k = 7 then bit w 7 || decide s.PostsInterrupt
    else bit (s.sourceNoted src w) k := by
  have hsource : ∀ j, j = 1 ∨ j = 4 ∨ j = 7 → bit (s.sourceNoted src w) j = bit w j := fun j hj => by
    rw [State.bit_sourceNoted, if_neg (by omega), if_neg (by omega)]
  have hsignal : bit (s.signalNoted src w) k =
      if k = 4 then bit w 4 || (bit (s.dbg .dbgact) 4 && !decide s.PostsInterrupt)
      else if k = 7 then bit w 7 || decide s.PostsInterrupt
      else bit (s.sourceNoted src w) k := by
    unfold State.signalNoted
    by_cases hp : s.PostsInterrupt
    · rw [if_pos hp, bit_setBit _ (by omega), decide_eq_true hp]
      by_cases h4 : k = 4
      · simp [h4, hsource]
      · simp [h4]
    · rw [if_neg hp, decide_eq_false hp]
      cases bit (s.dbg .dbgact) 4 with
      | true =>
        rw [if_pos rfl, bit_setBit _ (by omega)]
        by_cases h7 : k = 7
        · simp [h7, hsource]
        · simp [h7]
      | false =>
        simp only [Bool.false_eq_true, if_false, Bool.false_and, Bool.or_false]
        split
        · simp [*]
        · split
          · simp [*]
          · rfl
  unfold State.eventNoted
  by_cases h2 : s.eventAction = 2
  · rw [if_pos h2, bit_setBit _ (by omega), hsignal, decide_eq_true h2, Bool.or_true]
  · rw [if_neg h2, hsignal, decide_eq_false h2, Bool.or_false]
    by_cases h1 : k = 1
    · simp [h1, hsource]
    · rw [if_neg h1]

/-- The action as a field of DBGACT. -/
theorem State.eventAction_eq_iff (s : State) (a : BitVec 3) : s.eventAction = a.toNat ↔ field (s.dbg .dbgact) 0 3 = a :=
  BitVec.toNat_inj

theorem State.getSys_noted (s : State) (src : BitVec 5) (ereg : Word) :
    (s.noted src ereg).getSys .dbgsr = s.eventNoted src (s.getSys .dbgsr) :=
  s.getSys_hw_same .hv .dbgsr (s.eventNoted src)

theorem Kept.signal (f : Word → Word) (cnt : BitVec 2) (told : List OutEvent) :
    Kept s { s.signal f cnt told with taskGate := s.taskGate, out := s.out } [] [] [.sys .dbgsr] := by
  have h := Kept.hwSys (s := s) (x := .dbgsr) (by simp) (by simp) .hv f
  exact (h.trans (Kept.marks s.entered true) (h.res_eq (by simp))).mono (by simp) (by simp) (by simp)

/-- What an event notes, as the statement says it. -/
theorem State.noted_spec (s : State) (src : BitVec 5) (ereg : Word) : EventNoted s (s.noted src ereg) src ereg := by
  have hbit : ∀ k, bit ((s.noted src ereg).getSys .dbgsr) k = _ := fun k =>
    (congrArg (bit · k) (s.getSys_noted src ereg)).trans (s.bit_eventNoted src _ k)
  refine ⟨?_, ?_, hbit 7, hbit 4, ?_, fun k _ h1 h4 h7 hs hm => ?_, rfl, fun ha => ?_, fun k ha hk => ?_,
    fun _ => rfl, Kept.signal ..⟩
  · refine BitVec.eq_of_getLsbD_eq fun k hk => ?_
    rw [getLsbD_field, hbit, if_neg (by omega), if_neg (by omega), if_neg (by omega), State.bit_sourceNoted,
      if_pos (by omega), Nat.add_sub_cancel_left]
    simp [hk]
  · refine BitVec.eq_of_getLsbD_eq fun k hk => ?_
    rw [getLsbD_field, hbit, if_neg (by omega), if_neg (by omega), if_neg (by omega), State.bit_sourceNoted,
      if_neg (by omega), Nat.add_sub_cancel_left]
    cases s.virtOn with
    | true =>
      have h19 : 16 + k < 19 := by omega
      simp [hk, h19]
    | false => simp [getLsbD_field]
  · rw [hbit, if_pos rfl]
    exact congrArg _ (decide_eq_decide.mpr (s.eventAction_eq_iff 2))
  · rw [hbit, if_neg h1, if_neg h4, if_neg h7, State.bit_sourceNoted, if_neg hs, if_neg (fun h => hm h.2)]
  · have ha : s.eventAction < 4 := ha
    have hp : ¬ s.PostsInterrupt := fun h => absurd h.1 (by omega)
    show s.toldEvent = _
    rw [State.toldEvent, State.pulses, State.toldInterrupt, if_neg hp, decide_eq_true ha]
    cases bit (s.dbg .dbgact) 3 <;> rfl
  · have ha : s.eventAction = 4 + k := ha
    have hp : s.PostsInterrupt := ⟨by omega, by omega⟩
    have hk' : s.eventAction - 4 = k := by omega
    show s.toldEvent = _
    rw [State.toldEvent, State.pulses, State.toldInterrupt, if_pos hp, hk', decide_eq_true hk, Bool.or_true]
    cases bit (s.dbg .dbgact) 3 <;> rfl

end Sys2Proof.Machine
end

section
/-! PROOFS. The model's two marks, that the instruction has ended in an entry and that its debug event has acted: no
operation of a move of core registers asks for them, so each does the same whatever they say. -/

namespace Sys2Proof.Machine

variable (s : State)

/-- The state with other marks. -/
def State.marks (s : State) (entered evt : Bool) : State := { s with entered := entered, evt := evt }

theorem State.marks_self {s : State} {n v : Bool} (hn : s.entered = n) (hv : s.evt = v) : s.marks n v = s := by
  subst hn hv
  rfl

section Operations

variable (n v : Bool)

theorem State.setHr_marks (r : Resource) (h : HrSet) : (s.marks n v).setHr r h = (s.setHr r h).marks n v := by
  cases r <;> rfl

theorem State.setD_marks (r : Reg) (w : Word) : (s.marks n v).setD r w = (s.setD r w).marks n v := rfl

theorem State.setA_marks (r : Reg) (w : Word) : (s.marks n v).setA r w = (s.setA r w).marks n v := by
  unfold State.setA
  cases aHome r with
  | ga i => exact s.setHr_marks n v s.res _
  | ctx i => rfl

theorem State.setRaw_marks (r : Resource) (c : Csfr) (w : Word) :
    (s.marks n v).setRaw r c w = (s.setRaw r c w).marks n v := by
  cases c with
  | rep x => exact s.setHr_marks n v r _
  | ga i => exact s.setHr_marks n v r _
  | _ => rfl

theorem State.hw_marks (r : Resource) (c : Csfr) (f : Word → Word) :
    (s.marks n v).hw r c f = (s.hw r c f).marks n v := by
  have h := s.setRaw_marks n v r c (f (s.raw r c))
  unfold State.hw
  have hraw : (s.marks n v).raw r c = s.raw r c := by cases c <;> rfl
  have hcanon : (s.marks n v).canon r c = s.canon r c := by cases c <;> rfl
  rw [hraw, hcanon, h]
  rfl

theorem State.hwCur_marks (c : Csfr) (f : Word → Word) : (s.marks n v).hwCur c f = (s.hwCur c f).marks n v :=
  s.hw_marks n v s.res c f

theorem State.modPsw_marks (f : Word → Word) : (s.marks n v).modPsw f = (s.modPsw f).marks n v :=
  s.hw_marks n v .hv .psw f

theorem State.advance_marks (len : Nat) : (s.marks n v).advance len = (s.advance len).marks n v := rfl

theorem State.putWords_marks (a : Word) (ws : List Word) :
    (s.marks n v).putWords a ws = (s.putWords a ws).marks n v := by
  induction ws generalizing s a with
  | nil => rfl
  | cons w rest ih => exact ih (s.putWord a w) (a + 4)

theorem State.setUpper_marks (w : Nat → Word) : (s.marks n v).setUpper w = (s.setUpper w).marks n v := by
  simp only [State.setUpper, State.setA_marks, State.setD_marks]

theorem State.setLower_marks (w : Nat → Word) : (s.marks n v).setLower w = (s.setLower w).marks n v := by
  simp only [State.setLower, State.setA_marks, State.setD_marks]

theorem State.scramble_marks : (s.marks n v).scramble = s.scramble.marks n v := by
  have hfree : (s.marks n v).freeW = s.freeW := rfl
  simp only [State.scramble, hfree, State.setA_marks, State.setD_marks]

/-! ## Entries -/

theorem State.linked_marks (ul : Bool) (block : List Word) :
    (s.marks n v).linked ul block = (s.linked ul block).marks n v := by
  have h : (s.marks n v).linked ul block =
    (((s.marks n v).putWords (csaEa s.fcx) (s.link :: block)).hw .hv .pcxi fun p =>
      pcxiSetInfo (pcxiSetLink p ul s.fcx) (icrIe (s.ctl .icr .context)) (icrCcpn (s.ctl .icr .context))).hw s.res
        (.rep .fcx) fun f => setField f 0 (field (s.wordAt (csaEa s.fcx)) 0 20) := rfl
  rw [h, State.putWords_marks, State.hw_marks, State.hw_marks]
  rfl

theorem State.saveList_marks (ul : Bool) (block : List Word) :
    (s.marks n v).saveList ul block = (s.saveList ul block).marks n v := by
  rw [State.saveList_eq, State.saveList_eq, State.linked_marks]
  rfl

theorem State.saveUpper_marks (p : Word) : (s.marks n v).saveUpper p = (s.saveUpper p).marks n v := by
  have h : (s.marks n v).saveUpper p = ((s.marks n v).saveList true (s.upperBlock (s.csaPsw p))).hw .hv .pprs
    fun w => setField w 0 (s.prsOf (s.ctl .psw .set)) := rfl
  rw [h, State.saveList_marks, State.hw_marks]
  rfl

theorem State.handlerRegs_marks (e : Entry) : (s.marks n v).handlerRegs e = (s.handlerRegs e).marks n v := by
  have h : (s.marks n v).handlerRegs e =
    let s2 := ((((s.marks n v).saveUpper s.pswImage).scramble).setA 11 e.ra).setD 15 e.d15
    if pswIs (s.ctl .psw .entry) && !e.hyper then s2 else s2.setA 10 (s.ctl (.rep .isp) .entry) := rfl
  rw [h]
  simp only [State.saveUpper_marks, State.scramble_marks, State.setA_marks, State.setD_marks, State.handlerRegs]
  split <;> rfl

theorem State.prepared_marks (e : Entry) : (s.marks n v).prepared e = (s.prepared e).marks n v := by
  have h : (s.marks n v).prepared e =
    (((s.marks n v).handlerRegs e).modPsw (s.entryPsw e)).hw ((s.marks n v).handlerRegs e).res .icr e.icr := rfl
  rw [h, State.handlerRegs_marks, State.modPsw_marks, State.hw_marks]
  rfl

/-- An entry marks that it has happened, and leaves the other mark. -/
theorem State.enterBody_marks (e : Entry) : (s.marks n v).enterBody e = (s.enterBody e).marks true v := by
  rw [State.enterBody_prepared, State.enterBody_prepared, State.prepared_marks]
  cases e.ccpn <;> rfl

theorem State.setCvmn_marks (m : BitVec 3) : (s.marks n v).setCvmn m = (s.setCvmn m).marks n v :=
  s.hw_marks n v .hv (.sys .vcon1) _

theorem State.loseContext_marks (lost : Lost) : (s.marks n v).loseContext lost = (s.loseContext lost).marks n v := by
  cases lost with
  | none | save => rfl
  | upper => exact s.setUpper_marks n v fun k => s.freeW (220 + k)
  | lower => exact s.setLower_marks n v fun k => s.freeW (220 + k)

theorem State.dropPending_marks : (s.marks n v).dropPending = s.dropPending.marks n v := by
  have h : ∀ u : State, u.dropPending = { u.hwCur (.rep .tpsCon) fun w => setBit w 17 (bit w 17 && u.freeB 204) with
      pendNmi := u.pendNmi && u.freeB 200, pendDae := u.pendDae && u.freeB 201,
      pendCae := u.pendCae && u.freeB 202, pendDie := u.pendDie.filter fun _ => u.freeB 203 } := fun _ => rfl
  have hfree : (s.marks n v).freeB = s.freeB := rfl
  rw [h, h, hfree, State.hwCur_marks]
  generalize s.hwCur (.rep .tpsCon) _ = u
  rfl

theorem State.fcuRegs_marks (lost : Lost) : (s.marks n v).fcuRegs lost = (s.fcuRegs lost).marks n v := by
  have h : (s.marks n v).fcuRegs lost =
    let s1 := (((((s.loseMemory lost).marks n v).loseContext lost).scramble).setA 11 (s.freeW 210)).setD 15 4
    if pswIs (s.ctl .psw .entry) then s1 else s1.setA 10 (s.ctl (.rep .isp) .entry) := rfl
  rw [h]
  simp only [State.loseContext_marks, State.scramble_marks, State.setA_marks, State.setD_marks, State.fcuRegs]
  split <;> rfl

theorem State.fcuPrepared_marks (lost : Lost) :
    (s.marks n v).fcuPrepared lost = (s.fcuPrepared lost).marks n v := by
  have h : (s.marks n v).fcuPrepared lost = (((((((s.marks n v).fcuRegs lost).modPsw fun _ => s.fcuPsw).hw .hv .pcxi
    fun _ => s.freeW 212).hwCur (.rep .fcx) fun _ => s.freeW 213).hw .hv .pprs
      fun w => setField w 0 (field (s.freeW 214) 0 3)).hwCur .icr fun i => setBit i 15 false) := rfl
  rw [h, State.fcuRegs_marks]
  simp only [State.modPsw_marks, State.hw_marks, State.hwCur_marks, State.fcuPrepared, State.fcuLinked]

/-- The entry of FCU marks that it has happened, and leaves the other mark. -/
theorem State.fcuEntry_marks (lost : Lost) : (s.marks n v).fcuEntry lost = (s.fcuEntry lost).marks true v := by
  rw [State.fcuEntry_eq, State.fcuEntry_eq, State.fcuPrepared_marks, State.dropPending_marks]
  rfl

/-- Taking an exception marks that an entry has happened, and leaves the other mark. -/
theorem State.enter_marks (e : Entry) : (s.marks n v).enter e = (s.enter e).marks true v := by
  have h : ∀ t : State, (match (t.marks n v).saveCheck with
      | .go => (t.marks n v).enterBody e
      | .hv cls tin =>
        match ((t.marks n v).setCvmn 0).saveCheck with
        | .go => ((t.marks n v).setCvmn 0).enterBody
          { hyper := true, ra := e.ra, d15 := tin, ccpn := none, isrS := false, vector := .bhv cls }
        | w => ((t.marks n v).setCvmn 0).fcuEntry w.lost
      | w => (t.marks n v).fcuEntry w.lost) = (match t.saveCheck with
      | .go => t.enterBody e
      | .hv cls tin =>
        match (t.setCvmn 0).saveCheck with
        | .go => (t.setCvmn 0).enterBody
          { hyper := true, ra := e.ra, d15 := tin, ccpn := none, isrS := false, vector := .bhv cls }
        | w => (t.setCvmn 0).fcuEntry w.lost
      | w => t.fcuEntry w.lost).marks true v := fun t => by
    have hcheck : ∀ u : State, (u.marks n v).saveCheck = u.saveCheck := fun _ => rfl
    rw [State.setCvmn_marks, hcheck, hcheck]
    cases t.saveCheck with
    | go => exact t.enterBody_marks n v e
    | hv cls tin =>
      dsimp only
      cases (t.setCvmn 0).saveCheck with
      | go => exact (t.setCvmn 0).enterBody_marks n v _
      | _ => exact (t.setCvmn 0).fcuEntry_marks n v _
    | _ => exact t.fcuEntry_marks n v _
  unfold State.enter
  cases hh : e.hyper with
  | false => exact h s
  | true =>
    dsimp only
    rw [if_pos rfl, if_pos rfl, State.setCvmn_marks]
    exact h (s.setCvmn 0)

theorem State.inform_marks (cls : BitVec 3) (tin : Byte) :
    (s.marks n v).inform cls tin = (s.inform cls tin).marks n v := by
  have hfree : (s.marks n v).freeW = s.freeW := rfl
  unfold State.inform
  rw [hfree]
  split
  · split
    all_goals simp only [State.hwCur_marks]
  · rfl

theorem State.takeTrap_marks (cls : BitVec 3) (tin : Byte) (ra : Word) :
    (s.marks n v).takeTrap cls tin ra = (s.takeTrap cls tin ra).marks true v := by
  rw [State.takeTrap, State.enter_marks, State.inform_marks]
  rfl

theorem State.takeHvTrap_marks (cls : BitVec 3) (hvtin ra : Word) :
    (s.marks n v).takeHvTrap cls hvtin ra = (s.takeHvTrap cls hvtin ra).marks true v := s.enter_marks n v _

/-! ## Core registers -/

theorem State.csfrReadEffect_marks (c : Csfr) : (s.marks n v).csfrReadEffect c = (s.csfrReadEffect c).marks n v := by
  unfold State.csfrReadEffect
  split
  · exact s.hw_marks n v .hv c _
  · rfl

theorem State.csfrWriteEffect_marks (r : Resource) (c : Csfr) (w : Word) :
    (s.marks n v).csfrWriteEffect r c w = (s.csfrWriteEffect r c w).marks n v := by
  unfold State.csfrWriteEffect
  split
  · exact s.hw_marks n v r _ _
  · rfl
  · have hsys : (s.marks n v).getSys .bootcon = s.getSys .bootcon := rfl
    rw [hsys]
    split
    · exact s.hw_marks n v .hv _ _
    · rfl
  · split
    · exact s.hw_marks n v .hv _ _
    · rfl
  · rfl
  · rfl

theorem State.moveWrite_marks (r : Resource) (c : Csfr) (w : Word) :
    (s.marks n v).moveWrite r c w = (s.moveWrite r c w).marks n v := by
  cases h : s.closed c with
  | true =>
    have h' : (s.marks n v).closed c = true := h
    simp [State.moveWrite, h, h']
  | false =>
    have h' : (s.marks n v).closed c = false := h
    have hopened : ∀ (u : State) (x old : Word),
        (u.marks n v).opened r c x old = (u.opened r c x old).marks n v := fun u x old => by
      have hcanon : (u.marks n v).canon r c = u.canon r c := by cases c <;> rfl
      unfold State.opened
      rw [hcanon, State.hw_marks]
      rfl
    have hwritten : (s.marks n v).csfrWritten r c w ((s.marks n v).overrides r c) =
        s.csfrWritten r c w (s.overrides r c) := by cases c <;> rfl
    have hraw : (s.marks n v).raw r c = s.raw r c := by cases c <;> rfl
    rw [State.moveWrite_opened h, State.moveWrite_opened h', State.csfrWriteEffect_marks, hwritten, hraw, hopened]

theorem State.movePut_marks (r : Resource) (c : Option Csfr) (w : Word) :
    (s.marks n v).movePut r c w = (s.movePut r c w).marks n v := by
  cases c with
  | none => rfl
  | some x => exact s.moveWrite_marks n v r x w

theorem State.moveReadEffect_marks (c : Option Csfr) :
    (s.marks n v).moveReadEffect c = (s.moveReadEffect c).marks n v := by
  cases c with
  | none => rfl
  | some x => exact s.csfrReadEffect_marks n v x

theorem State.getD_marks (r : Reg) : (s.marks n v).getD r = s.getD r := rfl

theorem State.moveRes_marks (off : BitVec 16) : (s.marks n v).moveRes off = s.moveRes off := rfl

theorem State.moveReg_marks (off : BitVec 16) (o : Nat) : (s.marks n v).moveReg off o = s.moveReg off o := rfl

theorem State.moveRead_marks (r : Resource) (c : Option Csfr) : (s.marks n v).moveRead r c = s.moveRead r c := by
  cases c with
  | none => rfl
  | some x => cases x <;> rfl

end Operations
end Sys2Proof.Machine
end

section
/-! PROOFS. What raises a debug event (45_debug R624 to R626): DEBUG, the break-in, a move of core registers; and the
halt (R642). -/

namespace Sys2Proof.Machine

variable {s t : State} {i : Instr}

/-! ## Whether an event takes the machine over (45_debug R635, R641) -/

/-- An event that leaves the machine running has done nothing, or has noted itself and nothing more. -/
theorem State.debugEvent_running {src : BitVec 5} {ereg ra : Word} (h : (s.debugEvent src ereg ra).2 = false) :
    (s.debugEvent src ereg ra).1 = s ∨ (s.debugEvent src ereg ra).1 = s.noted src ereg := by
  rw [State.debugEvent_eq] at h ⊢
  split
  · exact .inl rfl
  · split
    · simp_all
    · split
      · simp_all
      · exact .inr rfl

/-- An event that leaves the machine running leaves the pc. -/
theorem State.debugEvent_running_pc {src : BitVec 5} {ereg ra : Word} (h : (s.debugEvent src ereg ra).2 = false) :
    (s.debugEvent src ereg ra).1.pc = s.pc := by
  rcases State.debugEvent_running h with he | he <;> rw [he]
  rfl

/-- An armed break-before-make event acts in the place of its instruction. -/
theorem State.before_armed {src : BitVec 5} {x : SysReg} (hbbm : bit (s.dbg x) 3 = true) (hevt : s.evt = false) :
    s.before true src x = s.debugEvent src (s.dbg x) s.pc := by
  simp [State.before, hbbm, hevt]

/-- A break-after-make event does nothing before its instruction. -/
theorem State.before_bam {src : BitVec 5} {x : SysReg} (hbam : bit (s.dbg x) 3 = false) (armed : Bool) :
    s.before armed src x = (s, false) := by
  simp [State.before, hbam]

/-- A break-before-make event does nothing after its instruction. -/
theorem State.after_bbm {ereg : Word} (hbbm : bit ereg 3 = true) (armed : Bool) (src : BitVec 5) (pc : Word) :
    s.after armed src ereg pc = s := by
  simp [State.after, hbbm]

/-- An armed break-after-make event acts after its instruction, unless a trigger on the pc goes first. -/
theorem State.after_armed {src : BitVec 5} {ereg pc : Word} (hbam : bit ereg 3 = false) (hevt : s.evt = false) :
    s.after true src ereg pc = if (s.pcBam pc).isSome then s else (s.debugEvent src ereg s.pc).1 := by
  cases h : s.pcBam pc <;> simp [State.after, hbam, hevt, h]

/-! ## DEBUG (45_debug R624, R631) -/

theorem exec_debug {len : Nat} (h : (i = .debug ∧ len = 4) ∨ (i = .debug16 ∧ len = 2)) (s : State) :
    exec i s = s.execDebugBody len := by
  obtain ⟨rfl, rfl⟩ | ⟨rfl, rfl⟩ := h <;> rfl

theorem State.execDebugBody_bbm (hon : s.debugOn = true) (hen : bit (s.dbg .swevt) 0 = true)
    (hevt : s.evt = false) (hbbm : bit (s.dbg .swevt) 3 = true) (len : Nat) :
    s.execDebugBody len =
      .next (if (s.debugEvent 2 (s.dbg .swevt) s.pc).2
        then { (s.debugEvent 2 (s.dbg .swevt) s.pc).1 with entered := true }
        else { (s.debugEvent 2 (s.dbg .swevt) s.pc).1 with pc := s.pc + BitVec.ofNat 32 len }) := by
  have hpc := State.debugEvent_running_pc (s := s) (src := 2) (ereg := s.dbg .swevt) (ra := s.pc)
  unfold State.execDebugBody
  simp only [hon, hen, Bool.and_self, State.before_armed hbbm hevt, State.after_bbm hbbm]
  generalize s.debugEvent 2 (s.dbg .swevt) s.pc = e at hpc ⊢
  obtain ⟨t, taken⟩ := e
  cases taken with
  | true => rfl
  | false =>
    have hadvance : t.advance len = { t with pc := s.pc + BitVec.ofNat 32 len } := by rw [State.advance, hpc rfl]
    rw [← hadvance]
    rfl

theorem State.execDebugBody_bam (hon : s.debugOn = true) (hen : bit (s.dbg .swevt) 0 = true) (hevt : s.evt = false)
    (hbam : bit (s.dbg .swevt) 3 = false) (hpc : s.pcBam s.pc = none) (len : Nat) :
    s.execDebugBody len = .next ((s.advance len).debugEvent 2 (s.dbg .swevt) (s.pc + BitVec.ofNat 32 len)).1 := by
  have hadvance : (s.advance len).pcBam s.pc = none := hpc
  unfold State.execDebugBody
  simp only [hon, hen, Bool.and_self, State.before_bam hbam]
  rw [State.after_armed hbam (show (s.advance len).evt = false from hevt), hadvance]
  rfl

/-! ## Moves of core registers (42_system_instructions R458, 45_debug R626, R631, R633) -/

/-- What stands in the way of a move. -/
def State.moveVerdict (s : State) (off : BitVec 16) (pair write : Bool) (ws : List (Option Csfr × Word)) : Verdict :=
  Verdict.first [.need (!write || s.supervisor) (.trap 1 1), s.offsetCheck off pair write, s.writeCheck off ws]

/-- The course of a move: the writes that are checked and the effect, which ask for no mark. -/
structure MoveCourse (i : Instr) (off : BitVec 16) (pair write : Bool)
    (writes : State → List (Option Csfr × Word)) (effect : State → State) : Prop where
  exec_eq : ∀ s, exec i s = s.execMove off pair write .go writes effect
  writes_marks : ∀ s n v, writes (s.marks n v) = writes s
  effect_marks : ∀ s n v, effect (s.marks n v) = (effect s).marks n v

/-- The course of a move of a register pair. -/
theorem MoveCourse.of_pair {off : BitVec 16} {write : Bool} {a : Reg} {rest : List Reg}
    {writes : State → List (Option Csfr × Word)} {effect : State → State}
    (hexec : ∀ s, exec i s = s.execMove off true write (s.pairCheck a) writes effect) (hp : i.pairs = a :: rest)
    (hw : i.wellFormed = true) (hwrites : ∀ s n v, writes (s.marks n v) = writes s)
    (heffect : ∀ s n v, effect (s.marks n v) = (effect s).marks n v) : MoveCourse i off true write writes effect := by
  refine ⟨fun s => ?_, hwrites, heffect⟩
  have heven := Instr.pairs_even hw
  rw [hp, List.all_cons, Bool.and_eq_true] at heven
  rw [hexec, State.pairCheck_go heven.1]

theorem moveCourse {off : BitVec 16} {pair write : Bool} (h : moveForm i = some (off, pair, write))
    (hw : i.wellFormed = true) : ∃ writes effect, MoveCourse i off pair write writes effect := by
  cases i with
  | mfcr c k =>
    cases h
    refine ⟨_, _, fun _ => rfl, fun _ _ _ => rfl, fun s n v => ?_⟩
    simp only [State.moveReadEffect_marks, State.setD_marks, State.moveReg_marks, State.moveRes_marks,
      State.moveRead_marks]
  | mtcr k a =>
    cases h
    refine ⟨_, _, fun _ => rfl, fun s n v => ?_, fun s n v => ?_⟩
    · rw [State.moveReg_marks, State.getD_marks]
    · rw [State.movePut_marks, State.moveReg_marks, State.moveRes_marks, State.getD_marks]
  | mfdcr c k =>
    cases h
    refine ⟨_, _, .of_pair (fun _ => rfl) rfl hw (fun _ _ _ => rfl) fun s n v => ?_⟩
    simp only [State.moveReadEffect_marks, State.setD_marks, State.moveReg_marks, State.moveRes_marks,
      State.moveRead_marks]
  | mtdcr k a =>
    cases h
    refine ⟨_, _, .of_pair (fun _ => rfl) rfl hw (fun s n v => ?_) fun s n v => ?_⟩
    · rw [State.moveReg_marks, State.moveReg_marks, State.getD_marks, State.getD_marks]
    · simp only [State.movePut_marks, State.moveReg_marks, State.moveRes_marks, State.getD_marks]
  | _ => cases h

variable {off : BitVec 16} {pair write : Bool} {writes : State → List (Option Csfr × Word)} {effect : State → State}

/-- A move keeps a mark that an event of its instruction has acted. -/
theorem MoveCourse.evt_effect (h : MoveCourse i off pair write writes effect) (s : State) : (effect s).evt = s.evt :=
  by
  have heffect := congrArg State.evt (h.effect_marks s s.entered s.evt)
  rwa [State.marks_self rfl rfl] at heffect

/-- A move whose event does not act before it, or does not take the machine over. -/
theorem MoveCourse.exec_running (h : MoveCourse i off pair write writes effect)
    (hb : s.before (s.crEvent (off &&& 0xFFFC#16)) 1 .crevt = (t, false)) :
    exec i s = t.conclude (t.moveVerdict off pair write (writes t))
      (((effect t).advance 4).after (s.crEvent (off &&& 0xFFFC#16)) 1 (s.dbg .crevt) s.pc) := by
  rw [h.exec_eq, State.execMove, hb]
  rfl

/-- A move after an event of its instruction has acted is the move and no more. -/
theorem MoveCourse.exec_acted (h : MoveCourse i off pair write writes effect) (hevt : s.evt = true) :
    exec i s = s.conclude (s.moveVerdict off pair write (writes s)) ((effect s).advance 4) := by
  rw [h.exec_running (State.before_acted hevt ..), State.after_acted]
  exact (h.evt_effect s).trans hevt

/-- A break-before-make event acts in the place of the move, which runs where the event leaves the machine running. -/
theorem MoveCourse.exec_bbm (h : MoveCourse i off pair write writes effect)
    (harmed : s.crEvent (off &&& 0xFFFC#16) = true) (hevt : s.evt = false) (hbbm : bit (s.dbg .crevt) 3 = true) :
    exec i s = if (s.debugEvent 1 (s.dbg .crevt) s.pc).2
      then .next { (s.debugEvent 1 (s.dbg .crevt) s.pc).1 with entered := true }
      else exec i (s.debugEvent 1 (s.dbg .crevt) s.pc).1 := by
  have hbefore := State.before_armed (src := 1) hbbm hevt
  have hrunning := State.debugEvent_running (s := s) (src := 1) (ereg := s.dbg .crevt) (ra := s.pc)
  generalize s.debugEvent 1 (s.dbg .crevt) s.pc = e at hbefore hrunning ⊢
  obtain ⟨t, taken⟩ := e
  cases taken with
  | true =>
    rw [h.exec_eq, State.execMove, harmed, hbefore]
    rfl
  | false =>
    rcases hrunning rfl with rfl | ht
    · rfl
    · have hevt' : t.evt = true := congrArg State.evt ht
      rw [h.exec_running (harmed ▸ hbefore), State.after_bbm hbbm, ← h.exec_acted hevt']
      rfl

/-- What stands in the way of a move asks for no mark. -/
theorem State.moveVerdict_marks (n v : Bool) (ws : List (Option Csfr × Word)) :
    (s.marks n v).moveVerdict off pair write ws = s.moveVerdict off pair write ws := rfl

/-- The outcome of a verdict in a state with other marks: the effect, or an entry, which is marked as one. -/
theorem State.conclude_marks {v : Verdict} {n m : Bool} {e : State} (h : (s.marks n m).conclude v e = .next t) :
    (v = .go ∧ t = e) ∨ ∃ u : State, t = u.marks true m ∧ ∀ e', s.conclude v e' = .next (u.marks true s.evt) := by
  cases v with
  | go => exact .inl ⟨rfl, (Host.Outcome.next.inj h).symm⟩
  | trap cls tin =>
    refine .inr ⟨_, (Host.Outcome.next.inj h).symm.trans (s.takeTrap_marks n m cls tin s.pc), fun _ => ?_⟩
    exact congrArg _ (s.takeTrap_marks s.entered s.evt cls tin s.pc)
  | hv cls tin =>
    refine .inr ⟨_, (Host.Outcome.next.inj h).symm.trans (s.takeHvTrap_marks n m cls tin s.pc), fun _ => ?_⟩
    exact congrArg _ (s.takeHvTrap_marks s.entered s.evt cls tin s.pc)
  | fcu lost =>
    refine .inr ⟨_, (Host.Outcome.next.inj h).symm.trans (s.fcuEntry_marks n m lost), fun _ => ?_⟩
    exact congrArg _ (s.fcuEntry_marks s.entered s.evt lost)
  | refuse r => cases h
  | fault f => cases h

/-- A break-after-make event acts after the move, where this has ended in no entry and no trigger on its pc goes
first. -/
theorem MoveCourse.exec_bam (h : MoveCourse i off pair write writes effect)
    (harmed : s.crEvent (off &&& 0xFFFC#16) = true) (hevt : s.evt = false) (hentered : s.entered = false)
    (hbam : bit (s.dbg .crevt) 3 = false) (hacted : exec i (s.marks false true) = .next t) :
    exec i s = .next (if t.entered ∨ (t.pcBam s.pc).isSome then t.marks t.entered false
      else ((t.marks t.entered false).debugEvent 1 (s.dbg .crevt) t.pc).1) := by
  rw [h.exec_running (State.before_bam hbam _), harmed]
  rw [h.exec_acted rfl, h.writes_marks, h.effect_marks, State.moveVerdict_marks] at hacted
  rcases State.conclude_marks hacted with ⟨hgo, rfl⟩ | ⟨u, rfl, hu⟩
  · have heffect : (effect s).marks false false = effect s := by
      rw [← h.effect_marks, State.marks_self hentered hevt]
    have hevt' : ((effect s).advance 4).evt = false := (h.evt_effect s).trans hevt
    have hmoved : ((effect s).advance 4).marks false false = (effect s).advance 4 :=
      State.marks_self (congrArg State.entered heffect.symm) hevt'
    rw [State.conclude_go hgo, State.after_armed hbam hevt', State.advance_marks]
    generalize (effect s).advance 4 = m at hmoved
    have hpc : (m.marks false true).pcBam s.pc = m.pcBam s.pc := rfl
    have hentered' : (m.marks false true).entered = false := rfl
    have hback : (m.marks false true).marks false false = m := hmoved
    rw [hpc, hentered', hback]
    simp only [Bool.false_eq_true, false_or]
    rfl
  · rw [hu, hevt]
    rfl

/-! ## The halt and the break-in (45_debug R625, R642) -/

/-- A step of the core alone. -/
theorem step_of_coreStep (hsched : s.schedule = []) (hcore : s.coreStep false = .next t) :
    step s = .next (t.nextDraw s.draws) := by
  rw [step, State.scheduled, hsched]
  dsimp only
  rw [hcore]

theorem State.coreStep_halted (h : s.halted = true) (hold : Bool) : s.coreStep hold = .next s := by
  simp [State.coreStep, h]

theorem State.coreStep_request (hhalted : s.halted = false) (hfcd : s.fcdPending = false) (h : s.request = some t) :
    s.coreStep false = .next t := by
  simp [State.coreStep, hhalted, hfcd, h]

/-- A break-in that is held goes before any other request. -/
theorem State.request_breakIn (h : s.breakIn = true) :
    s.request = some (({ s with breakIn := false } : State).debugEvent 0 (s.dbg .exevt) s.pc).1 := by
  have hexternal : s.externalEvent =
      some (({ s with breakIn := false } : State).debugEvent 0 (s.dbg .exevt) s.pc).1 := by
    rw [State.externalEvent, if_pos h]
  rw [State.request, hexternal]

/-- The host's break-in is held where the external event is armed. -/
theorem step_breakIn {rest : List Sched} (h : s.schedule = .host .breakIn :: rest) : step s =
    .next { s with
      schedule := rest
      breakIn := s.breakIn || (bit (s.getSys .dbgsr) 0 && bit (s.dbg .dbgcfg) 15 && bit (s.dbg .exevt) 0)
      draws := s.draws + 1 } := by
  rw [step, State.scheduled, h]
  rfl

/-! ## O6 -/

/-- An event whose action is disabled does nothing. -/
theorem State.debugEvent_disabled (ha : field (s.dbg .dbgact) 0 3 = 0) (src : BitVec 5) (ereg ra : Word) :
    s.debugEvent src ereg ra = (s, false) := by
  have hoff : s.eventAction = 0 := (s.eventAction_eq_iff 0).mpr ha
  rw [State.debugEvent_eq, if_pos hoff]

/-- The three ends of an event, as the statement says them. -/
theorem State.debugEvent_spec (s : State) (src : BitVec 5) (ereg ra : Word)
    (ha : field (s.dbg .dbgact) 0 3 ≠ 0) : ∃ u, EventNoted s u src ereg ∧ s.debugEvent src ereg ra =
      if field (s.dbg .dbgact) 0 3 = 2 then ({ u with pc := ra }, true)
      else if field (s.dbg .dbgact) 0 3 = 3 ∧ bit (s.dbg .dbgtcr) 0 = false then (u.breakpointTrap ra, true)
      else (u, false) := by
  refine ⟨_, s.noted_spec src ereg, ?_⟩
  have hon : ¬ s.eventAction = 0 := mt (s.eventAction_eq_iff 0).mp ha
  rw [State.debugEvent_eq, if_neg hon]
  exact if_congr (s.eventAction_eq_iff 2) rfl
    (if_congr (and_congr (s.eventAction_eq_iff 3) (by simp)) rfl rfl)

/-- Settles O6: the ends of a debug event from what it notes (`State.noted_spec`), what raises one from the course of
DEBUG, of the break-in and of a move. -/
theorem debugEventActions : Obligations.debug_event_actions := by
  intro s
  refine ⟨fun hsched hhalted => step_of_coreStep hsched (State.coreStep_halted hhalted false), fun src ereg ra => ?_,
    fun i len hi hon hen hevt => ?_, fun rest => step_breakIn, fun hsched hhalted hfcd hbreak => ?_,
    fun i off pair write hform hw harmed hevt => ?_⟩
  · exact ⟨fun ha => State.debugEvent_disabled ha src ereg ra, s.debugEvent_spec src ereg ra⟩
  · rw [exec_debug hi]
    exact ⟨fun hbbm => State.execDebugBody_bbm hon hen hevt hbbm len,
      fun hbam hpc => State.execDebugBody_bam hon hen hevt hbam hpc len⟩
  · exact step_of_coreStep hsched (State.coreStep_request hhalted hfcd (State.request_breakIn hbreak))
  · obtain ⟨writes, effect, hcourse⟩ := moveCourse hform hw
    refine ⟨fun hbbm => hcourse.exec_bbm harmed hevt hbbm, fun hbam hentered u hu => ?_⟩
    have hacted : ({ s with evt := true } : State) = s.marks false true := by
      rw [← hentered]
      rfl
    exact hcourse.exec_bam harmed hevt hentered hbam (hacted ▸ hu)

end Sys2Proof.Machine
end

section
/-! PROOFS. The trigger event unit (45_debug R627 to R633): the active triggers and their record in TRIG_ACC, and the
trigger whose event acts. -/

namespace Sys2Proof.Machine

variable {s t : State} {n : Fin 8} {i : Instr}

/-! ## Active triggers (45_debug R628, R629) -/

/-- An even trigger with RNG set is ranged where its partner exists. -/
theorem State.trigRange_iff (hw : s.window = []) (n : Fin 8) : s.trigRange n = true ↔
    n.val % 2 = 0 ∧ n.val + 1 < s.cfg.nTrig ∧ bit (s.getSys (.trEvt n)) 13 = true := by
  simp [State.trigRange, State.dbg_of_window_nil hw, and_assoc]

theorem State.trigExists_iff (s : State) (n : Fin 8) : s.trigExists n = true ↔
    n.val < s.cfg.nTrig ∧ ¬ (n.val % 2 = 1 ∧ s.trigRange (n - 1) = true) := by
  rw [State.trigExists, Bool.and_eq_true, decide_eq_true_eq, Bool.not_eq_true', ← Bool.not_eq_true, Bool.and_eq_true,
    beq_iff_eq]

theorem State.trigMatch_iff (hw : s.window = []) (n : Fin 8) (x : Word) : s.trigMatch n x = true ↔
    (s.trigRange n = true →
      (s.getSys (.trAdr n)).toNat ≤ x.toNat ∧ x.toNat < (s.getSys (.trAdr (n + 1))).toNat) ∧
    (¬ s.trigRange n = true → x = s.getSys (.trAdr n)) := by
  unfold State.trigMatch
  rw [State.dbg_of_window_nil hw, State.dbg_of_window_nil hw]
  cases s.trigRange n <;> simp

/-- The trigger exists by itself and the address is its own. -/
theorem State.triggerAt_iff (hw : s.window = []) (n : Fin 8) (x : Word) :
    s.triggerAt n x ↔ s.trigExists n = true ∧ s.trigMatch n x = true := by
  rw [State.trigExists_iff, State.trigMatch_iff hw, State.trigRange_iff hw, State.trigRange_iff hw, and_assoc]
  rfl

theorem State.pcActive_iff (hw : s.window = []) (n : Fin 8) (pc : Word) :
    s.pcActive pc n = true ↔ bit (s.getSys (.trEvt n)) 12 = true ∧ s.triggerAt n pc := by
  rw [State.triggerAt_iff hw, State.pcActive, State.dbg_of_window_nil hw]
  simp only [Bool.and_eq_true]
  tauto

theorem State.dataActive_iff (hw : s.window = []) (n : Fin 8) (loads stores : Bool) (ea : Word) :
    s.dataActive loads stores ea n = true ↔
      bit (s.getSys (.trEvt n)) 12 = false ∧ s.triggerAt n ea ∧
        ((bit (s.getSys (.trEvt n)) 28 = true ∧ loads = true) ∨
          (bit (s.getSys (.trEvt n)) 27 = true ∧ stores = true)) := by
  rw [State.triggerAt_iff hw, State.dataActive, State.dbg_of_window_nil hw]
  simp only [Bool.and_eq_true, Bool.or_eq_true, Bool.not_eq_true']
  tauto

/-! ## The record of the active triggers (45_debug R630) -/

/-- The bits that a record sets, trigger after trigger. -/
theorem bit_foldl_setBit (active : Fin 8 → Bool) (k : Nat) (l : List (Fin 8)) (w : Word) :
    bit (l.foldl (fun w n => if active n then setBit w n.val true else w) w) k =
      (bit w k || l.any fun n => active n && n.val == k) := by
  induction l generalizing w with
  | nil => simp
  | cons m rest ih =>
    have hm : bit (if active m then setBit w m.val true else w) k = (bit w k || (active m && m.val == k)) := by
      cases active m with
      | false => simp
      | true =>
        rw [if_pos rfl, bit_setBit w (by omega)]
        by_cases hk : k = m.val
        · simp [hk]
        · simp [hk, Ne.symm hk]
    rw [List.foldl_cons, ih, hm, List.any_cons, Bool.or_assoc]

/-- One trigger of all. -/
theorem any_finRange_eq (active : Fin 8 → Bool) (n : Fin 8) :
    ((List.finRange 8).any fun m => active m && m.val == n.val) = active n := by
  rw [Bool.eq_iff_iff, List.any_eq_true]
  simp [← Fin.ext_iff]

/-- In debug mode TRIG_ACC gains the active triggers. -/
theorem State.trigAcc_record (hd : s.debugMode = true) (active : Fin 8 → Bool) (n : Fin 8) :
    bit ((s.record active).getSys .trigAcc) n.val = (bit (s.getSys .trigAcc) n.val || active n) := by
  unfold State.record
  rw [hd, Bool.true_and]
  split
  · rw [State.getSys_hw_same, bit_foldl_setBit, any_finRange_eq]
  · next h =>
    have hn : active n = false := by
      by_contra hn
      exact h (List.any_eq_true.mpr ⟨n, by simp, by simpa using hn⟩)
    rw [hn, Bool.or_false]

/-- Outside debug mode nothing is recorded. -/
theorem State.record_off (hd : s.debugMode = false) (active : Fin 8 → Bool) : s.record active = s := by
  simp [State.record, hd]

theorem Kept.record (active : Fin 8 → Bool) : Kept s (s.record active) [] [] [.sys .trigAcc] := by
  rcases s.record_cases active with h | ⟨f, h⟩ <;> rw [h]
  · exact (Kept.marks s.entered s.evt).mono (by simp) (by simp) (by simp)
  · exact (Kept.hwSys (by simp) (by simp) .hv f).mono (by simp) (by simp) (by simp)

theorem KeepsMemory.record (active : Fin 8 → Bool) : KeepsMemory s (s.record active) := by
  rcases s.record_cases active with h | ⟨f, h⟩ <;> rw [h]
  · exact fun _ => rfl
  · exact fun _ => rfl

/-! ## The start of an instruction leaves the triggers as they are -/

theorem State.begin_window_nil (hw : s.window = []) : s.begin.window = [] := by
  rcases s.begin_cases with h | ⟨f, h⟩ <;> rw [h]
  · exact hw
  · exact State.hw_window_nil _ hw

/-- What the step of a core and its host sees besides the registers, at the start of an instruction. -/
theorem State.begin_fields (s : State) :
    s.begin.draws = s.draws ∧ s.begin.taskGate = s.taskGate ∧ s.begin.out = s.out := by
  rcases s.begin_cases with h | ⟨f, h⟩ <;> rw [h] <;> exact ⟨rfl, rfl, rfl⟩

theorem State.dbg_begin (hw : s.window = []) {x : SysReg} (hx : x ≠ .trigAcc) : s.begin.dbg x = s.dbg x := by
  rw [State.dbg_of_window_nil hw, State.dbg_of_window_nil (State.begin_window_nil hw), s.getSys_begin hx]

theorem State.pcActive_begin (hw : s.window = []) (pc : Word) (n : Fin 8) :
    s.begin.pcActive pc n = s.pcActive pc n := by
  have hevt : ∀ m, s.begin.getSys (.trEvt m) = s.getSys (.trEvt m) := fun _ => s.getSys_begin (by simp)
  have hadr : ∀ m, s.begin.getSys (.trAdr m) = s.getSys (.trAdr m) := fun _ => s.getSys_begin (by simp)
  rw [Bool.eq_iff_iff, State.pcActive_iff hw, State.pcActive_iff (State.begin_window_nil hw)]
  simp only [State.triggerAt, State.begin_cfg, hevt, hadr]

theorem State.debugOn_begin (hw : s.window = []) : s.begin.debugOn = s.debugOn := by
  have hvirt : s.begin.virtOn = s.virtOn := by
    rw [State.virtOn, State.virtOn, State.ctl_of_window_nil _ hw, State.ctl_of_window_nil _ (State.begin_window_nil hw),
      State.begin_cfg]
    exact congrArg (s.cfg.hasVirt && bit · 0) (s.getSys_begin (by simp))
  have hcvmn : s.begin.cvmn = s.cvmn := by rw [State.cvmn, State.cvmn, s.getSys_begin (by simp)]
  simp only [State.debugOn, State.begin_debugMode, State.dbg_begin hw (x := .dbgcfg) (by simp), hvirt, hcvmn]

/-! ## The trigger whose event acts (45_debug R631, R633) -/

/-- The lowest trigger that meets a condition is the one that is found. -/
theorem find?_finRange_eq_some {p : Fin 8 → Bool} (hn : p n = true) (hlow : ∀ m, m < n → p m = false) :
    (List.finRange 8).find? p = some n := by
  rw [← Fin.find?_eq_find?_finRange, Fin.find?_eq_some_iff]
  exact ⟨hn, hlow⟩

theorem find?_finRange_eq_none {p : Fin 8 → Bool} (h : ∀ m, p m = false) : (List.finRange 8).find? p = none := by
  rw [← Fin.find?_eq_find?_finRange, Fin.find?_eq_none_iff]
  exact h

/-- Trigger `n` stops the instruction at the pc before it runs. -/
def State.StopsBefore (s : State) (pc : Word) (n : Fin 8) : Prop :=
  s.pcActive pc n = true ∧ bit (s.getSys (.trEvt n)) 0 = true ∧ bit (s.getSys (.trEvt n)) 3 = true

/-- Trigger `n` raises its event after the instruction at `pc`. -/
def State.RaisesAfter (s : State) (pc : Word) (n : Fin 8) : Prop :=
  s.pcActive pc n = true ∧ bit (s.getSys (.trEvt n)) 0 = true ∧ bit (s.getSys (.trEvt n)) 3 = false

/-- Trigger `n` raises its event after the data access of an instruction. -/
def State.RaisesOnData (s : State) (i : Instr) (n : Fin 8) : Prop :=
  s.touchActive i n = true ∧ bit (s.getSys (.trEvt n)) 0 = true

theorem State.stopsBefore_iff (hw : s.window = []) (hon : s.debugOn = true) (pc : Word) (n : Fin 8) :
    (s.pcActive pc n && s.trigEnabled n && bit (s.dbg (.trEvt n)) 3) = true ↔ s.StopsBefore pc n := by
  simp [State.StopsBefore, State.trigEnabled, hon, State.dbg_of_window_nil hw, and_assoc]

theorem State.raisesAfter_iff (hw : s.window = []) (hon : s.debugOn = true) (pc : Word) (n : Fin 8) :
    (s.pcActive pc n && s.trigEnabled n && !bit (s.dbg (.trEvt n)) 3) = true ↔ s.RaisesAfter pc n := by
  simp [State.RaisesAfter, State.trigEnabled, hon, State.dbg_of_window_nil hw, and_assoc]

theorem State.raisesOnData_iff (hw : s.window = []) (hon : s.debugOn = true) (i : Instr) (n : Fin 8) :
    (s.touchActive i n && s.trigEnabled n) = true ↔ s.RaisesOnData i n := by
  simp [State.RaisesOnData, State.trigEnabled, hon, State.dbg_of_window_nil hw]

theorem State.pcBbm_eq_some (hw : s.window = []) (hon : s.debugOn = true) {pc : Word} (hn : s.StopsBefore pc n)
    (hlow : ∀ m, m < n → ¬ s.StopsBefore pc m) : s.pcBbm pc = some n :=
  find?_finRange_eq_some ((State.stopsBefore_iff hw hon pc n).mpr hn) fun m hm =>
    Bool.eq_false_iff.mpr (mt (State.stopsBefore_iff hw hon pc m).mp (hlow m hm))

theorem State.pcBam_eq_some (hw : s.window = []) (hon : s.debugOn = true) {pc : Word} (hn : s.RaisesAfter pc n)
    (hlow : ∀ m, m < n → ¬ s.RaisesAfter pc m) : s.pcBam pc = some n :=
  find?_finRange_eq_some ((State.raisesAfter_iff hw hon pc n).mpr hn) fun m hm =>
    Bool.eq_false_iff.mpr (mt (State.raisesAfter_iff hw hon pc m).mp (hlow m hm))

theorem State.pcBam_eq_none (hw : s.window = []) (hon : s.debugOn = true) {pc : Word}
    (h : ∀ m, ¬ s.RaisesAfter pc m) : s.pcBam pc = none :=
  find?_finRange_eq_none fun m => Bool.eq_false_iff.mpr (mt (State.raisesAfter_iff hw hon pc m).mp (h m))

/-- A trigger on the pc goes first. -/
theorem State.eventAfter_pc (hw : s.window = []) (hon : s.debugOn = true) (hn : s.RaisesAfter s.pc n)
    (hlow : ∀ m, m < n → ¬ s.RaisesAfter s.pc m) (i : Instr) : s.eventAfter i false = some n := by
  simp [State.eventAfter, State.pcBam_eq_some hw hon hn hlow]

/-- Where no trigger on the pc raises an event, the lowest on the data access does. -/
theorem State.eventAfter_data (hw : s.window = []) (hon : s.debugOn = true) (hpc : ∀ m, ¬ s.RaisesAfter s.pc m)
    (hn : s.RaisesOnData i n) (hlow : ∀ m, m < n → ¬ s.RaisesOnData i m) : s.eventAfter i false = some n := by
  have hfind := find?_finRange_eq_some ((State.raisesOnData_iff hw hon i n).mpr hn) fun m hm =>
    Bool.eq_false_iff.mpr (mt (State.raisesOnData_iff hw hon i m).mp (hlow m hm))
  simpa [State.eventAfter, State.pcBam_eq_none hw hon hpc] using hfind

/-- No event while debug is off. -/
theorem State.eventAfter_off (hoff : s.debugOn = false) (i : Instr) (acted : Bool) : s.eventAfter i acted = none := by
  have hpc : s.pcBam s.pc = none := find?_finRange_eq_none fun m => by simp [State.trigEnabled, hoff]
  have hdata : ((List.finRange 8).find? fun n => s.touchActive i n && s.trigEnabled n) = none :=
    find?_finRange_eq_none fun m => by simp [State.trigEnabled, hoff]
  simp only [State.eventAfter, hpc, hdata, ite_self]

/-- No event where no trigger raises one. -/
theorem State.eventAfter_none (hw : s.window = []) (hpc : ∀ m, ¬ s.RaisesAfter s.pc m)
    (hdata : ∀ m, ¬ s.RaisesOnData i m) (acted : Bool) : s.eventAfter i acted = none := by
  cases hon : s.debugOn with
  | false => exact State.eventAfter_off hon i acted
  | true =>
    have hfind := find?_finRange_eq_none fun m =>
      Bool.eq_false_iff.mpr (mt (State.raisesOnData_iff hw hon i m).mp (hdata m))
    simp only [State.eventAfter, State.pcBam_eq_none hw hon hpc, hfind, ite_self]

/-! ## What stands around an instruction (45_debug R631, R633) -/

/-- The end of an instruction before its break-after-make event: it is counted and its address triggers recorded. -/
def State.ended (s : State) (i : Instr) (t : State) : State := (t.count .icnt 1).record (s.touchActive i)

theorem State.finish_event (ht : t.entered = false) (h : s.eventAfter i (t.evt || t.fcdPending) = some n) :
    s.finish i t =
      ((s.ended i t).debugEvent (16 + BitVec.ofNat 5 n.val) (s.dbg (.trEvt n)) (s.ended i t).pc).1.clock := by
  simp only [State.finish, ht, Bool.false_eq_true, if_false, h]
  rfl

theorem State.finish_quiet (ht : t.entered = false) (h : s.eventAfter i (t.evt || t.fcdPending) = none) :
    s.finish i t = (s.ended i t).clock := by
  simp only [State.finish, ht, Bool.false_eq_true, if_false, h]
  rfl

/-- The step of a core whose instruction a break-before-make trigger stops. -/
theorem step_of_stopsBefore (hw : s.window = []) (hsched : s.schedule = []) (hhalted : s.halted = false)
    (hfcd : s.fcdPending = false) (hrequest : s.request = none) (hon : s.debugOn = true)
    (hn : s.StopsBefore s.pc n) (hlow : ∀ m, m < n → ¬ s.StopsBefore s.pc m) :
    ∀ e, s.begin.debugEvent (16 + BitVec.ofNat 5 n.val) (s.getSys (.trEvt n)) s.pc = e →
    step s = match (if e.2 then .next e.1 else e.1.fetchAndRun) with
      | .next t => .next (t.nextDraw s.draws)
      | .fault f => .fault f
      | .refused r => .refused r := by
  intro e he
  have hstops : ∀ m, s.begin.StopsBefore s.begin.pc m ↔ s.StopsBefore s.pc m := fun m => by
    rw [State.StopsBefore, State.StopsBefore, State.begin_pc, State.pcActive_begin hw, s.getSys_begin (by simp)]
  have hfind : s.begin.pcBbm s.begin.pc = some n :=
    State.pcBbm_eq_some (State.begin_window_nil hw) ((State.debugOn_begin hw).trans hon) ((hstops n).mpr hn)
      fun m hm => mt (hstops m).mp (hlow m hm)
  have htrig : s.begin.trigEvent n s.begin.pc = e := by
    rw [← he, State.trigEvent, State.begin_pc, State.dbg_begin hw (by simp), State.dbg_of_window_nil hw]
  have hcore : s.coreStep false = s.runInstr := by simp [State.coreStep, hhalted, hfcd, hrequest]
  rw [step, State.scheduled, hsched]
  dsimp only
  rw [hcore, State.runInstr, hfind]
  dsimp only
  rw [htrig]
  obtain ⟨u, taken⟩ := e
  cases taken <;> rfl

/-! ## The accesses of the instructions (45_debug R628) -/

theorem touched_of_loadForm {f : MemForm} (h : loadForm i = some f) (s : State) :
    s.touched i = some (true, false, (s.resolve f.mem).ea) := by
  unfold loadForm at h
  split at h <;> cases h <;> rfl

theorem touched_of_storeForm {f : MemForm} (h : storeForm i = some f) (s : State) :
    s.touched i = some (false, true, (s.resolve f.mem).ea) := by
  unfold storeForm at h
  split at h <;> cases h <;> rfl

theorem touched_of_rmwForm {f : RmwForm} (h : rmwForm i = some f) (s : State) :
    s.touched i = some (true, true, (s.resolve f.mem).ea) := by
  unfold rmwForm at h
  split at h <;> cases h <;> rfl

/-- What an instruction touches is its data access. -/
theorem State.Accesses.touched {loads stores : Bool} {ea : Word} (h : s.Accesses i loads stores ea) :
    s.touched i = some (loads, stores, ea) := by
  obtain ⟨f, hf, rfl, rfl, rfl⟩ | ⟨f, hf, rfl, rfl, rfl⟩ | ⟨f, hf, rfl, rfl, rfl⟩ | ⟨off, k, b, rfl, rfl, rfl, rfl⟩ |
    ⟨⟨_, rfl⟩ | ⟨_, rfl⟩ | ⟨_, rfl⟩, rfl, rfl, rfl⟩ | ⟨rfl | rfl, rfl, rfl, rfl⟩ := h
  · exact touched_of_loadForm hf s
  · exact touched_of_storeForm hf s
  · exact touched_of_rmwForm hf s
  all_goals rfl

/-! ## O45 -/

theorem Kept.begin : Kept s s.begin [] [] [.sys .trigAcc] := by
  have hrecord := Kept.record (s := { s with entered := false, evt := false })
    (({ s with entered := false, evt := false } : State).pcActive s.pc)
  exact (Kept.marks false false).trans hrecord rfl

theorem State.noted_pc (s : State) (src : BitVec 5) (ereg : Word) : (s.noted src ereg).pc = s.pc := rfl

theorem State.noted_draws (s : State) (src : BitVec 5) (ereg : Word) : (s.noted src ereg).draws = s.draws := rfl

/-- The core halted by an event in the place of the instruction at the pc. -/
def State.haltedBefore (s : State) (src : BitVec 5) (ereg : Word) : State :=
  ({ s.begin.noted src ereg with pc := s.pc } : State).nextDraw s.draws

/-- But for the draws and an event's signals a state halted where it stands is itself. -/
theorem State.halt_undone {u : State} {pc : Word} {d : Nat} (hpc : u.pc = pc) (hd : u.draws = d) (k : Nat) (g : Bool)
    (o : List OutEvent) : { ({ u with pc := pc } : State).nextDraw k with draws := d, taskGate := g, out := o } =
      { u with taskGate := g, out := o } := by
  subst hpc hd
  rfl

/-- Where the action is to halt, an event in the place of the instruction halts the core there. -/
theorem State.debugEvent_begin_halt (hw : s.window = []) (hact : field (s.getSys .dbgact) 0 3 = 2) (src : BitVec 5)
    (ereg : Word) :
    s.begin.debugEvent src ereg s.pc = ({ s.begin.noted src ereg with pc := s.pc }, true) := by
  have hact' : field (s.begin.dbg .dbgact) 0 3 = 2 := by
    rw [State.dbg_begin hw (by simp), State.dbg_of_window_nil hw, hact]
  have hhalt : s.begin.eventAction = 2 := (s.begin.eventAction_eq_iff 2).mpr hact'
  have hon : ¬ s.begin.eventAction = 0 := by omega
  rw [State.debugEvent_eq, if_neg hon, if_pos hhalt]

/-- The halted core stands at the instruction, and nothing but DBGSR, TRIG_ACC and the event's signals has changed. -/
theorem State.haltedBefore_spec (hw : s.window = []) (hact : field (s.getSys .dbgact) 0 3 = 2) (src : BitVec 5)
    (ereg : Word) :
    let t := s.haltedBefore src ereg
    t.halted = true ∧ t.pc = s.pc ∧ field (t.getSys .dbgsr) 8 5 = src ∧ KeepsMemory s t ∧
      Kept s { t with draws := s.draws, taskGate := s.taskGate, out := s.out } [] [] [.sys .dbgsr, .sys .trigAcc] := by
  have hnoted := s.begin.noted_spec src ereg
  obtain ⟨hbegin, hgate, hout⟩ := s.begin_fields
  have hpc := (s.begin.noted_pc src ereg).trans s.begin_pc
  have hdraws := (s.begin.noted_draws src ereg).trans hbegin
  refine ⟨?_, rfl, hnoted.source, fun a => (hnoted.memory a).trans (s.begin_byteAt a), ?_⟩
  · have hbit : bit ((s.begin.noted src ereg).getSys .dbgsr) 1 = true := by
      rw [hnoted.halt, State.dbg_begin hw (by simp), State.dbg_of_window_nil hw, hact, decide_eq_true rfl, Bool.or_true]
    exact Bool.or_eq_true_iff.mpr (.inl hbit)
  · have hback : ({ s.haltedBefore src ereg with draws := s.draws, taskGate := s.taskGate, out := s.out } : State) =
        { s.begin.noted src ereg with taskGate := s.taskGate, out := s.out } :=
      State.halt_undone (u := s.begin.noted src ereg) hpc hdraws ..
    have hkept := (Kept.begin.trans hnoted.kept s.res_begin).mono (ds' := []) (as' := [])
      (cs' := [.sys .dbgsr, .sys .trigAcc]) (by simp) (by simp) (by simp)
    rw [hgate, hout] at hkept
    exact hback ▸ hkept

/-- Settles O45: each trigger's activity from its registers, the boundary from what the start of an instruction leaves
alone, the end of an instruction from the trigger that is found. -/
theorem triggerEventUnit : Obligations.trigger_event_unit := by
  intro s hw
  refine ⟨State.pcActive_iff hw, State.dataActive_iff hw,
    fun active => ⟨fun hd => ?_, fun hd => State.record_off hd active⟩,
    fun n hsched hhalted hfcd hrequest hon hactive hen hbbm hlow => ?_, fun i loads stores ea h n => ?_,
    fun i t ht => ?_⟩
  · exact ⟨State.trigAcc_record hd active, Kept.record active, KeepsMemory.record active⟩
  · have hstep := step_of_stopsBefore hw hsched hhalted hfcd hrequest hon ⟨hactive, hen, hbbm⟩
      (fun m hm ⟨hactive', hen', hbbm'⟩ => by simp [hlow m hm hactive' hen'] at hbbm')
    refine ⟨fun hact => ⟨_, ?_, State.haltedBefore_spec hw hact (16 + BitVec.ofNat 5 n.val) (s.getSys (.trEvt n))⟩,
      hstep _ rfl⟩
    exact hstep _ (State.debugEvent_begin_halt hw hact _ _)
  · rw [State.touchActive, h.touched]
  · refine ⟨fun n ⟨hon, hevt, hfcd⟩ hpc hlow => ?_, fun n ⟨hon, hevt, hfcd⟩ hpc hdata hlow => ?_, fun hquiet => ?_⟩
    · have hafter := State.eventAfter_pc hw hon hpc hlow i
      rw [State.finish_event ht (by rwa [hevt, hfcd]), State.dbg_of_window_nil hw]
      rfl
    · have hafter := State.eventAfter_data hw hon hpc hdata hlow
      rw [State.finish_event ht (by rwa [hevt, hfcd]), State.dbg_of_window_nil hw]
      rfl
    · refine State.finish_quiet ht ?_
      rcases hquiet with hdue | hnone
      · cases hon : s.debugOn with
        | false => exact State.eventAfter_off hon i _
        | true =>
          have hacted : (t.evt || t.fcdPending) = true := by
            by_contra hacted
            simp only [Bool.not_eq_true, Bool.or_eq_false_iff] at hacted
            exact hdue ⟨hon, hacted⟩
          rw [hacted]
          rfl
      · exact State.eventAfter_none hw (fun m => (hnone m).1) (fun m => (hnone m).2) _

end Sys2Proof.Machine
end

section
/-! PROOFS. The lock of VCON0 (46_virtualization R761, decision D34 of 92_eei_decisions): `State.vcon0Lock` is what is to
stay. Every operation but a write of a core register and a reset leaves it alone whatever it says, and such a write
leaves it alone once it is locked. -/

namespace Sys2Proof.Machine

variable {s t u : State}

/-- VCON0 and whether it has been written since reset. -/
def State.vcon0Lock (s : State) : Bool × Word := (s.vcon0Written, s.getSys .vcon0)

theorem State.vcon0Lock_congr (hwritten : t.vcon0Written = s.vcon0Written) (hsys : t.sys = s.sys) :
    t.vcon0Lock = s.vcon0Lock := by
  rw [State.vcon0Lock, State.vcon0Lock, State.getSys, State.getSys, hwritten, hsys]

theorem State.vcon0Lock_eq_iff : t.vcon0Lock = s.vcon0Lock ↔
    t.vcon0Written = s.vcon0Written ∧ t.getSys .vcon0 = s.getSys .vcon0 := Prod.mk_inj

theorem State.vcon0Written_of_lock (h : t.vcon0Lock = s.vcon0Lock) (hs : s.vcon0Written = true) :
    t.vcon0Written = true := (State.vcon0Lock_eq_iff.mp h).1.trans hs

/-! ## The updates of a state -/

section Updates

variable (s)

@[simp] theorem State.vcon0Lock_setD (n : Reg) (v : Word) : (s.setD n v).vcon0Lock = s.vcon0Lock := rfl
@[simp] theorem State.vcon0Lock_setE (n : Reg) (v : Dword) : (s.setE n v).vcon0Lock = s.vcon0Lock := rfl
@[simp] theorem State.vcon0Lock_setQ (n : Reg) (v : BitVec 128) : (s.setQ n v).vcon0Lock = s.vcon0Lock := rfl
@[simp] theorem State.vcon0Lock_advance (n : Nat) : (s.advance n).vcon0Lock = s.vcon0Lock := rfl
@[simp] theorem State.vcon0Lock_jump (a : Word) : (s.jump a).vcon0Lock = s.vcon0Lock := rfl
@[simp] theorem State.vcon0Lock_emit (e : OutEvent) : (s.emit e).vcon0Lock = s.vcon0Lock := rfl
@[simp] theorem State.vcon0Lock_sync : s.sync.vcon0Lock = s.vcon0Lock := rfl
@[simp] theorem State.vcon0Lock_settle (r : Resource) (c : Csfr) : (s.settle r c).vcon0Lock = s.vcon0Lock := rfl
@[simp] theorem State.vcon0Lock_atHandler (a : Word) : (s.atHandler a).vcon0Lock = s.vcon0Lock := rfl
@[simp] theorem State.vcon0Lock_writeAt (addrs : List Nat) (v : Nat) : (s.writeAt addrs v).vcon0Lock = s.vcon0Lock := rfl
@[simp] theorem State.vcon0Lock_putWord (a v : Word) : (s.putWord a v).vcon0Lock = s.vcon0Lock := rfl

@[simp] theorem State.vcon0Lock_setA (n : Reg) (v : Word) : (s.setA n v).vcon0Lock = s.vcon0Lock :=
  State.vcon0Lock_congr (by simp) (by simp)

@[simp] theorem State.vcon0Lock_setHr (r : Resource) (x : HrSet) : (s.setHr r x).vcon0Lock = s.vcon0Lock :=
  State.vcon0Lock_congr (by simp) (by simp)

/-- A hardware update of any register but VCON0. -/
@[simp] theorem State.vcon0Lock_hw (r : Resource) {c : Csfr} (hc : c ≠ .sys .vcon0) (f : Word → Word) :
    (s.hw r c f).vcon0Lock = s.vcon0Lock := by
  have hsys : ∀ x, x ≠ .vcon0 → (s.hw r (.sys x) f).vcon0Lock = s.vcon0Lock := fun x hx =>
    State.vcon0Lock_eq_iff.mpr ⟨rfl, s.getSys_hw_ne hx.symm r f⟩
  cases c with
  | rep x => exact State.vcon0Lock_congr (by simp) (by simp)
  | ga n => exact s.vcon0Lock_setHr r _
  | sys x => exact hsys x fun h => hc (h ▸ rfl)
  | icr => exact hsys (icrOf (s.icrVm r)) (by simp [icrOf])
  | _ => rfl

@[simp] theorem State.vcon0Lock_hwCur {c : Csfr} (hc : c ≠ .sys .vcon0) (f : Word → Word) :
    (s.hwCur c f).vcon0Lock = s.vcon0Lock := s.vcon0Lock_hw s.res hc f

@[simp] theorem State.vcon0Lock_modPsw (f : Word → Word) : (s.modPsw f).vcon0Lock = s.vcon0Lock := rfl

@[simp] theorem State.vcon0Lock_setCvmn (n : BitVec 3) : (s.setCvmn n).vcon0Lock = s.vcon0Lock :=
  s.vcon0Lock_hw .hv (by simp) _

/-! ## Memory and contexts -/

@[simp] theorem State.vcon0Lock_loaded (x : Access) : (s.loaded x).vcon0Lock = s.vcon0Lock := by
  rw [State.loaded_eq]
  rfl

@[simp] theorem State.vcon0Lock_store (x : Access) (v : Nat) : (s.store x v).vcon0Lock = s.vcon0Lock := by
  unfold State.store
  extract_lets t
  have ht : t.vcon0Lock = s.vcon0Lock := by
    unfold t
    split <;> rfl
  split <;> exact ht

@[simp] theorem State.vcon0Lock_issued (x : Access) (v : Verdict) : (s.issued x v).vcon0Lock = s.vcon0Lock := by
  unfold State.issued
  split <;> simp

@[simp] theorem State.vcon0Lock_saveList (ul : Bool) (block : List Word) :
    (s.saveList ul block).vcon0Lock = s.vcon0Lock := State.vcon0Lock_congr (by simp) (by simp)

@[simp] theorem State.vcon0Lock_restoreList : s.restoreList.vcon0Lock = s.vcon0Lock :=
  State.vcon0Lock_congr (by simp) (by simp)

@[simp] theorem State.vcon0Lock_setUpper (w : Nat → Word) : (s.setUpper w).vcon0Lock = s.vcon0Lock :=
  State.vcon0Lock_congr (by simp) (by simp)

@[simp] theorem State.vcon0Lock_setLower (w : Nat → Word) : (s.setLower w).vcon0Lock = s.vcon0Lock :=
  State.vcon0Lock_congr (by simp) (by simp)

@[simp] theorem State.vcon0Lock_scramble : s.scramble.vcon0Lock = s.vcon0Lock :=
  State.vcon0Lock_congr (by simp) (by simp)

@[simp] theorem State.vcon0Lock_saveUpper (p : Word) : (s.saveUpper p).vcon0Lock = s.vcon0Lock := by
  simp [State.saveUpper_eq]

@[simp] theorem State.vcon0Lock_saveLower : s.saveLower.vcon0Lock = s.vcon0Lock := by simp [State.saveLower_eq]

@[simp] theorem State.vcon0Lock_restoreUpper (keepRm : Bool) : (s.restoreUpper keepRm).vcon0Lock = s.vcon0Lock := by
  simp [State.restoreUpper_eq]

@[simp] theorem State.vcon0Lock_restoreLower : s.restoreLower.vcon0Lock = s.vcon0Lock := by
  simp [State.restoreLower_eq]

/-! ## Taking an exception and returning from one -/

@[simp] theorem State.vcon0Lock_handlerRegs (e : Entry) : (s.handlerRegs e).vcon0Lock = s.vcon0Lock := by
  unfold State.handlerRegs
  dsimp only
  split <;> simp

@[simp] theorem State.vcon0Lock_enterBody (e : Entry) : (s.enterBody e).vcon0Lock = s.vcon0Lock := by
  rw [State.enterBody_prepared, State.prepared]
  cases e.ccpn <;> simp

@[simp] theorem State.vcon0Lock_loseContext (lost : Lost) : (s.loseContext lost).vcon0Lock = s.vcon0Lock := by
  cases lost <;> simp [State.loseContext]

@[simp] theorem State.vcon0Lock_fcuRegs (lost : Lost) : (s.fcuRegs lost).vcon0Lock = s.vcon0Lock := by
  unfold State.fcuRegs State.loseMemory
  dsimp only
  split <;> simp

@[simp] theorem State.vcon0Lock_dropPending : s.dropPending.vcon0Lock = s.vcon0Lock :=
  s.vcon0Lock_hwCur (c := .rep .tpsCon) (by simp) fun w => setBit w 17 (bit w 17 && s.freeB 204)

@[simp] theorem State.vcon0Lock_fcuEntry (lost : Lost) : (s.fcuEntry lost).vcon0Lock = s.vcon0Lock := by
  simp [State.fcuEntry_eq, State.fcuPrepared, State.fcuLinked]

@[simp] theorem State.vcon0Lock_enter (e : Entry) : (s.enter e).vcon0Lock = s.vcon0Lock := by
  have hstart : (if e.hyper then s.setCvmn 0 else s).vcon0Lock = s.vcon0Lock := by split <;> simp
  unfold State.enter
  dsimp only
  split
  · simpa using hstart
  · split <;> simpa using hstart
  · simpa using hstart

@[simp] theorem State.vcon0Lock_inform (cls : BitVec 3) (tin : Byte) : (s.inform cls tin).vcon0Lock = s.vcon0Lock := by
  unfold State.inform
  split
  · split <;> simp
  · rfl

@[simp] theorem State.vcon0Lock_takeTrap (cls : BitVec 3) (tin : Byte) (ra : Word) :
    (s.takeTrap cls tin ra).vcon0Lock = s.vcon0Lock := by simp [State.takeTrap]

@[simp] theorem State.vcon0Lock_takeHvTrap (cls : BitVec 3) (hvtin ra : Word) :
    (s.takeHvTrap cls hvtin ra).vcon0Lock = s.vcon0Lock := by simp [State.takeHvTrap]

@[simp] theorem State.vcon0Lock_takeTrapInHv (cls : BitVec 3) (tin : Byte) (ra : Word) :
    (s.takeTrapInHv cls tin ra).vcon0Lock = s.vcon0Lock := by
  unfold State.takeTrapInHv
  split <;> simp

@[simp] theorem State.vcon0Lock_takePie (a : Word) : (s.takePie a).vcon0Lock = s.vcon0Lock := by
  simp [State.takePie, State.informAt]

@[simp] theorem State.vcon0Lock_takeDie (a : Word) : (s.takeDie a).vcon0Lock = s.vcon0Lock := by
  simp [State.takeDie, State.informAt]

@[simp] theorem State.vcon0Lock_restoreIcr : s.restoreIcr.vcon0Lock = s.vcon0Lock :=
  s.vcon0Lock_hwCur (c := .icr) (by simp) _

@[simp] theorem State.vcon0Lock_leave : s.leave.vcon0Lock = s.vcon0Lock := by simp [State.leave_eq]

/-! ## Debug events (45_debug R635 to R652) -/

@[simp] theorem State.vcon0Lock_putDebugContext : s.putDebugContext.vcon0Lock = s.vcon0Lock := by
  unfold State.putDebugContext
  dsimp only
  split <;> simp

@[simp] theorem State.vcon0Lock_breakpointTrap (ra : Word) : (s.breakpointTrap ra).vcon0Lock = s.vcon0Lock := by
  unfold State.breakpointTrap
  extract_lets icr isp dms own s1 s2 s3 s4 s5 s6
  have h2 : s2.vcon0Lock = s.vcon0Lock := by
    unfold s2 s1
    split <;> simp
  have h6 : s6.vcon0Lock = s2.vcon0Lock := by simp [s6, s5, s4, s3]
  exact h6.trans h2

@[simp] theorem State.vcon0Lock_noted (src : BitVec 5) (ereg : Word) : (s.noted src ereg).vcon0Lock = s.vcon0Lock :=
  s.vcon0Lock_hw .hv (c := .sys .dbgsr) (by simp) (s.eventNoted src)

@[simp] theorem State.vcon0Lock_debugEvent (src : BitVec 5) (ereg ra : Word) :
    (s.debugEvent src ereg ra).1.vcon0Lock = s.vcon0Lock := by
  rw [State.debugEvent_eq]
  split
  · rfl
  split
  · exact s.vcon0Lock_noted src ereg
  split <;> simp

@[simp] theorem State.vcon0Lock_before (armed : Bool) (src : BitVec 5) (x : SysReg) :
    (s.before armed src x).1.vcon0Lock = s.vcon0Lock := by
  unfold State.before
  split <;> simp

@[simp] theorem State.vcon0Lock_after (armed : Bool) (src : BitVec 5) (ereg pc : Word) :
    (s.after armed src ereg pc).vcon0Lock = s.vcon0Lock := by
  unfold State.after
  split <;> simp

@[simp] theorem State.vcon0Lock_record (active : Fin 8 → Bool) : (s.record active).vcon0Lock = s.vcon0Lock := by
  unfold State.record
  split <;> simp

@[simp] theorem State.vcon0Lock_leaveMonitor : s.leaveMonitor.vcon0Lock = s.vcon0Lock := by
  unfold State.leaveMonitor
  extract_lets target s1 s2
  have h2 : s2.vcon0Lock = s.vcon0Lock := by simp [s2, s1]
  have hregs : ((s2.setA 10 (s.debugWord 2)).setA 11 (s.debugWord 3)).vcon0Lock = s2.vcon0Lock := by simp
  exact hregs.trans h2

/-! ## The writes of core registers (42_system_instructions R452, 20_memory R226) -/

@[simp] theorem State.vcon0Lock_csfrReadEffect (c : Csfr) : (s.csfrReadEffect c).vcon0Lock = s.vcon0Lock := by
  unfold State.csfrReadEffect
  split
  · subst c
    simp
  · rfl

@[simp] theorem State.vcon0Lock_moveReadEffect (c : Option Csfr) : (s.moveReadEffect c).vcon0Lock = s.vcon0Lock := by
  cases c with
  | none => rfl
  | some c => exact s.vcon0Lock_csfrReadEffect c

variable {s}

/-- The side effects of a write: that of VCON0 is to lock it. -/
theorem State.vcon0Lock_csfrWriteEffect (h : s.vcon0Written = true) (r : Resource) (c : Csfr) (v : Word) :
    (s.csfrWriteEffect r c v).vcon0Lock = s.vcon0Lock := by
  unfold State.csfrWriteEffect
  split
  · simp
  · exact State.vcon0Lock_eq_iff.mpr ⟨h.symm, rfl⟩
  · split <;> simp
  · split <;> simp
  · rfl
  · rfl

/-- A write of VCON0 writes what a locked VCON0 holds; one of another register does not reach VCON0. -/
theorem State.vcon0Lock_csfrWrite (h : s.vcon0Written = true) (r : Resource) (c : Csfr) (v : Word) (override : Bool) :
    (s.csfrWrite r c v override).vcon0Lock = s.vcon0Lock := by
  have heffect := State.vcon0Lock_csfrWriteEffect h r c v
  unfold State.csfrWrite
  by_cases hc : c = .sys .vcon0
  · subst hc
    have hold : s.csfrWritten r (.sys .vcon0) v override = s.getSys .vcon0 := if_pos h
    rw [hold]
    exact State.vcon0Lock_eq_iff.mpr ⟨h.symm, s.getSys_hw_same .hv .vcon0 fun w => w⟩
  · exact (State.vcon0Lock_hw _ r hc fun _ => s.csfrWritten r c v override).trans heffect

theorem State.vcon0Lock_moveWrite (h : s.vcon0Written = true) (r : Resource) (c : Csfr) (v : Word) :
    (s.moveWrite r c v).vcon0Lock = s.vcon0Lock := by
  unfold State.moveWrite
  split
  · rfl
  · exact State.vcon0Lock_csfrWrite h r c v _

theorem State.vcon0Lock_movePut (h : s.vcon0Written = true) (r : Resource) (c : Option Csfr) (v : Word) :
    (s.movePut r c v).vcon0Lock = s.vcon0Lock := by
  cases c with
  | none => rfl
  | some c => exact State.vcon0Lock_moveWrite h r c v

theorem State.vcon0Lock_hostWrite (h : s.vcon0Written = true) (r : Resource) (offset : BitVec 16) (v : Word) :
    (s.hostWrite r offset v).vcon0Lock = s.vcon0Lock := by
  unfold State.hostWrite
  split
  · rfl
  · rfl
  · split
    · simp
    · rfl
  · split <;> rfl
  · split
    · rfl
    · exact State.vcon0Lock_csfrWrite h r _ v false

end Updates

/-! ## The courses of the instructions -/

/-- An outcome that goes on does so with the lock of `s`. -/
def KeepsVcon0 (s : State) : Host.Outcome State Fault Refusal → Prop := EndsIn fun t => t.vcon0Lock = s.vcon0Lock

@[simp] theorem keepsVcon0_next : KeepsVcon0 s (.next t) ↔ t.vcon0Lock = s.vcon0Lock := Iff.rfl

namespace KeepsVcon0

theorem of_eq {o : Host.Outcome State Fault Refusal} (ho : KeepsVcon0 u o) (h : u.vcon0Lock = s.vcon0Lock) :
    KeepsVcon0 s o := by
  unfold KeepsVcon0
  rwa [← h]

/-- Whatever a verdict comes to, its outcome keeps the lock if the effect does. -/
theorem conclude (hu : u.vcon0Lock = s.vcon0Lock) (v : Verdict) {e : State} (he : e.vcon0Lock = s.vcon0Lock) :
    KeepsVcon0 s (u.conclude v e) := by
  cases v with
  | go => exact he
  | trap cls tin => exact (u.vcon0Lock_takeTrap cls tin u.pc).trans hu
  | hv cls tin => exact (u.vcon0Lock_takeHvTrap cls tin u.pc).trans hu
  | fcu lost => exact (u.vcon0Lock_fcuEntry lost).trans hu
  | refuse r | fault f => trivial

section Courses

variable {len : Nat}

theorem applyUpdate (s : State) (r : Resolved) : (s.applyUpdate r).vcon0Lock = s.vcon0Lock := by
  unfold State.applyUpdate
  split <;> simp

theorem loadConflict (s : State) (r : Resolved) (dst : List Reg) : (s.loadConflict r dst).vcon0Lock = s.vcon0Lock := by
  unfold State.loadConflict
  split
  · split <;> simp
  · rfl

theorem execLoad (m : MemOp) (size align : Nat) (pre : Verdict) (dst : List Reg) {put : State → Nat → State}
    (hput : ∀ t v, (put t v).vcon0Lock = t.vcon0Lock) : KeepsVcon0 s (s.execLoad len m size align pre dst put) :=
  conclude (by simp) _ (by simp [loadConflict, applyUpdate, hput])

theorem ldB (a : Reg) (m : MemOp) : KeepsVcon0 s (s.ldB len a m) :=
  execLoad _ _ _ _ _ fun t _ => t.vcon0Lock_setD a _

theorem ldBu (a : Reg) (m : MemOp) : KeepsVcon0 s (s.ldBu len a m) :=
  execLoad _ _ _ _ _ fun t _ => t.vcon0Lock_setD a _

theorem ldH (a : Reg) (m : MemOp) : KeepsVcon0 s (s.ldH len a m) :=
  execLoad _ _ _ _ _ fun t _ => t.vcon0Lock_setD a _

theorem ldHu (a : Reg) (m : MemOp) : KeepsVcon0 s (s.ldHu len a m) :=
  execLoad _ _ _ _ _ fun t _ => t.vcon0Lock_setD a _

theorem ldW (a : Reg) (m : MemOp) : KeepsVcon0 s (s.ldW len a m) :=
  execLoad _ _ _ _ _ fun t _ => t.vcon0Lock_setD a _

theorem ldD (a : Reg) (m : MemOp) : KeepsVcon0 s (s.ldD len a m) :=
  execLoad _ _ _ _ _ fun t _ => t.vcon0Lock_setE a _

theorem ldA (a : Reg) (m : MemOp) : KeepsVcon0 s (s.ldA len a m) :=
  execLoad _ _ _ _ _ fun t _ => t.vcon0Lock_setA a _

theorem ldDa (a : Reg) (m : MemOp) : KeepsVcon0 s (s.ldDa len a m) :=
  execLoad _ _ _ _ _ fun t _ => ((t.setA a _).vcon0Lock_setA (a + 1) _).trans (t.vcon0Lock_setA a _)

theorem execStore (m : MemOp) (size align : Nat) (pre : Verdict) (src : List Reg) (value : State → Nat) :
    KeepsVcon0 s (s.execStore len m size align pre src value) := conclude rfl _ (by simp [applyUpdate])

theorem execRmw (m : MemOp) (size align : Nat) (pre : Verdict) (new : Nat → Nat) (ret : Option Reg) :
    KeepsVcon0 s (s.execRmw len m size align pre new ret) := by
  refine conclude (by simp) _ ?_
  cases ret <;> simp [applyUpdate]

theorem stB (m : MemOp) (a : Reg) : KeepsVcon0 s (s.stB len m a) := execStore _ _ _ _ _ _

theorem stH (m : MemOp) (a : Reg) : KeepsVcon0 s (s.stH len m a) := execStore _ _ _ _ _ _

theorem stW (m : MemOp) (a : Reg) : KeepsVcon0 s (s.stW len m a) := execStore _ _ _ _ _ _

theorem stD (m : MemOp) (a : Reg) : KeepsVcon0 s (s.stD len m a) := execStore _ _ _ _ _ _

theorem stA (m : MemOp) (a : Reg) : KeepsVcon0 s (s.stA len m a) := execStore _ _ _ _ _ _

theorem stDa (m : MemOp) (a : Reg) : KeepsVcon0 s (s.stDa len m a) := execStore _ _ _ _ _ _

theorem swapW (m : MemOp) (a : Reg) : KeepsVcon0 s (s.swapW len m a) := execRmw _ _ _ _ _ _

theorem ldmst (m : MemOp) (a : Reg) : KeepsVcon0 s (s.ldmst len m a) := execRmw _ _ _ _ _ _

theorem swapmskW (m : MemOp) (a : Reg) : KeepsVcon0 s (s.swapmskW len m a) := execRmw _ _ _ _ _ _

theorem cmpswapW (m : MemOp) (a : Reg) : KeepsVcon0 s (s.cmpswapW len m a) := execRmw _ _ _ _ _ _

theorem execD (v : Verdict) (c : Reg) (value : Word) : KeepsVcon0 s (s.execD len v c value) := conclude rfl v rfl

theorem execA (c : Reg) (value : Word) : KeepsVcon0 s (s.execA len c value) := conclude rfl _ (by simp)

theorem writeD (c : Reg) (v : Word) : KeepsVcon0 s (s.writeD len c v) := by simp [State.writeD]

theorem execArith (c : Reg) (result : Int) (carry : Option Bool) : KeepsVcon0 s (s.execArith len c result carry) := by
  simp [State.execArith]

theorem execBranch (taken : Bool) {n : Nat} (disp : BitVec n) : KeepsVcon0 s (s.execBranch len taken disp) := by
  cases taken <;> rfl

theorem execLink (target : Word) : KeepsVcon0 s (s.execLink len target) := by simp [State.execLink]

theorem execLoop (b : Reg) (disp : BitVec 15) : KeepsVcon0 s (Machine.execLoop b disp s) :=
  conclude rfl _ (by split <;> simp)

theorem execCallTo (target : Word) : KeepsVcon0 s (s.execCallTo len target) := conclude rfl _ (by simp)

theorem execFcallTo (target : Word) : KeepsVcon0 s (s.execFcallTo target) := conclude rfl _ (by simp)

theorem execFastReturn : KeepsVcon0 s s.execFastReturn := conclude (by simp) _ (by simp)

theorem storeContext (m : MemOp) (block : List Word) : KeepsVcon0 s (s.storeContext m block) :=
  conclude rfl _ (by simp)

theorem loadContext (m : MemOp) {put : State → (Nat → Word) → State}
    (hput : ∀ t w, (put t w).vcon0Lock = t.vcon0Lock) : KeepsVcon0 s (s.loadContext m put) :=
  conclude (by simp) _ (by simp [hput])

theorem execCache (priv : Verdict) (m : MemOp) : KeepsVcon0 s (s.execCache priv m) :=
  conclude rfl _ (by simp [applyUpdate])

theorem execDebugBody : KeepsVcon0 s (s.execDebugBody len) := by
  unfold State.execDebugBody
  extract_lets armed
  have hbefore := s.vcon0Lock_before armed 2 .swevt
  split
  next t ht =>
    rw [ht] at hbefore
    exact hbefore
  next t ht =>
    rw [ht] at hbefore
    simpa using hbefore

theorem execRfm : KeepsVcon0 s (Machine.execRfm s) := conclude rfl _ (by split <;> simp)

theorem execHvcall (k : BitVec 8) : KeepsVcon0 s (Machine.execHvcall k s) := by
  unfold Machine.execHvcall
  split
  · exact conclude rfl _ rfl
  split <;> simp

theorem execRfh : KeepsVcon0 s (Machine.execRfh s) := conclude rfl _ (by simp)

theorem captureSrc (s : State) (l u : RepReg) (use : Nat) (src : Option Nat) :
    (s.captureSrc l u use src).vcon0Lock = s.vcon0Lock := by simp [State.captureSrc]

theorem captureAsync (s : State) (op : FpuOp) (r : FpResult) (rm : BitVec 2) :
    (s.captureAsync op r rm).vcon0Lock = s.vcon0Lock := by
  have hregs : (s.captureRegs op r rm).vcon0Lock = s.vcon0Lock := by simp [State.captureRegs, captureSrc]
  rw [State.captureAsync_eq]
  exact hregs

theorem execFpu (op : FpuOp) (opd : Verdict) (r : FpResult) (flags : Word → Word) {put : State → State}
    (hput : (put s).vcon0Lock = s.vcon0Lock) : KeepsVcon0 s (s.execFpu op opd r flags put) := by
  unfold State.execFpu
  split
  · split
    · simp [State.captureSync]
    · dsimp only
      split <;> simp [captureAsync, hput]
  · exact conclude rfl _ rfl

theorem execSp (c : Reg) (opc : Option (Bool × Byte)) (src1 src2 src3 : Option Nat) (r : FpResult) :
    KeepsVcon0 s (s.execSp c opc src1 src2 src3 r) := execFpu _ _ r _ rfl

theorem execDp (c : Reg) (pairs : List Reg) (src1 src2 src3 : Option Nat) (r : FpResult) :
    KeepsVcon0 s (s.execDp c pairs src1 src2 src3 r) := execFpu _ _ r _ rfl

theorem execDpWord (c : Reg) (pairs : List Reg) (src1 src2 : Option Nat) (r : FpResult) :
    KeepsVcon0 s (s.execDpWord c pairs src1 src2 r) := execFpu _ _ r _ rfl

theorem execUpdfl (a : Reg) : KeepsVcon0 s (Machine.execUpdfl a s) := execFpu _ _ _ _ rfl

/-- A move of core registers, in the state that the event before it leaves. -/
theorem execMove (const16 : BitVec 16) (pair write : Bool) (opd : Verdict) (writes : State → List (Option Csfr × Word))
    {effect : State → State} (heffect : ∀ t, t.vcon0Lock = s.vcon0Lock → (effect t).vcon0Lock = t.vcon0Lock) :
    KeepsVcon0 s (s.execMove const16 pair write opd writes effect) := by
  unfold State.execMove
  extract_lets armed
  split
  · have hbefore := s.vcon0Lock_before armed 1 .crevt
    split
    next t ht =>
      rw [ht] at hbefore
      exact hbefore
    next t ht =>
      rw [ht] at hbefore
      exact conclude hbefore _ (by simp [heffect t hbefore, hbefore])
  · exact conclude rfl _ rfl

theorem execMfcr (c : Reg) (k : BitVec 16) : KeepsVcon0 s (Machine.execMfcr c k s) :=
  execMove _ _ _ _ _ fun _ _ => by simp

theorem execMfdcr (c : Reg) (k : BitVec 16) : KeepsVcon0 s (Machine.execMfdcr c k s) :=
  execMove _ _ _ _ _ fun _ _ => by simp

theorem execMtcr (h : s.vcon0Written = true) (k : BitVec 16) (a : Reg) : KeepsVcon0 s (Machine.execMtcr k a s) :=
  execMove _ _ _ _ _ fun _ ht => State.vcon0Lock_movePut (State.vcon0Written_of_lock ht h) _ _ _

theorem execMtdcr (h : s.vcon0Written = true) (k : BitVec 16) (a : Reg) : KeepsVcon0 s (Machine.execMtdcr k a s) :=
  execMove _ _ _ _ _ fun t ht => by
    have hlower := fun r c v => State.vcon0Lock_movePut (s := t) (State.vcon0Written_of_lock ht h) r c v
    have hupper := fun r c v => State.vcon0Lock_movePut
      (State.vcon0Written_of_lock ((hlower r (t.moveReg k (moveOffset k)) (t.getD a)).trans ht) h) r c v
    exact (hupper _ _ _).trans (hlower _ _ _)

end Courses

/-- Every instruction keeps a locked VCON0: each goes through one of the courses above. -/
theorem exec (h : s.vcon0Written = true) (i : Instr) : KeepsVcon0 s (Machine.exec i s) := by
  unfold Machine.exec
  cases i with
  | mfcr => exact execMfcr _ _
  | mtcr => exact execMtcr h _ _
  | mfdcr => exact execMfdcr _ _
  | mtdcr => exact execMtdcr h _ _
  | restore | enable | disable | disableD => exact conclude rfl _ (by simp [State.setIe])
  | bisr | bisr16 | svlcx | rslcx | ret | ret16 | rfe | rfe16 => exact conclude rfl _ (by simp)
  | syscall => exact s.vcon0Lock_takeTrap _ _ _
  | call | call16 | calla | calli => exact execCallTo _
  | fcall | fcalla | fcalli => exact execFcallTo _
  | fret | fret16 => exact execFastReturn
  | jl | jla | jli => exact execLink _
  | jzT | jzT16 | j | jeq | jeqC | jne | jneC | jnzT => exact execBranch _ _
  | loop => exact execLoop _ _
  | ja | ji | jri | nop | dsync | nop16 | isync => rfl
  | stlcxAbs | stucxAbs | stlcxOff | stucxOff => exact storeContext _ _
  | ldlcxAbs | ldlcxOff | lducxAbs | lducxOff => exact loadContext _ (by simp)
  | leaOff | leaAbs | leaLong | addscA | addscAt | movhA | movA | movAa => exact execA _ _
  | extrUReg => exact execD _ _ _
  | ldBAbs | ldBOff | ldBPost | ldBPre | ldBRev | ldBCirc | ldBLong => exact ldB _ _
  | ldBuAbs | ldBuOff | ldBuPost | ldBuPre | ldBuRev | ldBuCirc | ldBuLong => exact ldBu _ _
  | ldHAbs | ldHOff | ldHPost | ldHPre | ldHRev | ldHCirc | ldHLong => exact ldH _ _
  | ldHuAbs | ldHuOff | ldHuPost | ldHuPre | ldHuRev | ldHuCirc | ldHuLong => exact ldHu _ _
  | ldWAbs | ldWOff | ldWPost | ldWPre | ldWRev | ldWCirc | ldWLong | ldW16 => exact ldW _ _
  | ldDAbs | ldDOff | ldDPost | ldDPre | ldDRev | ldDCirc => exact ldD _ _
  | ldAAbs | ldAOff | ldAPost | ldAPre | ldARev | ldACirc | ldALong => exact ldA _ _
  | ldDaAbs | ldDaOff | ldDaPost | ldDaPre | ldDaRev | ldDaCirc => exact ldDa _ _
  | ldDd => exact execLoad _ _ _ _ _ fun t _ => t.vcon0Lock_setQ _ _
  | stBAbs | stBOff | stBPost | stBPre | stBRev | stBCirc | stBLong => exact stB _ _
  | stHAbs | stHOff | stHPost | stHPre | stHRev | stHCirc | stHLong => exact stH _ _
  | stWAbs | stWOff | stWPost | stWPre | stWRev | stWCirc | stWLong | stW16 => exact stW _ _
  | stDAbs | stDOff | stDPost | stDPre | stDRev | stDCirc => exact stD _ _
  | stAAbs | stAOff | stAPost | stAPre | stARev | stACirc | stALong => exact stA _ _
  | stDaAbs | stDaOff | stDaPost | stDaPre | stDaRev | stDaCirc => exact stDa _ _
  | stDd => exact execStore _ _ _ _ _ _
  | swapWOff | swapWPost | swapWPre | swapWRev | swapWCirc | swapWAbs => exact swapW _ _
  | ldmstOff | ldmstPost | ldmstPre | ldmstRev | ldmstCirc | ldmstAbs => exact ldmst _ _
  | swapmskWOff | swapmskWPost | swapmskWPre | swapmskWRev | swapmskWCirc => exact swapmskW _ _
  | cmpswapWOff | cmpswapWPost | cmpswapWPre | cmpswapWRev | cmpswapWCirc => exact cmpswapW _ _
  | stT => exact execRmw _ _ _ _ _ _
  | cacheaWOff | cacheaWPost | cacheaWPre | cacheaWiOff | cacheaWiPost | cacheaWiPre | cacheaIOff | cacheaIPost
  | cacheaIPre | cacheiWOff | cacheiWPost | cacheiWPre | cacheiIOff | cacheiIPost | cacheiIPre | cacheiWiOff
  | cacheiWiPost | cacheiWiPre =>
    exact execCache _ _
  | add | addC | addx | addxC | addc | addcC | addi | sub | add16C | add16R => exact execArith _ _ _
  | extrU | extrUWidth | movConst | movh | mov | movD | and | andC | or | orC | xor | xorC | eq | eqC | lt | ltC
  | mov16C | mov16R =>
    exact writeD _ _
  | addF | subF | maddF | msubF | cmpF | mulF | divF | ftoi | ftoq31 | ftou | ftoiz | itof | q31tof | utof | ftouz
  | ftoq31z | qseedF | hptof | ftohp | absF | negF | minF | maxF | ftoin =>
    exact execSp _ _ _ _ _ _
  | addDf | subDf | mulDf | divDf | maddDf | msubDf | qseedDf | dftol | dftolz | dftoul | dftoulz | ltodf =>
    exact execDp _ _ _ _ _ _
  | cmpDf | dftoi | dftoin | dftoiz | dftou | dftouz => exact execDpWord _ _ _ _ _
  | updfl => exact execUpdfl _
  | debug | debug16 => exact execDebugBody
  | rfm => exact execRfm
  | hvcall => exact execHvcall _
  | rfh => exact execRfh
  | trapv | trapsv | trapinv => exact conclude rfl _ rfl

end KeepsVcon0

/-! ## Boundaries (60_exceptions R801, R850, R854) -/

section Boundaries

variable (s)

@[simp] theorem State.vcon0Lock_takeFcd : s.takeFcd.vcon0Lock = s.vcon0Lock := by
  have hset : ∀ f, (({ s with fcdPending := false } : State).hwCur (.rep .corecon) f).vcon0Lock = s.vcon0Lock :=
    fun f => ({ s with fcdPending := false } : State).vcon0Lock_hwCur (by simp) f
  simp [State.takeFcd, hset]

theorem State.vcon0Lock_takeNmi : s.takeNmi.vcon0Lock = s.vcon0Lock := by
  have hclear : ({ s with pendNmi := false } : State).vcon0Lock = s.vcon0Lock := rfl
  unfold State.takeNmi
  dsimp only
  split <;> simp [hclear]

theorem State.vcon0Lock_asyncTrap : ∀ t ∈ s.asyncTrap, t.vcon0Lock = s.vcon0Lock := by
  unfold State.asyncTrap
  intro t ht
  split at ht
  · exact Option.some.inj ht ▸ s.vcon0Lock_takeNmi
  split at ht
  · exact Option.some.inj ht ▸ State.vcon0Lock_takeTrapInHv ..
  split at ht
  · exact Option.some.inj ht ▸ State.vcon0Lock_takeTrap ..
  split at ht
  · exact Option.some.inj ht ▸ (by simp [State.takeTae])
  · obtain ⟨a, -, rfl⟩ := Option.map_eq_some_iff.mp ht
    exact State.vcon0Lock_takeDie _ a

theorem State.vcon0Lock_interrupt : ∀ t ∈ s.interrupt, t.vcon0Lock = s.vcon0Lock := by
  intro t ht
  obtain ⟨n, -, rfl⟩ := Option.map_eq_some_iff.mp ht
  unfold State.takeIrqOf
  dsimp only
  split
  · exact s.vcon0Lock_enter _
  split <;> exact s.vcon0Lock_enter _

theorem State.vcon0Lock_externalEvent : ∀ t ∈ s.externalEvent, t.vcon0Lock = s.vcon0Lock := by
  unfold State.externalEvent
  intro t ht
  split at ht
  · exact Option.some.inj ht ▸ State.vcon0Lock_debugEvent ..
  · contradiction

theorem State.vcon0Lock_request : ∀ t ∈ s.request, t.vcon0Lock = s.vcon0Lock := by
  unfold State.request
  intro t ht
  split at ht
  next u hu => exact Option.some.inj ht ▸ s.vcon0Lock_externalEvent u hu
  split at ht
  next u hu => exact Option.some.inj ht ▸ s.vcon0Lock_asyncTrap u hu
  next => exact s.vcon0Lock_interrupt t ht

/-! ## Counters and timers, and the fetch -/

@[simp] theorem State.vcon0Lock_count (x : RepReg) (n : Nat) : (s.count x n).vcon0Lock = s.vcon0Lock := by
  unfold State.count
  split <;> simp

@[simp] theorem State.vcon0Lock_tickTimer (x : Fin 3) : (s.tickTimer x).vcon0Lock = s.vcon0Lock := by
  unfold State.tickTimer
  dsimp only
  split
  · rfl
  split <;> simp

@[simp] theorem State.vcon0Lock_tick : s.tick.vcon0Lock = s.vcon0Lock := by simp [State.tick]

@[simp] theorem State.vcon0Lock_clock : s.clock.vcon0Lock = s.vcon0Lock := by simp [State.clock, State.countEvents]

@[simp] theorem State.vcon0Lock_finish (i : Instr) : (s.finish i t).vcon0Lock = t.vcon0Lock := by
  unfold State.finish
  dsimp only
  split
  · simp
  · rw [State.vcon0Lock_clock]
    split <;> simp

@[simp] theorem State.vcon0Lock_takeFetchTrap (cls : BitVec 3) (tin : Byte) :
    (s.takeFetchTrap cls tin).vcon0Lock = s.vcon0Lock := by
  unfold State.takeFetchTrap
  split
  · split
    · exact State.vcon0Lock_takePie _ _
    · simp
  · simp

@[simp] theorem State.vcon0Lock_begin : s.begin.vcon0Lock = s.vcon0Lock := State.vcon0Lock_record _ _

end Boundaries

/-! ## An instruction and what stands around it -/

namespace KeepsVcon0

theorem around (h : s.vcon0Written = true) (i : Instr) : KeepsVcon0 s (s.around i) := by
  have hexec := exec h i
  unfold State.around
  split
  next t ht =>
    rw [ht] at hexec
    exact (s.vcon0Lock_finish i).trans hexec
  all_goals trivial

theorem fetchAndRun (h : s.vcon0Written = true) : KeepsVcon0 s s.fetchAndRun := by
  unfold State.fetchAndRun
  cases s.fetchCheck with
  | go =>
    cases s.fetched with
    | some i => exact around h i
    | none => simp
  | hv cls tin | trap cls tin | fcu lost => simp
  | refuse r | fault f => trivial

theorem runInstr (h : s.vcon0Written = true) : KeepsVcon0 s s.runInstr := by
  have hrun : ∀ u : State, u.vcon0Lock = s.vcon0Lock → KeepsVcon0 s u.fetchAndRun := fun u hu =>
    (fetchAndRun (State.vcon0Written_of_lock hu h)).of_eq hu
  unfold State.runInstr
  extract_lets t
  have ht : t.vcon0Lock = s.vcon0Lock := s.vcon0Lock_begin
  cases t.pcBbm t.pc with
  | none => exact hrun t ht
  | some n =>
    have hevent : (t.trigEvent n t.pc).1.vcon0Lock = s.vcon0Lock := (t.vcon0Lock_debugEvent _ _ _).trans ht
    dsimp only
    split
    next u hu =>
      rw [hu] at hevent
      exact hevent
    next u hu =>
      rw [hu] at hevent
      exact hrun u hevent

theorem coreStep (h : s.vcon0Written = true) (hold : Bool) : KeepsVcon0 s (s.coreStep hold) := by
  unfold State.coreStep
  split
  · rfl
  split
  · simp
  split
  next t ht =>
    cases hold with
    | true => contradiction
    | false => exact s.vcon0Lock_request t ht
  next => exact runInstr h

end KeepsVcon0

/-! ## The host (20_memory R226, R272) -/

theorem State.vcon0Lock_hostReadMem (s : State) (addr : Word) (size : Nat) :
    (s.hostReadMem addr size).vcon0Lock = s.vcon0Lock := by
  unfold State.hostReadMem
  dsimp only
  split <;> rfl

theorem State.vcon0Lock_hostWriteMem (s : State) (addr : Word) (size value : Nat) :
    (s.hostWriteMem addr size value).vcon0Lock = s.vcon0Lock := by
  unfold State.hostWriteMem
  dsimp only
  split <;> rfl

theorem State.vcon0Lock_hostRead (s : State) (r : Resource) (offset : BitVec 16) :
    (s.hostRead r offset).vcon0Lock = s.vcon0Lock := by
  unfold State.hostRead
  split
  · rfl
  · rfl
  · rfl
  · simp

/-- No event of the host but a reset changes or unlocks a locked VCON0. -/
theorem State.vcon0Lock_hostStep (h : s.vcon0Written = true) {e : HostEvent} (he : e ≠ .reset) :
    (s.hostStep e).vcon0Lock = s.vcon0Lock := by
  unfold State.hostStep
  cases e with
  | setPipn vm pipn => exact s.vcon0Lock_hw .hv (c := .sys (.vmIcr vm)) (by simp) _
  | suspendIn level | debugEnable level => exact s.vcon0Lock_hw .hv (c := .sys .dbgsr) (by simp) _
  | nmi | dae | die addr | fetchError addr | breakIn | endinit isOpen | safetyEndinit isOpen => rfl
  | readMem addr size => exact s.vcon0Lock_hostReadMem addr size
  | writeMem addr size value => exact s.vcon0Lock_hostWriteMem addr size value
  | readCsfr res offset => exact s.vcon0Lock_hostRead res offset
  | writeCsfr res offset value => exact State.vcon0Lock_hostWrite h res offset value
  | tick =>
    dsimp only
    split <;> simp
  | reset => exact absurd rfl he

/-! ## The step -/

theorem KeepsVcon0.scheduled (h : s.vcon0Written = true) (hreset : s.schedule.head? ≠ some (.host .reset)) :
    KeepsVcon0 s s.scheduled := by
  have hcore : ∀ rest hold, KeepsVcon0 s (State.coreStep { s with schedule := rest } hold) := fun rest hold =>
    (KeepsVcon0.coreStep (s := { s with schedule := rest }) h hold).of_eq rfl
  unfold State.scheduled
  split
  · exact KeepsVcon0.coreStep h false
  · exact hcore _ false
  · exact hcore _ true
  next e rest hsched =>
    have he : e ≠ .reset := fun he => hreset (by rw [hsched, he]; rfl)
    exact State.vcon0Lock_hostStep (s := { s with schedule := rest }) h he

/-- Settles O10: an instruction, an entry, a debug event or an event of the host that is no reset keeps a locked VCON0,
and the next step's draw is no part of it. -/
theorem vcon0IsLockedUntilReset : Obligations.vcon0_is_locked_until_reset := by
  unfold Obligations.vcon0_is_locked_until_reset
  intro s t h hreset hstep
  have hscheduled := KeepsVcon0.scheduled h hreset
  unfold step at hstep
  split at hstep
  next u hu =>
    rw [hu] at hscheduled
    obtain rfl := Host.Outcome.next.inj hstep
    obtain ⟨hwritten, hvcon0⟩ := State.vcon0Lock_eq_iff.mp hscheduled
    exact ⟨hwritten.trans h, hvcon0⟩
  all_goals cases hstep

end Sys2Proof.Machine
end


section
/-! PROOFS. The entries of the hypervisor from a guest (46_virtualization R715, R717, R721, R723, R728, R738): each is one
entry from the state after the switch to VM0. -/

namespace Sys2Proof.Machine

variable {s t : State} {e : Entry}

/-! ## The state after the switch to the hypervisor -/

theorem State.hasVirt_of_guest (h : s.guest = true) : s.cfg.hasVirt = true :=
  (Bool.and_eq_true_iff.mp (Bool.and_eq_true_iff.mp h).1).1

/-- VM0 runs in HRHV. -/
theorem State.res_of_cvmn_zero (hvirt : s.cfg.hasVirt = true) (h : s.cvmn = 0) : s.res = .hv := by
  rw [State.res, if_pos hvirt, h]
  rfl

theorem State.vm_of_cvmn_zero (hvirt : s.cfg.hasVirt = true) (h : s.cvmn = 0) : s.vm = 0 := by
  rw [State.vm, if_pos hvirt, h]

/-- In the hypervisor ICR is VM0_ICR. -/
theorem State.raw_icr_of_cvmn_zero (hvirt : s.cfg.hasVirt = true) (h : s.cvmn = 0) :
    s.raw .hv .icr = s.getSys (.vmIcr 0) := by
  rw [← State.res_of_cvmn_zero hvirt h, State.raw, State.icrVm_res, State.vm_of_cvmn_zero hvirt h]
  rfl

theorem State.getSys_setCvmn {x : SysReg} (h : x ≠ .vcon1) (n : BitVec 3) : (s.setCvmn n).getSys x = s.getSys x :=
  s.getSys_hw_ne h .hv _

/-- With no update open, the context that the hypervisor's entry saves has PPRS in the place of PRS. -/
theorem State.csaPsw_setCvmn (hw : s.window = []) (n : BitVec 3) :
    (s.setCvmn n).csaPsw (s.setCvmn n).pswImage = pswSetPrs s.pswRead (field s.pprs 0 3) := by
  have hwin := State.setCvmn_window_nil hw n
  rw [State.pswImage_of_window_nil hwin, State.csaPsw, State.ctl_of_window_nil _ hwin]
  rfl

/-- A register that an entry takes from the hypervisor's resource. -/
theorem State.ctl_setCvmn (hw : s.window = []) (hvirt : s.cfg.hasVirt = true) (x : RepReg) (u : Use) :
    (s.setCvmn 0).ctl (.rep x) u = s.getRep .hv x := by
  rw [State.ctl_of_window_nil _ (State.setCvmn_window_nil hw 0),
    State.res_of_cvmn_zero (s := s.setCvmn 0) hvirt (s.cvmn_setCvmn 0)]
  rfl

/-! The vectors of the hypervisor (46 R721, 60 R806, R841). -/

theorem State.vectorPc_setCvmn_biv (hw : s.window = []) (hvirt : s.cfg.hasVirt = true) (p : Byte) :
    (s.setCvmn 0).vectorPc (.biv p) =
      even (s.getRep .hv .biv) ||| (zext p <<< (if bit (s.getRep .hv .biv) 0 then 3 else 5)) := by
  simp only [State.vectorPc, State.ctl_setCvmn hw hvirt]

theorem State.vectorPc_setCvmn_btv (hw : s.window = []) (hvirt : s.cfg.hasVirt = true) (c : BitVec 3) :
    (s.setCvmn 0).vectorPc (.btv c) = even (s.getRep .hv .btv) ||| (zext c <<< 5) := by
  simp only [State.vectorPc, State.ctl_setCvmn hw hvirt]

theorem State.vectorPc_setCvmn_bhv (hw : s.window = []) (c : BitVec 3) :
    (s.setCvmn 0).vectorPc (.bhv c) = even (s.getSys .bhv) ||| (zext c <<< 5) := by
  have hbhv : (s.setCvmn 0).getSys .bhv = s.getSys .bhv := State.getSys_setCvmn (by simp) 0
  simp only [State.vectorPc, State.eff_of_window_nil _ (State.setCvmn_window_nil hw 0), State.raw, hbhv]

/-! ## The entry (46 R717, R728) -/

/-- Clearing the user status bits leaves the rest of a handler's PSW. -/
theorem HandlerPsw.clearUser {p q : Word} {safe : Bool} (h : HandlerPsw p q safe) :
    HandlerPsw 0 (setField q 24 0#8) safe := by
  have hbit : ∀ j, j < 24 → bit (setField q 24 0#8) j = bit q j := fun j hj =>
    bit_setField_ne q (by omega) _ (.inl hj)
  have hfield : ∀ lo len, lo + len ≤ 24 → field (setField q 24 0#8) lo len = field q lo len := fun lo len hlen =>
    field_setField_ne q (by omega) _ (.inr hlen)
  obtain ⟨hio, his, hprs, ⟨hcde, hcdc⟩, hgw, hs, -⟩ := h
  refine ⟨(hfield 10 2 (by omega)).trans hio, (hbit 9 (by omega)).trans his, ?_,
    ⟨(hbit 7 (by omega)).trans hcde, (hfield 0 7 (by omega)).trans hcdc⟩, (hbit 8 (by omega)).trans hgw,
    (hbit 14 (by omega)).trans hs, ?_⟩
  · rw [← hprs, pswPrs_eq_iff]
    exact ⟨hbit 12 (by omega), hbit 13 (by omega), hbit 15 (by omega)⟩
  · exact field_setField_same q (by omega) 0#8

/-- An entry of the hypervisor that finds a CSA is the body of an entry after the switch. -/
theorem State.enterHyper_go (he : e.hyper = true) (hcheck : (s.setCvmn 0).saveCheck = .go) :
    s.enter e = (s.setCvmn 0).enterBody e := by
  unfold State.enter
  simp only [he, if_true, hcheck]

theorem Enters.hyper_cvmn (h : Enters (s.setCvmn 0) t e) : t.cvmn = 0 := by
  have hvcon1 : t.getSys .vcon1 = (s.setCvmn 0).getSys .vcon1 :=
    h.kept.csfr .hv (.sys .vcon1) (by simp [icrOf]) (by simp)
  rw [State.cvmn, hvcon1]
  exact s.cvmn_setCvmn 0

/-- VM0_ICR after an entry of the hypervisor. -/
theorem Enters.hyper_icr (hvirt : s.cfg.hasVirt = true) (h : Enters (s.setCvmn 0) t e) :
    t.getSys (.vmIcr 0) = e.icr (s.getSys (.vmIcr 0)) := by
  have hvirt' : t.cfg.hasVirt = true := by rwa [show t.cfg = s.cfg from h.kept.cfg_eq]
  have hres := State.res_of_cvmn_zero (s := s.setCvmn 0) hvirt (s.cvmn_setCvmn 0)
  have hbefore := State.raw_icr_of_cvmn_zero (s := s.setCvmn 0) hvirt (s.cvmn_setCvmn 0)
  rw [State.getSys_setCvmn (by simp)] at hbefore
  have hicr := h.icr
  rwa [hres, State.raw_icr_of_cvmn_zero hvirt' h.hyper_cvmn, hbefore] at hicr

/-- An entry turns interrupts off. -/
theorem Entry.icrIe_icr (e : Entry) (i : Word) : icrIe (e.icr i) = false := by
  have hoff : icrIe (setBit i 15 false) = false := (bit_setBit i (by omega) _ _).trans (if_pos rfl)
  unfold Entry.icr
  cases e.ccpn with
  | none => exact hoff
  | some p => exact (bit_setField_ne _ (by omega) p (.inr (by omega))).trans hoff

/-- An interrupt's entry sets the priority, another one leaves it. -/
theorem Entry.icrCcpn_icr (e : Entry) (i : Word) : icrCcpn (e.icr i) = e.ccpn.getD (icrCcpn i) := by
  unfold Entry.icr
  cases e.ccpn with
  | none => exact field_setBit_ne i (by omega) _ (.inr (by omega))
  | some p => exact field_setField_same _ (by omega) p

/-- What an entry after the switch is, as the statement says it from the guest's state. -/
theorem HyperEntry.of_enters (hw : s.window = []) (hvirt : s.cfg.hasVirt = true) (he : e.hyper = true)
    (h : Enters (s.setCvmn 0) t e) :
    HyperEntry s t e.ra e.d15 (bit (s.getRep .hv .corecon) (if e.isrS then 3 else 4)) := by
  have hres := State.res_of_cvmn_zero (s := s.setCvmn 0) hvirt (s.cvmn_setCvmn 0)
  refine ⟨h.hyper_cvmn, h.res.trans hres, h.ra, h.d15, ?_, ?_, h.pprs, ?_, ?_, fun r hr => ?_, fun r hr hne => ?_⟩
  · rw [h.sp, he, State.ctl_setCvmn hw hvirt]
    simp
  · rw [h.psw, he, State.ctl_setCvmn hw hvirt]
    exact (handlerPsw s.psw _).clearUser
  · rw [← State.csaPsw_setCvmn hw 0]
    exact h.saves
  · rw [h.hyper_icr hvirt, Entry.icrIe_icr]
  · exact h.kept.data r (by revert r; decide)
  · have hout : r ∉ upperAddr := by revert r; decide
    exact (h.kept.addr r hout).trans (State.getA_of_ca (s := s) (t := s.setCvmn 0) rfl (.inr hr))

/-- The registers that inform about a trap are no part of the entry. -/
theorem HyperEntry.inform {ra d15 : Word} {safe : Bool} (h : HyperEntry s t ra d15 safe) (cls : BitVec 3) (tin : Byte) :
    HyperEntry s (t.inform cls tin) ra d15 safe := by
  obtain ⟨-, hpsw, hpcxi, hpprs, hmem, -, hsys, hcfg, -, hfcd⟩ := t.inform_fields cls tin
  have hk := Kept.inform (s := t) cls tin
  have hd := fun r => hk.data r (by simp)
  have ha := fun r => hk.addr r (by simp)
  have hsaves := h.saves.congr hcfg hmem hpcxi (fun r => hk.csfr r (.rep .fcx) (by simp) (by simp)) hfcd
  have hicr : (t.inform cls tin).getSys (.vmIcr 0) = t.getSys (.vmIcr 0) := by rw [State.getSys, hsys]; rfl
  exact ⟨(State.cvmn_of_sys hsys).trans h.vm, (State.res_of_sys hcfg hsys).trans h.res, (ha 11).trans h.ra,
    (hd 15).trans h.d15, (ha 10).trans h.sp, hpsw ▸ h.psw, hpprs ▸ h.pprs, hsaves, hicr ▸ h.off,
    fun r hr => (hd r).trans (h.data r hr), fun r hr hne => (ha r).trans (h.addr r hr hne)⟩

/-- Settles O46: each of the entries is `State.enter` of the hypervisor, whose clauses `HyperEntry.of_enters` gives; they
differ in their vector, in D[15] and in what an interrupt does besides. -/
theorem hypervisorEntries : Obligations.hypervisor_entries := by
  unfold Obligations.hypervisor_entries
  intro s ra hw hguest hcheck ts is bhv
  have hvirt := State.hasVirt_of_guest hguest
  have henters : ∀ e : Entry, e.hyper = true → Enters (s.setCvmn 0) (s.enter e) e := fun e he =>
    State.enterHyper_go he hcheck ▸ State.enterBody_spec (State.setCvmn_window_nil hw 0) e
  have hentry : ∀ e : Entry, e.hyper = true → HyperEntry s (s.enter e) e.ra e.d15
      (bit (s.getRep .hv .corecon) (if e.isrS then 3 else 4)) ∧ (s.enter e).pc = (s.setCvmn 0).vectorPc e.vector ∧
      icrCcpn ((s.enter e).getSys (.vmIcr 0)) = e.ccpn.getD (icrCcpn (s.getSys (.vmIcr 0))) := fun e he =>
    ⟨HyperEntry.of_enters hw hvirt he (henters e he), (henters e he).pc,
      (congrArg icrCcpn ((henters e he).hyper_icr hvirt)).trans (e.icrCcpn_icr _)⟩
  have hbhv := State.vectorPc_setCvmn_bhv hw
  refine ⟨fun cls hvtin => ?_, fun pipn => ?_, fun n => ?_, fun cls tin => ?_⟩
  · obtain ⟨hyper, hpc, hccpn⟩ := hentry ⟨true, ra, hvtin, none, false, .bhv cls⟩ rfl
    exact ⟨hyper, hpc.trans (hbhv _), (henters _ rfl).out, hccpn⟩
  · obtain ⟨hyper, hpc, hccpn⟩ := hentry ⟨true, s.pc, 0x80000000#32, some pipn, true, .biv pipn⟩ rfl
    refine ⟨hyper, hpc.trans (State.vectorPc_setCvmn_biv hw hvirt pipn), (henters _ rfl).out.trans ?_, hccpn⟩
    have hvm := State.vm_of_cvmn_zero (s := s.setCvmn 0) hvirt (s.cvmn_setCvmn 0)
    dsimp only
    rw [hvm]
    rfl
  · obtain ⟨hyper, hpc, hccpn⟩ := hentry ⟨true, s.pc, 0x80000000#32 ||| zext n, none, true, .bhv 1⟩ rfl
    exact ⟨hyper, hpc.trans (hbhv _), (henters _ rfl).out, hccpn⟩
  · let e : Entry := ⟨true, ra, 0x80000000#32 ||| zext tin, none, false, .btv cls⟩
    obtain ⟨hyper, hpc, -⟩ := hentry e rfl
    obtain ⟨hpc', -, -, -, -, hout, -⟩ := (s.enter e).inform_fields cls tin
    have htake : s.takeTrapInHv cls tin ra = (s.enter e).inform cls tin := if_pos hguest
    dsimp only
    rw [htake]
    exact ⟨hyper.inform cls tin, hpc'.trans (hpc.trans (State.vectorPc_setCvmn_btv hw hvirt cls)),
      hout.trans (henters e rfl).out⟩

end Sys2Proof.Machine
end


section
/-! PROOFS. RFH (46_virtualization R716, R754): the return from an exception in the hypervisor, then the switch. -/

namespace Sys2Proof.Machine

variable {s t u : State}

/-! ## The global address registers (10_state R44, 46 R706) -/

theorem exists_reg_of_ga : ∀ n : Fin 4, ∃ r : Reg, aHome r = .ga n ∧ r ∉ upperAddr := by decide

theorem exists_ctx_of_not_global : ∀ r : Reg, r ∉ ([0, 1, 8, 9] : List Reg) → ∃ i, aHome r = .ctx i := by decide

/-- A frame that may write the upper context keeps the global address registers of every resource. -/
theorem Kept.raw_ga {ds : List Reg} {cs : List Csfr} (h : Kept s t ds upperAddr cs) (hc : ∀ n, Csfr.ga n ∉ cs)
    (hres : t.res = s.res) (r : Resource) (n : Fin 4) : t.raw r (.ga n) = s.raw r (.ga n) := by
  by_cases hr : r = s.res
  · obtain ⟨a, ha, hout⟩ := exists_reg_of_ga n
    have haddr := h.addr a hout
    simp only [State.getA, ha, hres] at haddr
    rw [hr]
    exact haddr
  · exact h.csfr r (.ga n) (hc n) fun _ _ => hr

/-! ## The switch of the running machine (46 R716, R762) -/

theorem State.setCvmn_pc (n : BitVec 3) : (s.setCvmn n).pc = s.pc := rfl
theorem State.setCvmn_psw (n : BitVec 3) : (s.setCvmn n).psw = s.psw := rfl
theorem State.setCvmn_pswUndef (n : BitVec 3) : (s.setCvmn n).pswUndef = s.pswUndef := rfl
theorem State.setCvmn_pprs (n : BitVec 3) : (s.setCvmn n).pprs = s.pprs := rfl
theorem State.raw_ga_setCvmn (m : BitVec 3) (r : Resource) (n : Fin 4) : (s.setCvmn m).raw r (.ga n) = s.raw r (.ga n) := rfl
theorem State.getRep_setCvmn (n : BitVec 3) (r : Resource) (x : RepReg) : (s.setCvmn n).getRep r x = s.getRep r x := rfl

/-- The switch changes the running machine, CORE_ID, which names it, and which resource the global address registers
are read from. -/
theorem Kept.setCvmn (n : BitVec 3) : Kept s (s.setCvmn n) [] [0, 1, 8, 9] [.sys .vcon1, .coreId, .icr] := by
  refine ⟨fun _ _ => rfl, fun r hr => ?_, fun r c hc _ => ?_,
    fun r c hc => State.stale_hw .hv (.sys .vcon1) _ fun h => hc (by simp [h, State.canon]), fun _ => rfl, rfl, rfl⟩
  · obtain ⟨i, hi⟩ := exists_ctx_of_not_global r hr
    simp only [State.getA, hi]
    rfl
  · cases c with
    | sys x => exact State.getSys_setCvmn (fun h => hc (by simp [h])) n
    | icr | coreId => simp at hc
    | tccon =>
      have hvcon0 : (s.setCvmn n).getSys .vcon0 = s.getSys .vcon0 := State.getSys_setCvmn (by simp) n
      simp only [State.raw, State.tcconWord, State.virtEnabled, hvcon0]
      rfl
    | _ => rfl

/-- What a state says of the upper context depends on its data registers and on those of the context alone. -/
theorem UpperFromCsa.of_context (h : UpperFromCsa s t) (hd : u.d = t.d) (hca : u.ca = t.ca) : UpperFromCsa s u := by
  have ha : ∀ n ∈ upperAddr, u.getA n = t.getA n := fun n hn => State.getA_of_ca hca (.inl hn)
  simp only [upperAddr, List.forall_mem_cons] at ha
  obtain ⟨h10, h11, h12, h13, h14, h15, -⟩ := ha
  simpa only [UpperFromCsa, State.getD_of_d hd, h10, h11, h12, h13, h14, h15] using h

/-- The switch changes no register of the upper context. -/
theorem UpperFromCsa.setCvmn (h : UpperFromCsa s t) (n : BitVec 3) : UpperFromCsa s (t.setCvmn n) := h.of_context rfl rfl

/-- The switch changes no list of contexts. -/
theorem RestoresList.setCvmn (h : RestoresList s t) (n : BitVec 3) : RestoresList s (t.setCvmn n) := h.congr rfl rfl rfl rfl

/-! ## The return in the hypervisor (41 R415) -/

theorem State.getRep_fcx_restoreList {r : Resource} (h : r ≠ s.res) : s.restoreList.getRep r .fcx = s.getRep r .fcx := by
  unfold State.restoreList State.hwCur
  dsimp only
  rw [State.getRep_hwPcxi, State.res_putWord, State.getRep_hwRep_ne (.inl h), State.getRep_putWord]

theorem State.getRep_fcx_leave {r : Resource} (h : r ≠ s.res) : s.leave.getRep r .fcx = s.getRep r .fcx := by
  rw [State.leave_eq, State.getRep_jump, State.getRep_sync, State.getRep_restoreUpper,
    State.getRep_fcx_restoreList (by rwa [State.res_restoreIcr])]
  exact s.getRep_hwIcr ..

theorem State.cvmn_leave : s.leave.cvmn = s.cvmn := by
  have hsys : s.leave.sys = s.restoreIcr.sys := by simp [State.leave_eq]
  exact (State.cvmn_of_sys hsys).trans (s.cvmn_hwIcr _ _)

/-- In the hypervisor a return restores VM0_ICR. -/
theorem State.vm0Icr_leave (hw : s.window = []) (hvirt : s.cfg.hasVirt = true) (h : s.cvmn = 0) :
    s.leave.getSys (.vmIcr 0) =
      setField (setBit (s.getSys (.vmIcr 0)) 15 (pcxiPie s.pcxi)) 0 (pcxiPcpn s.pcxi) := by
  have hcfg := (Kept.leave hw).cfg_eq
  have hicr := State.raw_icr_leave hw
  rwa [State.res_leave, State.res_of_cvmn_zero hvirt h, State.raw_icr_of_cvmn_zero hvirt h,
    State.raw_icr_of_cvmn_zero (by rwa [hcfg]) (State.cvmn_leave.trans h)] at hicr

/-! ## RFH -/

theorem State.nestCheck_go (hw : s.window = []) (h : cdcCounts s.psw = true → cdcZero s.psw = true) :
    s.nestCheck = .go := by
  have hpsw : s.ctl .psw .calls = s.psw := s.ctl_of_window_nil hw .psw .calls
  have hcount : (!(cdcCounts s.psw && !cdcZero s.psw)) = true := by grind
  rw [State.nestCheck, hpsw, hcount]
  rfl

/-- The machine that RFH makes the running one. -/
def State.rfhTarget (s : State) : BitVec 3 := if bit (s.getSys .vcon0) 0 then field (s.getSys .vcon2) 0 3 else 1

/-- The state to which RFH leads. -/
def State.returnedFromHv (s : State) : State := s.leave.setCvmn s.rfhTarget

theorem exec_rfh_noVirt (h : s.cfg.hasVirt = false) : exec .rfh s = .next (s.takeTrap 2 1 s.pc) := by
  change execRfh s = _
  rw [execRfh, Verdict.first_need (by simp), if_neg (by simp [h])]
  rfl

theorem exec_rfh_go (hw : s.window = []) (hvirt : s.cfg.hasVirt = true) (hcvmn : s.cvmn = 0)
    (hvcon0 : s.vcon0Written = true) (hreturn : s.returnCheck s.nestCheck true .upper = .go) :
    exec .rfh s = .next s.returnedFromHv := by
  have htarget : (if s.virtOn then field (s.eff .hv (.sys .vcon2) .virt) 0 3 else 1#3) = s.rfhTarget := by
    rw [State.virtOn, hvirt, State.ctl_of_window_nil s hw, State.eff_of_window_nil s hw, Bool.true_and]
    rfl
  change execRfh s = _
  unfold execRfh
  rw [htarget]
  refine State.conclude_go (Verdict.first_eq_go.mpr fun v hv => ?_) _
  simp only [List.mem_cons, List.not_mem_nil, or_false] at hv
  rcases hv with rfl | rfl | rfl | rfl
  · exact Verdict.need_eq_go.mpr (.inl hvirt)
  · exact Verdict.need_eq_go.mpr (.inl (by simpa using hcvmn))
  · exact Verdict.need_eq_go.mpr (.inl hvcon0)
  · exact hreturn

theorem Kept.returnedFromHv (hw : s.window = []) (hvirt : s.cfg.hasVirt = true) (hcvmn : s.cvmn = 0) :
    Kept s s.returnedFromHv upperData (upperAddr ++ [0, 1, 8, 9])
      [.pc, .psw, .pcxi, .pprs, .rep .fcx, .icr, .sys (.vmIcr 0), .sys .vcon1, .coreId] := by
  have hvm : icrOf s.vm = .vmIcr 0 := by rw [State.vm_of_cvmn_zero hvirt hcvmn]; rfl
  have h := (Kept.leave hw).trans (Kept.setCvmn s.rfhTarget) State.res_leave
  rw [hvm] at h
  exact h.mono (by simp) (by simp) (by simp)

/-- Settles O47: where its checks pass, RFH leads to `State.returnedFromHv`: what RFE leads to, and the switch. -/
theorem returnFromHypervisor : Obligations.return_from_hypervisor := by
  unfold Obligations.return_from_hypervisor
  intro s
  refine ⟨exec_rfh_noVirt, ?_⟩
  intro hw hvirt hcvmn hvcon0 hp hul hnest hcheck icr
  have hlink := State.link_of_window_nil hw
  have hreturn : s.returnCheck s.nestCheck true .upper = .go :=
    State.returnCheck_go (hlink ▸ hp) (State.nestCheck_go hw hnest) (hlink ▸ hul) hcheck
  have hicr : icr s.returnedFromHv = _ :=
    (State.getSys_setCvmn (by simp) s.rfhTarget).trans (State.vm0Icr_leave hw hvirt hcvmn)
  have hres := State.res_of_cvmn_zero hvirt hcvmn
  refine ⟨s.returnedFromHv, exec_rfh_go hw hvirt hcvmn hvcon0 hreturn, State.setCvmn_pc _, s.leave.cvmn_setCvmn _,
    (UpperFromCsa.leave hw).setCvmn _, (RestoresList.leave hw).setCvmn _, fun r hr => ?_,
    (State.setCvmn_psw _).trans (State.leave_psw hw), (State.setCvmn_pswUndef _).trans State.leave_pswUndef, ?_,
    ?_, ?_, ?_, fun r n => ?_, Kept.returnedFromHv hw hvirt hcvmn⟩
  · exact (State.getRep_setCvmn _ r _).trans (State.getRep_fcx_leave (hres.symm ▸ hr))
  · rw [State.returnedFromHv, State.setCvmn_pprs, State.leave_pprs hw]
  · rw [hicr, icrIe, bit_setField_ne _ (by omega) _ (by omega), bit_setBit _ (by omega), if_pos rfl]
  · rw [hicr, icrCcpn, field_setField_same _ (by omega)]
  · rw [hicr, icrPipn, field_setField_ne _ (by omega) _ (.inl (by omega)),
      field_setBit_ne _ (by omega) _ (.inl (by omega))]
    rfl
  · exact (State.raw_ga_setCvmn _ r n).trans ((Kept.leave hw).raw_ga (by simp) State.res_leave r n)

end Sys2Proof.Machine
end

section
/-! PROOFS. The moves, the logic and the compare instructions (47_supplementary_instructions R981, R982, R985, R987,
R990, R991, R998). -/

namespace Sys2Proof.Machine

variable {s : State} {i : Instr}

/-- A comparison gives 1 where it holds and 0 where it does not (43_integer_and_branch R502). -/
theorem boolWord_decide (p : Prop) [Decidable p] : boolWord (decide p) = if p then 1 else 0 := by simp [boolWord]

/-- An instruction with a data register as its result and no flag writes the value of its form. -/
theorem exec_of_dataForm {c : Reg} {v : Word} {len : Nat} (h : dataForm s i = some (c, v, len)) :
    exec i s = s.writeD len c v := by
  cases i with
  | movConst | mov | movD | mov16C | mov16R | and | andC | or | orC | xor | xorC =>
    cases h
    rfl
  | movh _ k =>
    cases h
    exact congrArg (s.writeD 4 c) (append_zeros_eq_shiftLeft k)
  | eq | lt | ltC =>
    cases h
    exact congrArg (s.writeD 4 c) (boolWord_decide _)
  | eqC _ a k =>
    cases h
    rw [← boolWord_decide, ← beq_sext (by omega)]
    rfl
  | _ => cases h

/-- Settles O11: the instruction is one write of a data register, whose result and frame `State.writeD_spec` gives. -/
theorem movesAndLogic : Obligations.moves_and_logic := by
  intro s i c v len hform
  rw [exec_of_dataForm hform]
  exact s.writeD_spec len c v

end Sys2Proof.Machine
end
section
/-! PROOFS. The entries of traps and interrupts in the running resource (60_exceptions R805, R806, R840, R841): what they
have in common, the vectors, and the registers that inform about a trap. -/

namespace Sys2Proof.Machine

variable {s t u : State} {e : Entry}

/-! ## The entry (60_exceptions R805, R840) -/

/-- An entry in the running resource that finds a CSA is the body of an entry. -/
theorem State.enter_go (he : e.hyper = false) (hcheck : s.saveCheck = .go) : s.enter e = s.enterBody e := by
  unfold State.enter
  rw [if_neg (by simp [he])]
  simp only [hcheck]

/-- All that such an entry does. -/
theorem State.enter_spec (hw : s.window = []) (he : e.hyper = false) (hcheck : s.saveCheck = .go) :
    Enters s (s.enter e) e := by
  rw [State.enter_go he hcheck]
  exact State.enterBody_spec hw e

/-- With no update open, an entry stores the PSW that is read, with PPRS in the place of PRS (41 R396). -/
theorem State.csaPsw_pswImage (hw : s.window = []) : s.csaPsw s.pswImage = pswSetPrs s.pswRead (field s.pprs 0 3) := by
  rw [State.csaPsw, State.pswImage_of_window_nil hw, State.ctl_of_window_nil s hw]
  rfl

/-- An entry keeps ICR.PIPN. -/
theorem Entry.icrPipn_icr (e : Entry) (i : Word) : icrPipn (e.icr i) = icrPipn i := by
  have hoff : icrPipn (setBit i 15 false) = icrPipn i := field_setBit_ne i (by omega) false (.inl (by omega))
  unfold Entry.icr
  cases e.ccpn with
  | none => exact hoff
  | some p => exact (field_setField_ne _ (by omega) p (.inl (by omega))).trans hoff

/-- `t` is the entry of a handler of the running resource from `s` with return address `ra`: what a trap and an
interrupt have in common. `d15` is what D[15] takes, `safe` PSW.S, `ccpn` ICR.CCPN. -/
structure HandlerEntry (s t : State) (ra d15 : Word) (safe : Bool) (ccpn : Byte) : Prop where
  ra : t.getA 11 = ra
  d15 : t.getD 15 = d15
  sp : t.getA 10 = if pswIs s.psw then s.getA 10 else s.getRep s.res .isp
  psw : HandlerPsw s.psw t.psw safe
  off : icrIe (t.raw s.res .icr) = false
  ccpn : icrCcpn (t.raw s.res .icr) = ccpn
  pipn : icrPipn (t.raw s.res .icr) = icrPipn (s.raw s.res .icr)
  pprs : field t.pprs 0 3 = s.prsOf s.psw
  saves : SavesContext s t true (s.upperBlock (pswSetPrs s.pswRead (field s.pprs 0 3)))
  data : ∀ r ∈ lowerData, t.getD r = s.getD r
  addr : ∀ r, r ∉ upperAddr → t.getA r = s.getA r

theorem HandlerEntry.of_enters (hw : s.window = []) (he : e.hyper = false) (h : Enters s t e) :
    HandlerEntry s t e.ra e.d15 (bit (s.getRep s.res .corecon) (if e.isrS then 3 else 4))
      (e.ccpn.getD (icrCcpn (s.raw s.res .icr))) := by
  have hctl := State.ctl_of_window_nil s hw
  have hicr : t.raw s.res .icr = e.icr (s.raw s.res .icr) := h.icr
  refine ⟨h.ra, h.d15, ?_, ?_, ?_, ?_, ?_, h.pprs, ?_, fun r hr => ?_, h.kept.addr⟩
  · rw [h.sp, he, Bool.not_false, Bool.and_true, hctl, hctl]
    rfl
  · rw [h.psw, he, hctl]
    exact handlerPsw s.psw _
  · rw [hicr, Entry.icrIe_icr]
  · rw [hicr, Entry.icrCcpn_icr]
  · rw [hicr, Entry.icrPipn_icr]
  · rw [← State.csaPsw_pswImage hw]
    exact h.saves
  · exact h.kept.data r (by revert r; decide)

/-- The registers that inform about a trap are no part of the entry. -/
theorem HandlerEntry.inform {ra d15 : Word} {safe : Bool} {ccpn : Byte} (h : HandlerEntry s t ra d15 safe ccpn)
    (cls : BitVec 3) (tin : Byte) : HandlerEntry s (t.inform cls tin) ra d15 safe ccpn := by
  obtain ⟨-, hpsw, hpcxi, hpprs, hmem, -, hsys, hcfg, hdraws, hfcd⟩ := t.inform_fields cls tin
  have hk := Kept.inform (s := t) cls tin
  have hd := fun r => hk.data r (by simp)
  have ha := fun r => hk.addr r (by simp)
  have hicr := State.raw_icr_of_sys hcfg hsys hdraws s.res
  have hsaves := h.saves.congr hcfg hmem hpcxi (fun r => hk.csfr r (.rep .fcx) (by simp) (by simp)) hfcd
  exact ⟨(ha 11).trans h.ra, (hd 15).trans h.d15, (ha 10).trans h.sp, hpsw ▸ h.psw, hicr ▸ h.off, hicr ▸ h.ccpn,
    hicr ▸ h.pipn, hpprs ▸ h.pprs, hsaves, fun r hr => (hd r).trans (h.data r hr),
    fun r hr => (ha r).trans (h.addr r hr)⟩

/-! ## Interrupts (60 R805, R806) -/

/-- Settles O50: the entry is `HandlerEntry`, its vector BIV's, and the router is told. -/
theorem interruptEntry : Obligations.interrupt_entry := by
  unfold Obligations.interrupt_entry
  intro s pipn hw hcheck t biv
  let e : Entry := ⟨false, s.pc, 0, some pipn, true, .biv pipn⟩
  have henters : Enters s t e := State.enter_spec hw rfl hcheck
  have hentry := HandlerEntry.of_enters hw rfl henters
  have hpc : t.pc = even biv ||| (zext pipn <<< (if bit biv 0 then 3 else 5)) := by
    rw [henters.pc, State.vectorPc, State.ctl_of_window_nil s hw]
    rfl
  exact ⟨hpc, hentry.ra, hentry.d15, hentry.sp, hentry.psw, hentry.off, hentry.ccpn, hentry.pipn, hentry.pprs,
    henters.out, hentry.saves, hentry.data, hentry.addr, henters.kept⟩

/-! ## Traps (60 R840, R841, R845 to R849) -/

/-- The registers that inform about a trap. -/
def trapInfo (cls : BitVec 3) : List Csfr :=
  if cls = 4 then [.rep .pstr, .rep .dstr, .rep .datr, .rep .deadd, .rep .pietr, .rep .dietr] else []

/-- Only a trap of class 4 informs. -/
theorem Kept.inform_trapInfo (cls : BitVec 3) (tin : Byte) : Kept s (s.inform cls tin) [] [] (trapInfo cls) := by
  by_cases h : cls = 4
  · rw [trapInfo, if_pos h]
    exact Kept.inform cls tin
  · rw [trapInfo, if_neg h, State.inform_ne s h]
    exact Kept.refl s

/-- A trap's entry keeps all but a handler's registers and those that inform about it. -/
theorem Kept.enter_inform (h : Enters s t e) (hccpn : e.ccpn = none) (cls : BitVec 3) (tin : Byte) :
    Kept s ((t.inform cls tin).withFcd s) upperData upperAddr
      ([.pc, .psw, .pcxi, .pprs, .rep .fcx, .icr, .sys (icrOf s.vm)] ++ trapInfo cls) := by
  have hout : t.out = s.out := by rw [h.out, hccpn]
  have hkept := h.kept
  rw [← hout] at hkept
  replace hkept : Kept s (t.withFcd s) upperData upperAddr _ := hkept
  exact (hkept.transFcd (Kept.inform_trapInfo cls tin) h.res).mono (by simp) (by simp) (by simp)

/-- The address of an integrity error is left in one register of the handler's resource, and nothing else changes. -/
theorem State.informAt_spec (u : State) (x : RepReg) (a : Word) :
    (u.informAt x a).getRep (u.informAt x a).res x = a ∧ (u.informAt x a).res = u.res ∧
      (∀ r, r ≠ u.res → (u.informAt x a).getRep r x = u.getRep r x) ∧ KeepsMemory u (u.informAt x a) ∧
      Kept u (u.informAt x a) [] [] [.rep x] := by
  obtain ⟨hres, hsame, hother⟩ := u.informAt_getRep x a
  exact ⟨hres.symm ▸ hsame, hres, hother, KeepsMemory.of_mem (by simp [State.informAt, State.hwCur])
    (by simp [State.informAt, State.hwCur]), Kept.informAt x a⟩

theorem State.takeTrapInHv_of_not_guest (h : s.guest = false) (cls : BitVec 3) (tin : Byte) (ra : Word) :
    s.takeTrapInHv cls tin ra = s.takeTrap cls tin ra := if_neg (by simp [h])

/-- Settles O48: the entry is `HandlerEntry` and its vector BTV's; what informs about the trap comes after it. -/
theorem trapEntry : Obligations.trap_entry := by
  unfold Obligations.trap_entry
  refine ⟨fun s a => ⟨State.informAt_spec _ .piear a, State.informAt_spec _ .diear a,
    fun h => State.takeTrapInHv_of_not_guest h 4 6 s.pc⟩, ?_⟩
  intro s cls tin ra hw hcheck t
  let e : Entry := ⟨false, ra, zext tin, none, false, .btv cls⟩
  have henters : Enters s (s.enter e) e := State.enter_spec hw rfl hcheck
  have hentry : HandlerEntry s t ra (zext tin) _ (icrCcpn (s.raw s.res .icr)) :=
    (HandlerEntry.of_enters hw rfl henters).inform cls tin
  have hpc : t.pc = even (s.getRep s.res .btv) ||| (zext cls <<< 5) := by
    obtain ⟨hpc, -⟩ := (s.enter e).inform_fields cls tin
    rw [show t.pc = _ from hpc, henters.pc, State.vectorPc, State.ctl_of_window_nil s hw]
    rfl
  exact ⟨hpc, hentry.ra, hentry.d15, hentry.sp, hentry.psw, hentry.off, hentry.ccpn, hentry.pprs, hentry.saves,
    hentry.data, hentry.addr, Kept.enter_inform henters rfl cls tin⟩

end Sys2Proof.Machine
end
section
/-! PROOFS. The requests at a boundary: the asynchronous traps in their order (60_exceptions R850, R853,
46_virtualization R737, R738), FCD before them (60 R832), and the interrupt that is taken (60 R801, 46 R713, R715,
R730). -/

namespace Sys2Proof.Machine

variable {s t u : State} {n : BitVec 3}

/-! ## Asynchronous traps (60_exceptions R850, R853, R913) -/

/-- The trap of class `cls` with TIN `tin` is taken from `u` at the boundary of `s`: by the hypervisor where `hv` holds
and a guest runs, else in the running resource. -/
def State.TakesAsync (s u : State) (hv : Prop) (cls : BitVec 3) (tin : Byte) : Prop :=
  (s.guest = true → hv → s.asyncTrap = some (u.takeTrapInHv cls tin s.pc)) ∧
    (¬ (s.guest = true ∧ hv) → s.asyncTrap = some (u.takeTrap cls tin s.pc))

theorem State.TakesAsync.own {cls : BitVec 3} {tin : Byte} (h : s.asyncTrap = some (u.takeTrap cls tin s.pc)) :
    s.TakesAsync u False cls tin := ⟨nofun, fun _ => h⟩

/-- A trap of the hypervisor is the running machine's where no guest runs. -/
theorem State.TakesAsync.inHv {hv : Prop} {cls : BitVec 3} {tin : Byte} (hguest : u.guest = s.guest) (hhv : hv)
    (h : s.asyncTrap = some (u.takeTrapInHv cls tin s.pc)) : s.TakesAsync u hv cls tin := by
  refine ⟨fun _ _ => h, fun hno => ?_⟩
  have hoff : u.guest = false := by simpa [hguest, hhv] using hno
  rw [h, State.takeTrapInHv_of_not_guest hoff]

theorem State.asyncTrap_nmi (h : s.pendNmi = true) : s.asyncTrap = some s.takeNmi := if_pos h

/-- VCON0.NMI decides who takes NMI. -/
theorem State.takesAsync_nmi (h : s.pendNmi = true) :
    s.TakesAsync { s with pendNmi := false } (bit (s.eff .hv (.sys .vcon0) .irq) 1 = true) 7 0 := by
  have hasync := State.asyncTrap_nmi h
  rw [State.takeNmi] at hasync
  by_cases hnmi : bit (s.eff .hv (.sys .vcon0) .irq) 1 = true
  · rw [if_pos hnmi] at hasync
    exact .inHv rfl hnmi hasync
  · rw [if_neg hnmi] at hasync
    exact ⟨fun _ hv => absurd hv hnmi, fun _ => hasync⟩

theorem State.asyncTrap_dae (hnmi : s.pendNmi = false) (h : s.pendDae = true) :
    s.asyncTrap = some ({ s with pendDae := false }.takeTrapInHv 4 3 s.pc) := by
  simp [State.asyncTrap, hnmi, h]

theorem State.asyncTrap_cae (hnmi : s.pendNmi = false) (hdae : s.pendDae = false) (h : s.pendCae = true) :
    s.asyncTrap = some ({ s with pendCae := false }.takeTrap 4 4 s.pc) := by
  simp [State.asyncTrap, hnmi, hdae, h]

theorem State.asyncTrap_tae (hnmi : s.pendNmi = false) (hdae : s.pendDae = false) (hcae : s.pendCae = false)
    (h : bit (s.getRep s.res .tpsCon) 17 = true) : s.asyncTrap = some s.takeTae := by
  simp [State.asyncTrap, hnmi, hdae, hcae, h]

/-- Where no other asynchronous trap is due, DIE's is. -/
theorem State.asyncTrap_die (hnmi : s.pendNmi = false) (hdae : s.pendDae = false) (hcae : s.pendCae = false)
    (htae : bit (s.getRep s.res .tpsCon) 17 = false) :
    s.asyncTrap = s.pendDie.map { s with pendDie := none }.takeDie := by
  simp [State.asyncTrap, hnmi, hdae, hcae, htae]

/-- A hardware update of a replicated register of the running resource: what it writes, and that it writes nothing
else. -/
theorem State.hwCurRep_spec (s : State) (x : RepReg) (f : Word → Word) :
    (s.hwCur (.rep x) f).getRep s.res x = f (s.getRep s.res x) ∧
      (∀ r, r ≠ s.res → (s.hwCur (.rep x) f).getRep r x = s.getRep r x) ∧ Kept s (s.hwCur (.rep x) f) [] [] [.rep x] ∧
      KeepsMemory s (s.hwCur (.rep x) f) :=
  ⟨State.getRep_hwRep_same .., fun _ hr => State.getRep_hwRep_ne (.inl hr) f, Kept.hwCurRep x f,
    KeepsMemory.of_mem (by simp [State.hwCur]) (by simp [State.hwCur])⟩

/-! ## The boundary (60 R832, R854) -/

/-- Without a break-in the asynchronous traps go first, and the interrupts after them. -/
theorem State.request_of_no_breakIn (h : s.breakIn = false) :
    s.request = match s.asyncTrap with
      | some t => some t
      | none => s.interrupt := by
  rw [State.request, State.externalEvent, if_neg (by simp [h])] <;> rfl

/-- A boundary at which a request waits. -/
theorem step_of_request (hsched : s.schedule = []) (hhalted : s.halted = false) (hfcd : s.fcdPending = false)
    (h : s.request = some t) : step s = .next (t.nextDraw s.draws) :=
  step_of_coreStep hsched (State.coreStep_request hhalted hfcd h)

/-- FCD goes before every request. -/
theorem step_of_fcdPending (hsched : s.schedule = []) (hhalted : s.halted = false) (h : s.fcdPending = true) :
    step s = .next (s.takeFcd.nextDraw s.draws) := by
  refine step_of_coreStep hsched ?_
  rw [State.coreStep, if_neg (by simp [hhalted]), if_pos h]

/-- Settles O52: each request is taken where those before it are absent. -/
theorem asynchronousTrapsInOrder : Obligations.asynchronous_traps_in_order := by
  unfold Obligations.asynchronous_traps_in_order
  intro s tpsCon tae nmiInHv takes
  refine ⟨State.takesAsync_nmi, fun hnmi hdae => State.TakesAsync.inHv rfl trivial (State.asyncTrap_dae hnmi hdae),
    fun hnmi hdae hcae => State.TakesAsync.own (State.asyncTrap_cae hnmi hdae hcae), fun hnmi hdae hcae htae => ?_,
    fun hnmi hdae hcae htae a ha => ?_, fun hnmi hdae hcae htae hdie => ?_, fun hsched hhalted => ⟨?_, fun hfcd => ?_⟩⟩
  · obtain ⟨hsame, hother, hkept, hmem⟩ :=
      s.hwCurRep_spec .tpsCon fun w => setBit (setBit w 16 true) 17 false
    exact ⟨_, hsame, hother, hkept, hmem, State.TakesAsync.own (State.asyncTrap_tae hnmi hdae hcae htae)⟩
  · rw [State.asyncTrap_die hnmi hdae hcae htae, ha]
    rfl
  · rw [State.asyncTrap_die hnmi hdae hcae htae, hdie]
    rfl
  · intro hfcd hbreak t ht
    exact step_of_request hsched hhalted hfcd (by rw [State.request_of_no_breakIn hbreak, ht])
  · obtain ⟨hsame, hother, hkept, hmem⟩ :=
      State.hwCurRep_spec { s with fcdPending := false } .corecon fun w => setBit w 0 true
    have hcleared : ({ s with fcdPending := false }.hwCur (.rep .corecon) fun w => setBit w 0 true).fcdPending = false := by
      simp [State.hwCur]
    refine ⟨_, hsame, hother, hcleared, ?_, hmem, step_of_fcdPending hsched hhalted hfcd⟩
    rw [State.withFcd, hcleared]
    exact hkept

/-! ## The interrupt that is taken (60 R801, 46 R713, R715, R730) -/

theorem State.mem_candidates_iff : n ∈ s.candidates ↔ s.takeable n = true := by
  have hmachine : ∀ n : BitVec 3, n ∈ (List.range 8).map (BitVec.ofNat 3) := by decide
  simp [State.candidates, List.mem_filter, hmachine]

/-- One of several machines is one of them. -/
theorem State.mem_of_oneOf : ∀ {ns : List (BitVec 3)}, s.oneOf ns = some n → n ∈ ns
  | [], h => nomatch h
  | [m], h => by simpa [State.oneOf, eq_comm] using h
  | m :: k :: rest, h => by
    have hlt : (s.freeW 60).toNat % ((k :: rest).length + 1) < (m :: k :: rest).length := Nat.mod_lt _ (by simp)
    rw [State.oneOf, List.getD_eq_getElem _ _ hlt] at h
    · exact Option.some.inj h ▸ List.getElem_mem hlt
    · simp

theorem State.oneOf_eq_none_iff {ns : List (BitVec 3)} : s.oneOf ns = none ↔ ns = [] := by
  rcases ns with _ | ⟨m, _ | ⟨k, rest⟩⟩ <;> simp [State.oneOf]

/-- Among several machines one is taken. -/
theorem State.oneOf_of_mem {ns : List (BitVec 3)} (h : n ∈ ns) : ∃ m ∈ ns, s.oneOf ns = some m := by
  have hsome : s.oneOf ns ≠ none := fun hnone => by simp [State.oneOf_eq_none_iff.mp hnone] at h
  obtain ⟨m, hm⟩ := Option.ne_none_iff_exists'.mp hsome
  exact ⟨m, State.mem_of_oneOf hm, hm⟩

/-- An interrupt for a guest that does not run: HVINT. -/
def State.HvIntDue (s : State) (n : BitVec 3) : Prop := n ≠ 0 ∧ n ≠ s.vm ∧ s.takeable n = true

theorem State.mem_hvInts_iff : n ∈ s.candidates.filter (fun n => n != s.vm && n != 0) ↔ s.HvIntDue n := by
  rw [List.mem_filter, State.mem_candidates_iff]
  simp only [State.HvIntDue, Bool.and_eq_true, bne_iff_ne]
  tauto

/-- No interrupt is taken exactly where no machine's may be. -/
theorem State.interrupt_eq_none_iff : s.interrupt = none ↔ ∀ n, s.takeable n = false := by
  simp only [State.interrupt, Option.map_eq_none_iff, Option.or_eq_none_iff, State.oneOf_eq_none_iff,
    List.eq_nil_iff_forall_not_mem, State.mem_hvInts_iff, State.mem_candidates_iff, State.HvIntDue, not_and,
    Bool.not_eq_true]
  exact ⟨fun h => h.2, fun h => ⟨fun n _ _ => h n, h⟩⟩

/-- HVINT goes first (46 R730). -/
theorem State.interrupt_hvInt (h : s.HvIntDue n) : ∃ m, s.HvIntDue m ∧ s.interrupt = some (s.takeHvInt m) := by
  obtain ⟨m, hm, hone⟩ := s.oneOf_of_mem (State.mem_hvInts_iff.mpr h)
  obtain ⟨hzero, hown, htake⟩ := State.mem_hvInts_iff.mp hm
  refine ⟨m, ⟨hzero, hown, htake⟩, ?_⟩
  rw [State.interrupt, hone, Option.some_or, Option.map_some, State.takeIrqOf, if_neg hown, if_neg hzero]

/-- Without one for HVINT an interrupt of the running machine or of the hypervisor is taken. -/
theorem State.interrupt_other (hno : ∀ m, ¬ s.HvIntDue m) (h : s.takeable n = true) :
    ∃ m, (m = s.vm ∨ m = 0) ∧ s.takeable m = true ∧ s.interrupt = some (s.takeIrqOf m) := by
  obtain ⟨m, hm, hone⟩ := s.oneOf_of_mem (State.mem_candidates_iff.mpr h)
  have htake := State.mem_candidates_iff.mp hm
  have hnone : s.oneOf (s.candidates.filter fun n => n != s.vm && n != 0) = none :=
    State.oneOf_eq_none_iff.mpr (List.eq_nil_iff_forall_not_mem.mpr fun k hk => hno k (State.mem_hvInts_iff.mp hk))
  refine ⟨m, ?_, htake, ?_⟩
  · by_contra hneither
    rw [not_or] at hneither
    exact hno m ⟨hneither.2, hneither.1, htake⟩
  · rw [State.interrupt, hnone, Option.none_or, hone, Option.map_some]

/-- With no update open: take(n) of R713, in the registers. -/
theorem State.takeable_iff (hw : s.window = []) : s.takeable n = true ↔ icrIe (s.getSys (.vmIcr n.toFin)) = true ∧
    (icrCcpn (s.getSys (.vmIcr n.toFin))).toNat < (icrPipn (s.getSys (.vmIcr n.toFin))).toNat ∧
      (n = s.vm ∨ (s.guest = true ∧
        (field (s.getSys (.vmPeThresh n.toFin)) 0 8).toNat < (icrPipn (s.getSys (.vmIcr n.toFin))).toNat)) := by
  simp only [State.takeable, State.eff_of_window_nil s hw, State.raw, icrOf, Bool.and_eq_true, Bool.or_eq_true,
    decide_eq_true_eq, beq_iff_eq, and_assoc]

theorem State.takeIrqOf_vm (hw : s.window = []) :
    s.takeIrqOf s.vm = s.takeInterrupt (icrPipn (s.getSys (.vmIcr s.vm.toFin))) := by
  rw [State.takeIrqOf, if_pos rfl, State.eff_of_window_nil s hw]
  rfl

theorem State.takeIrqOf_zero (hw : s.window = []) (h : s.vm ≠ 0) :
    s.takeIrqOf 0 = s.takeHvInterrupt (icrPipn (s.getSys (.vmIcr 0))) := by
  rw [State.takeIrqOf, if_neg h.symm, if_pos rfl, State.eff_of_window_nil s hw]
  rfl

/-- The running machine's ICR. -/
theorem State.raw_icr_res : s.raw s.res .icr = s.getSys (.vmIcr s.vm.toFin) := by
  rw [State.raw, State.icrVm_res]
  rfl

/-- While no guest runs the running machine's interrupt alone is considered. -/
theorem State.takeable_of_not_guest (hw : s.window = []) (hguest : s.guest = false) :
    s.takeable n = true ↔ n = s.vm ∧ icrIe (s.raw s.res .icr) = true ∧
      (icrCcpn (s.raw s.res .icr)).toNat < (icrPipn (s.raw s.res .icr)).toNat := by
  rw [State.takeable_iff hw, State.raw_icr_res, hguest]
  constructor
  · rintro ⟨hie, hlt, rfl | ⟨h, -⟩⟩
    · exact ⟨rfl, hie, hlt⟩
    · cases h
  · rintro ⟨rfl, hie, hlt⟩
    exact ⟨hie, hlt, .inl rfl⟩

/-- While no guest runs an interrupt that is taken is the running machine's. -/
theorem State.interrupt_of_not_guest (hw : s.window = []) (hguest : s.guest = false) (h : s.takeable n = true) :
    s.interrupt = some (s.takeInterrupt (icrPipn (s.raw s.res .icr))) := by
  have hown : ∀ m, s.takeable m = true → m = s.vm := fun m hm => ((State.takeable_of_not_guest hw hguest).mp hm).1
  obtain ⟨m, -, hm, hint⟩ := State.interrupt_other (fun k hk => hk.2.1 (hown k hk.2.2)) h
  rw [hint, hown m hm, State.takeIrqOf_vm hw, State.raw_icr_res]

/-- The running machine while a guest runs. -/
theorem State.vm_of_guest (h : s.guest = true) : s.vm = s.cvmn ∧ s.cvmn ≠ 0 := by
  have hcvmn := (Bool.and_eq_true_iff.mp h).2
  exact ⟨if_pos (State.hasVirt_of_guest h), by simpa using hcvmn⟩

/-- Settles O49: the request at such a boundary is the interrupt's. -/
theorem interruptIsTaken : Obligations.interrupt_is_taken := by
  unfold Obligations.interrupt_is_taken
  intro s hw hsched hhalted hfcd hbreak hasync
  have hrequest : s.request = s.interrupt := by rw [State.request_of_no_breakIn hbreak, hasync]
  have hstep : ∀ t, s.interrupt = some t → step s = .next (t.nextDraw s.draws) := fun t ht =>
    step_of_request hsched hhalted hfcd (hrequest.trans ht)
  refine ⟨?_, ?_⟩
  · intro hguest icr
    have htake : s.request.isSome = true ↔ ∃ n, s.takeable n = true := by
      rw [hrequest, Option.isSome_iff_ne_none, ne_eq, State.interrupt_eq_none_iff]
      simp
    refine ⟨?_, fun hsome => ?_⟩
    · simp only [htake, State.takeable_of_not_guest hw hguest, exists_eq_left]
      exact Iff.rfl
    · obtain ⟨n, hn⟩ := htake.mp hsome
      exact hstep _ (State.interrupt_of_not_guest hw hguest hn)
  · intro hguest icr take
    obtain ⟨hvm, hne⟩ := State.vm_of_guest hguest
    have htake : ∀ n, s.takeable n = true ↔ take n := fun n => by
      rw [State.takeable_iff hw, hvm, hguest]
      simp only [true_and]
      exact Iff.rfl
    have hdue : ∀ n, s.HvIntDue n ↔ n ≠ 0 ∧ n ≠ s.cvmn ∧ take n := fun n => by
      rw [State.HvIntDue, hvm, htake]
    refine ⟨?_, ?_, fun hno hsome => ?_⟩
    · simp only [hrequest, State.interrupt_eq_none_iff, ← htake, Bool.not_eq_true]
    · rintro ⟨n, hn⟩
      obtain ⟨m, hm, hint⟩ := State.interrupt_hvInt ((hdue n).mpr hn)
      obtain ⟨hzero, hown, hmtake⟩ := (hdue m).mp hm
      exact ⟨m, hzero, hown, hmtake, hstep _ hint⟩
    · have hnone : ∀ m, ¬ s.HvIntDue m := fun m hm => by
        obtain ⟨hzero, hown, hmtake⟩ := (hdue m).mp hm
        exact hno m hzero hown hmtake
      obtain ⟨n, hn⟩ : ∃ n, s.takeable n = true := by
        rcases hsome with h | h
        · exact ⟨0, (htake 0).mpr h⟩
        · exact ⟨s.cvmn, (htake s.cvmn).mpr h⟩
      obtain ⟨m, hm, hmtake, hint⟩ := State.interrupt_other hnone hn
      rw [htake] at hmtake
      rcases hm with rfl | rfl
      · rw [State.takeIrqOf_vm hw] at hint
        rw [hvm] at hint hmtake
        exact .inl ⟨hmtake, hstep _ hint⟩
      · rw [State.takeIrqOf_zero hw (hvm ▸ hne)] at hint
        exact .inr ⟨hmtake, hstep _ hint⟩

end Sys2Proof.Machine
end
section
/-! PROOFS. The traps that an instruction takes in the place of its effect: GRWP (60_exceptions R826) and PRIV (60 R903,
46_virtualization R716). -/

namespace Sys2Proof.Machine

variable {s : State} {i : Instr}

/-! ## The first check that fails (60_exceptions R852) -/

/-- Where each check passes or comes to `v`, and one of them comes to `v`, that is what they come to. -/
theorem Verdict.first_of_mem {v : Verdict} (hv : v ≠ .go) : ∀ {vs rest : List Verdict},
    (∀ w ∈ vs, w = .go ∨ w = v) → v ∈ vs → Verdict.first (vs ++ rest) = v
  | w :: vs, rest, hall, hmem => by
    rcases hall w (by simp) with rfl | rfl
    · rw [List.cons_append, Verdict.first_cons_go]
      exact Verdict.first_of_mem hv (fun u hu => hall u (by simp [hu])) ((List.mem_cons.mp hmem).resolve_left hv)
    · exact Verdict.first_append (vs := []) hv (by simp)

/-- Nothing is presented to the bus but a load that it answers with an error. -/
theorem State.issued_of_ne {v : Verdict} (h : v ≠ .trap 4 2) (x : Access) : s.issued x v = s := if_neg h

/-! ## GRWP (60_exceptions R826) -/

theorem State.globalCheck_of_gw (hgw : pswGw (s.ctl .psw .globals) = false) (r : Reg) :
    s.globalCheck r = if isGlobal r then .trap 1 7 else .go := by
  rw [State.globalCheck, hgw, Bool.or_false]
  cases isGlobal r <;> rfl

theorem State.updateCheck_of_gw (hgw : pswGw (s.ctl .psw .globals) = false) (r : Resolved) :
    s.updateCheck r = if r.target.any isGlobal then .trap 1 7 else .go := by
  unfold State.updateCheck Resolved.target
  cases r.update with
  | none => rfl
  | some p => simpa using State.globalCheck_of_gw hgw p.1

/-- A global register as the destination stops the instruction. -/
theorem State.conclude_globalCheck (hgw : pswGw (s.ctl .psw .globals) = false) {r : Reg} (h : isGlobal r = true)
    (effect : State) : s.conclude (s.globalCheck r) effect = .next (s.takeTrap 1 7 s.pc) := by
  rw [State.globalCheck_of_gw hgw, if_pos h]
  rfl

/-- Checks of global registers among which one fails, behind checks of the operands that pass. -/
theorem State.first_grwp (hgw : pswGw (s.ctl .psw .globals) = false) {m : MemOp} (hm : s.modeCheck m = .go)
    {dst : List Reg} {r : Resolved} (h : dst.any isGlobal = true ∨ r.target.any isGlobal = true) (rest : List Verdict) :
    Verdict.first ([.go, s.modeCheck m] ++ dst.map s.globalCheck ++ [s.updateCheck r] ++ rest) = .trap 1 7 := by
  refine Verdict.first_of_mem (by simp) ?_ ?_
  · have hreg : ∀ n, s.globalCheck n = .go ∨ s.globalCheck n = .trap 1 7 := fun n => by
      rw [State.globalCheck_of_gw hgw]
      split <;> simp
    have hupdate : s.updateCheck r = .go ∨ s.updateCheck r = .trap 1 7 := by
      rw [State.updateCheck_of_gw hgw]
      split <;> simp
    simp only [List.mem_append, List.mem_cons, List.not_mem_nil, or_false, List.mem_map]
    rintro v (((rfl | rfl) | ⟨n, -, rfl⟩) | rfl)
    exacts [.inl rfl, .inl hm, hreg n, hupdate]
  · rcases h with h | h
    · obtain ⟨n, hn, hglobal⟩ := List.any_eq_true.mp h
      have hfail : s.globalCheck n = .trap 1 7 := by rw [State.globalCheck_of_gw hgw, if_pos hglobal]
      have hmem : s.globalCheck n ∈ dst.map s.globalCheck := List.mem_map_of_mem hn
      rw [← hfail]
      simp [hmem]
    · have hfail : s.updateCheck r = .trap 1 7 := by rw [State.updateCheck_of_gw hgw, if_pos h]
      rw [← hfail]
      simp

theorem LoadCourse.grwp {f : MemForm} (h : LoadCourse s i f) (hwf : i.wellFormed = true)
    (hgw : pswGw (s.ctl .psw .globals) = false)
    (hglobal : f.place.addrRegs.any isGlobal = true ∨ (s.resolve f.mem).target.any isGlobal = true) :
    exec i s = .next (s.takeTrap 1 7 s.pc) := by
  obtain ⟨pre, put, he, hchecks⟩ := h
  obtain ⟨rfl, hm⟩ := hchecks hwf
  have hfirst := State.first_grwp hgw hm hglobal
    [s.check ((s.resolve f.mem).access f.size f.align f.size true false)]
  rw [List.append_assoc _ [_] [_]] at hfirst
  rw [he, State.execLoad, show [s.updateCheck (s.resolve f.mem),
    s.check ((s.resolve f.mem).access f.size f.align f.size true false)] = [_] ++ [_] from rfl, hfirst, State.issued_of_ne (by simp)]
  rfl

theorem StoreCourse.grwp {f : MemForm} (h : StoreCourse s i f) (hwf : i.wellFormed = true)
    (hgw : pswGw (s.ctl .psw .globals) = false) (hglobal : (s.resolve f.mem).target.any isGlobal = true) :
    exec i s = .next (s.takeTrap 1 7 s.pc) := by
  obtain ⟨pre, he, hchecks⟩ := h
  obtain ⟨rfl, hm⟩ := hchecks hwf
  have hfirst := State.first_grwp (dst := []) hgw hm (.inr hglobal)
    [s.check ((s.resolve f.mem).access f.size f.align f.size false true)]
  rw [he, State.execStore]
  exact congrArg (s.conclude · _) hfirst

theorem RmwCourse.grwp {f : RmwForm} (h : RmwCourse s i f) (hwf : i.wellFormed = true)
    (hgw : pswGw (s.ctl .psw .globals) = false) (hglobal : (s.resolve f.mem).target.any isGlobal = true) :
    exec i s = .next (s.takeTrap 1 7 s.pc) := by
  obtain ⟨pre, new, ret, he, -, -, hchecks⟩ := h
  obtain ⟨rfl, hm⟩ := hchecks hwf
  have hfirst : Verdict.first [.go, s.modeCheck f.mem, s.updateCheck (s.resolve f.mem), s.check _] = _ :=
    State.first_grwp (dst := []) hgw hm (.inr hglobal) [s.check ((s.resolve f.mem).access 4 4 4 true true)]
  unfold State.execRmw at he
  dsimp only at he
  rw [he, hfirst, State.issued_of_ne (by simp)]
  rfl

/-- Settles O15: each of these instructions comes to the check of its global registers, behind checks that pass. -/
theorem globalRegistersAreProtected : Obligations.global_registers_are_protected := by
  unfold Obligations.global_registers_are_protected
  intro s i hwf hgw
  refine ⟨fun c v hform hglobal => ?_, fun b disp hi hglobal => ?_, fun f hform hglobal => ?_,
    fun f hform hglobal => (rmwCourse hform s).grwp hwf hgw hglobal, fun m index hform hindex hglobal => ?_⟩
  · rw [exec_of_addressForm hform, State.execA, State.conclude_globalCheck hgw hglobal]
  · subst hi
    exact State.conclude_globalCheck hgw hglobal _
  · rcases hform with hload | hstore
    · exact (loadCourse hload s).grwp hwf hgw (hglobal.imp_left And.right)
    · rcases hglobal with ⟨hload, hdst⟩ | hmode
      · exact (loadCourse hload s).grwp hwf hgw (.inl hdst)
      · exact (storeCourse hstore s).grwp hwf hgw hmode
  · obtain ⟨priv, he, hpriv⟩ := exec_of_cacheForm hform s
    rw [he, hpriv hindex, State.execCache, State.updateCheck_of_gw hgw, if_pos hglobal]
    rfl

/-! ## PRIV (60_exceptions R903, 46_virtualization R716) -/

/-- A check that comes to PRIV behind checks that pass. -/
theorem State.conclude_priv (rest : List Verdict) (effect : State) :
    s.conclude (Verdict.first (.trap 1 1 :: rest)) effect = .next (s.takeTrap 1 1 s.pc) := rfl

theorem State.supervisorCheck_of_not (h : s.supervisor = false) : s.supervisorCheck = .trap 1 1 := by
  rw [State.supervisorCheck, h]
  rfl

/-- The modes that may not change ICR.IE. -/
theorem State.ieCheck_of_mode
    (h : s.io = 0 ∨ s.io = 3 ∨ (s.io = 1 ∧ bit (s.ctl (.rep .corecon) .priv) 16 = true)) :
    s.ieCheck = .trap 1 1 := by
  have hmay : s.mayChangeIe = false := by
    rcases h with h | h | ⟨h, hu1⟩ <;> simp [State.mayChangeIe, State.supervisor, *]
  rw [State.ieCheck, hmay]
  rfl

/-- A cache instruction by index asks for Supervisor mode first (42_system_instructions R468). -/
theorem exec_of_cacheForm_index {m : MemOp} (h : cacheForm i = some (m, true)) (s : State) :
    exec i s = s.execCache s.supervisorCheck m := by
  cases i with
  | cacheiWOff | cacheiWPost | cacheiWPre | cacheiIOff | cacheiIPost | cacheiIPre | cacheiWiOff | cacheiWiPost
    | cacheiWiPre =>
    cases h
    rfl
  | _ => cases h

/-- A move that writes asks for Supervisor mode first (42 R455). -/
theorem exec_of_moveForm_priv {off : BitVec 16} {pair : Bool} (h : moveForm i = some (off, pair, true))
    (hwf : i.wellFormed = true) (he : s.NoMoveEvent off) (hs : s.supervisor = false) :
    exec i s = .next (s.takeTrap 1 1 s.pc) := by
  obtain ⟨writes, effect, hcourse⟩ := moveCourse h hwf
  rw [hcourse.exec_running he.before_eq, State.moveVerdict, hs]
  exact State.conclude_priv _ _

/-- Settles O35: the check of the mode comes first in each of these instructions. -/
theorem privilegedInstructions : Obligations.privileged_instructions := by
  unfold Obligations.privileged_instructions
  intro s i a k9 k8 k16
  refine ⟨fun hmode hi => ?_, fun hs hevent hi => ?_, fun hvirt hcvmn => ?_⟩
  · have hcheck := State.ieCheck_of_mode hmode
    have htrap : ∀ effect, s.conclude s.ieCheck effect = .next (s.takeTrap 1 1 s.pc) := fun effect => by
      rw [hcheck]
      rfl
    rcases hi with rfl | rfl | rfl | rfl <;> exact htrap _
  · have hcheck := State.supervisorCheck_of_not hs
    have htrap : ∀ rest effect, s.conclude (Verdict.first (s.supervisorCheck :: rest)) effect =
        .next (s.takeTrap 1 1 s.pc) := fun rest effect => by
      rw [hcheck]
      rfl
    rcases hi with rfl | rfl | rfl | rfl | ⟨rfl, heven⟩ | ⟨m, hform⟩
    · exact exec_of_moveForm_priv rfl rfl (hevent _ rfl) hs
    · exact htrap _ _
    · exact htrap _ _
    · change s.conclude s.supervisorCheck _ = _
      rw [hcheck]
      rfl
    · exact exec_of_moveForm_priv rfl (by simp [Instr.wellFormed, Instr.pairs, Instr.quads, pairEven, heven])
        (hevent _ rfl) hs
    · rw [exec_of_cacheForm_index hform, State.execCache]
      exact htrap _ _
  · have hrunning : (s.cvmn == 0) = false := by simpa using hcvmn
    change execRfh s = _
    rw [execRfh, hvirt, hrunning]
    rfl

end Sys2Proof.Machine
end
section
/-! PROOFS. Bad operands: ill-formed specifiers (60_exceptions R829, 93_implementation_defined U13), and the offsets that
a move of core registers may not name (42_system_instructions R455, R456, 46_virtualization R726). -/

namespace Sys2Proof.Machine

variable {s : State} {i : Instr} {v w : Verdict} {a b : Bool}

/-! ## The checks of the specifiers (60_exceptions R829) -/

/-- What the check of an ill-formed specifier comes to. -/
def State.badOperand (s : State) (r : Reg) : Verdict :=
  if s.cfg.hasOpdTrap then .trap 2 3 else .refuse (.badOperand r)

theorem State.badOperand_cases (s : State) (r : Reg) :
    s.badOperand r = .trap 2 3 ∨ s.badOperand r = .refuse (.badOperand r) := by
  unfold State.badOperand
  split <;> simp

/-- A bad operand leaves nothing of the instruction's effect. -/
theorem State.conclude_badOperand (r : Reg) (effect : State) :
    s.conclude (s.badOperand r) effect = s.conclude (s.badOperand r) s := by
  rcases s.badOperand_cases r with h | h <;> rw [h] <;> rfl

/-- A bad operand decides, whatever checks stand behind it. -/
theorem State.first_badOperand (r : Reg) (rest : List Verdict) :
    Verdict.first (s.badOperand r :: rest) = s.badOperand r :=
  Verdict.first_append (vs := []) (by rcases s.badOperand_cases r with h | h <;> simp [h]) (by simp)

/-- `v` checks specifiers that are well formed exactly if `a` holds. -/
def State.Specifiers (s : State) (a : Bool) (v : Verdict) : Prop :=
  (a = true → v = .go) ∧ (a = false → ∃ r, v = s.badOperand r)

theorem State.Specifiers.go : s.Specifiers true .go := ⟨fun _ => rfl, nofun⟩

theorem State.Specifiers.operandCheck (s : State) (a : Bool) (r : Reg) : s.Specifiers a (s.operandCheck a r) := by
  cases a with
  | true => exact .go
  | false => exact ⟨nofun, fun _ => ⟨r, rfl⟩⟩

theorem State.Specifiers.pairCheck (s : State) (r : Reg) : s.Specifiers ([r].all pairEven) (s.pairCheck r) := by
  rw [List.all_cons, List.all_nil, Bool.and_true]
  exact .operandCheck s _ r

theorem State.Specifiers.quadCheck (s : State) (r : Reg) : s.Specifiers ([r].all quadAligned) (s.quadCheck r) := by
  rw [List.all_cons, List.all_nil, Bool.and_true]
  exact .operandCheck s _ r

theorem State.Specifiers.modeCheck (s : State) (m : MemOp) : s.Specifiers (m.pairs.all pairEven) (s.modeCheck m) := by
  cases m with
  | circ r | rev r => exact .pairCheck s r
  | abs | off | long | post | pre => exact .go

theorem State.Specifiers.placeCheck (s : State) (p : Place) :
    s.Specifiers (p.pairs.all pairEven && p.quads.all quadAligned) (s.placeCheck p) := by
  cases p with
  | e r | p r =>
    rw [Place.quads, List.all_nil, Bool.and_true]
    exact .pairCheck s r
  | q r => exact .quadCheck s r
  | d | a => exact .go

/-- Two checks of specifiers of which one fails decide what stands behind them. -/
theorem State.Specifiers.first_two (hv : s.Specifiers a v) (hw : s.Specifiers b w) (h : (a && b) = false) :
    ∃ r, ∀ rest, Verdict.first (v :: w :: rest) = s.badOperand r := by
  cases a with
  | false =>
    obtain ⟨r, rfl⟩ := hv.2 rfl
    exact ⟨r, fun _ => State.first_badOperand r _⟩
  | true =>
    obtain ⟨r, rfl⟩ := hw.2 h
    rw [hv.1 rfl]
    exact ⟨r, fun rest => State.first_badOperand r rest⟩

theorem State.Specifiers.pairChecks (s : State) (rs : List Reg) :
    s.Specifiers (rs.all pairEven) (Verdict.first (rs.map s.pairCheck)) := by
  refine ⟨s.pairChecks_go, fun h => ?_⟩
  induction rs with
  | nil => cases h
  | cons r rs ih =>
    rw [List.all_cons] at h
    cases hr : pairEven r with
    | true =>
      rw [List.map_cons, State.pairCheck_go hr, Verdict.first_cons_go]
      exact ih (by simpa [hr] using h)
    | false =>
      obtain ⟨q, hq⟩ := (State.Specifiers.pairCheck s r).2 (by simp [hr])
      rw [List.map_cons, hq]
      exact ⟨q, State.first_badOperand q _⟩

/-! ## The instructions with ill-formed specifiers -/

/-- The instruction ends on a bad operand. -/
def State.StopsOnOperand (s : State) (i : Instr) : Prop := ∃ r, exec i s = s.conclude (s.badOperand r) s

/-- A bad operand presents nothing to the bus. -/
theorem State.issued_badOperand (x : Access) (r : Reg) : s.issued x (s.badOperand r) = s :=
  State.issued_of_ne (by rcases s.badOperand_cases r with h | h <;> simp [h]) x

theorem State.stops_load {f : MemForm} (hform : loadForm i = some f) (h : i.wellFormed = false) :
    s.StopsOnOperand i := by
  obtain ⟨put, he, -, hpairs, hquads⟩ := exec_of_loadForm hform s
  rw [Instr.wellFormed, hpairs, hquads, List.all_append, Bool.and_right_comm] at h
  obtain ⟨r, hr⟩ := (State.Specifiers.placeCheck s f.place).first_two (.modeCheck s f.mem) h
  refine ⟨r, he.trans ?_⟩
  unfold State.execLoad
  simp only [List.cons_append, List.nil_append, hr, State.issued_badOperand, State.conclude_badOperand]

/-- Every store has the specifiers of its mode and of its source. -/
theorem exec_of_storeForm {f : MemForm} (h : storeForm i = some f) (s : State) : ∃ value,
    exec i s = s.execStore f.len f.mem f.size f.align (s.placeCheck f.place) f.place.addrRegs value ∧
      i.pairs = f.mem.pairs ++ f.place.pairs ∧ i.quads = f.place.quads := by
  cases i with
  | stBAbs | stBOff | stBPost | stBPre | stBRev | stBCirc | stBLong | stHAbs | stHOff | stHPost | stHPre | stHRev
    | stHCirc | stHLong | stWAbs | stWOff | stWPost | stWPre | stWRev | stWCirc | stWLong | stW16 | stAAbs | stAOff
    | stAPost | stAPre | stARev | stACirc | stALong | stDAbs | stDOff | stDPost | stDPre | stDRev | stDCirc | stDaAbs
    | stDaOff | stDaPost | stDaPre | stDaRev | stDaCirc =>
    cases h
    exact ⟨_, rfl, rfl, rfl⟩
  | stDd mem a =>
    cases h
    exact ⟨_, rfl, (List.append_nil _).symm, rfl⟩
  | _ => cases h

theorem State.stops_store {f : MemForm} (hform : storeForm i = some f) (h : i.wellFormed = false) :
    s.StopsOnOperand i := by
  obtain ⟨value, he, hpairs, hquads⟩ := exec_of_storeForm hform s
  rw [Instr.wellFormed, hpairs, hquads, List.all_append, Bool.and_assoc, Bool.and_comm] at h
  obtain ⟨r, hr⟩ := (State.Specifiers.placeCheck s f.place).first_two (.modeCheck s f.mem) h
  refine ⟨r, he.trans ?_⟩
  unfold State.execStore
  simp only [hr, State.conclude_badOperand]

/-- The pair specifiers of an atomic read-modify-write beside its mode's. -/
def RmwForm.pairs (f : RmwForm) : List Reg :=
  match f.kind with
  | .swap => []
  | .ldmst => [f.reg]
  | .swapmsk => [f.reg]
  | .cmpswap => [f.reg]

/-- The check of the register of an atomic read-modify-write. -/
def State.rmwCheck (s : State) (f : RmwForm) : Verdict :=
  match f.kind with
  | .swap => .go
  | .ldmst => s.pairCheck f.reg
  | .swapmsk => s.pairCheck f.reg
  | .cmpswap => s.pairCheck f.reg

theorem State.Specifiers.rmwCheck (s : State) (f : RmwForm) :
    s.Specifiers (f.pairs.all pairEven) (s.rmwCheck f) := by
  obtain ⟨len, mem, kind, reg⟩ := f
  cases kind with
  | swap => exact .go
  | ldmst | swapmsk | cmpswap => exact .pairCheck s reg

/-- Every atomic read-modify-write has the specifiers of its mode and of its register pair. -/
theorem exec_of_rmwForm {f : RmwForm} (h : rmwForm i = some f) (s : State) : ∃ new ret,
    exec i s = s.execRmw f.len f.mem 4 4 (s.rmwCheck f) new ret ∧ i.pairs = f.mem.pairs ++ f.pairs ∧ i.quads = [] := by
  cases i with
  | swapWOff _ _ a | swapWPost _ _ a | swapWPre _ _ a | swapWRev _ a | swapWCirc _ _ a | swapWAbs _ a =>
    cases h
    exact ⟨_, _, show s.swapW _ _ a = _ from rfl, (List.append_nil _).symm, rfl⟩
  | ldmstOff _ _ a | ldmstPost _ _ a | ldmstPre _ _ a | ldmstRev _ a | ldmstCirc _ _ a | ldmstAbs _ a =>
    cases h
    exact ⟨_, _, show s.ldmst _ _ a = _ from rfl, rfl, rfl⟩
  | swapmskWOff _ _ a | swapmskWPost _ _ a | swapmskWPre _ _ a | swapmskWRev _ a | swapmskWCirc _ _ a =>
    cases h
    exact ⟨_, _, show s.swapmskW _ _ a = _ from rfl, rfl, rfl⟩
  | cmpswapWOff _ _ a | cmpswapWPost _ _ a | cmpswapWPre _ _ a | cmpswapWRev _ a | cmpswapWCirc _ _ a =>
    cases h
    exact ⟨_, _, show s.cmpswapW _ _ a = _ from rfl, rfl, rfl⟩
  | _ => cases h

theorem State.stops_rmw {f : RmwForm} (hform : rmwForm i = some f) (h : i.wellFormed = false) :
    s.StopsOnOperand i := by
  obtain ⟨new, ret, he, hpairs, hquads⟩ := exec_of_rmwForm hform s
  rw [Instr.wellFormed, hpairs, hquads, List.all_append, List.all_nil, Bool.and_true, Bool.and_comm] at h
  obtain ⟨r, hr⟩ := (State.Specifiers.rmwCheck s f).first_two (.modeCheck s f.mem) h
  refine ⟨r, he.trans ?_⟩
  unfold State.execRmw
  simp only [hr, State.issued_badOperand, State.conclude_badOperand]

theorem State.execFpu_badOperand (r : Reg) (op : FpuOp) (res : FpResult) (flags : Word → Word) (put : State → State) :
    s.execFpu op (s.badOperand r) res flags put = s.conclude (s.badOperand r) s := by
  unfold State.execFpu
  rw [State.first_badOperand]
  rcases s.badOperand_cases r with h | h <;> rw [h]

theorem State.execMove_badOperand (r : Reg) (off : BitVec 16) (pair write : Bool)
    (writes : State → List (Option Csfr × Word)) (effect : State → State) :
    s.execMove off pair write (s.badOperand r) writes effect = s.conclude (s.badOperand r) s := by
  unfold State.execMove
  rcases s.badOperand_cases r with h | h <;> rw [h]

theorem State.stops_dp {c : Reg} {rs : List Reg} {src1 src2 src3 : Option Nat} {res : FpResult}
    (he : exec i s = s.execDp c rs src1 src2 src3 res) (hpairs : i.pairs = c :: rs) (hquads : i.quads = [])
    (h : i.wellFormed = false) : s.StopsOnOperand i := by
  rw [Instr.wellFormed, hpairs, hquads, List.all_nil, Bool.and_true] at h
  obtain ⟨r, hr⟩ := (State.Specifiers.pairChecks s (c :: rs)).2 h
  exact ⟨r, by rw [he, State.execDp, hr, State.execFpu_badOperand]⟩

theorem State.stops_dpWord {c : Reg} {rs : List Reg} {src1 src2 : Option Nat} {res : FpResult}
    (he : exec i s = s.execDpWord c rs src1 src2 res) (hpairs : i.pairs = rs) (hquads : i.quads = [])
    (h : i.wellFormed = false) : s.StopsOnOperand i := by
  rw [Instr.wellFormed, hpairs, hquads, List.all_nil, Bool.and_true] at h
  obtain ⟨r, hr⟩ := (State.Specifiers.pairChecks s rs).2 h
  exact ⟨r, by rw [he, State.execDpWord, hr, State.execFpu_badOperand]⟩

/-- An instruction with one pair specifier is ill formed exactly if this one is odd. -/
theorem State.pairCheck_bad {r : Reg} (hpairs : i.pairs = [r]) (hquads : i.quads = []) (h : i.wellFormed = false) :
    ∃ q, s.pairCheck r = s.badOperand q := by
  rw [Instr.wellFormed, hpairs, hquads, List.all_nil, Bool.and_true] at h
  exact (State.Specifiers.pairCheck s r).2 h

/-- Every ill-formed instruction ends on a bad operand. -/
theorem stopsOnOperand (s : State) (h : i.wellFormed = false) : s.StopsOnOperand i := by
  cases hload : loadForm i with
  | some f => exact State.stops_load hload h
  | none =>
  cases hstore : storeForm i with
  | some f => exact State.stops_store hstore h
  | none =>
  cases hrmw : rmwForm i with
  | some f => exact State.stops_rmw hrmw h
  | none =>
  cases i with
  | extrUReg c a d =>
    obtain ⟨r, hr⟩ := State.pairCheck_bad (s := s) rfl rfl h
    refine ⟨r, ?_⟩
    change s.conclude (s.pairCheck d) _ = _
    rw [hr, State.conclude_badOperand]
  | mfdcr | mtdcr =>
    obtain ⟨r, hr⟩ := State.pairCheck_bad (s := s) rfl rfl h
    refine ⟨r, ?_⟩
    change s.execMove _ _ _ (s.pairCheck _) _ _ = _
    rw [hr, State.execMove_badOperand]
  | addDf | subDf | mulDf | divDf | maddDf | msubDf | qseedDf | dftol | dftolz | dftoul | dftoulz | ltodf =>
    exact State.stops_dp rfl rfl rfl h
  | cmpDf | dftoi | dftoin | dftoiz | dftou | dftouz => exact State.stops_dpWord rfl rfl rfl h
  | _ => cases hload <;> cases hstore <;> cases hrmw <;> cases h

/-! ## The offset of a move (42_system_instructions R455, 46_virtualization R726) -/

section Move
variable {off : BitVec 16} {pair write : Bool}

theorem State.moveRegs_all_none (s : State) (off : BitVec 16) (pair : Bool) :
    (s.moveRegs off pair).all Option.isNone = true ↔
      s.moveReg off (moveOffset off) = none ∧ (pair = true → s.moveReg off (moveOffset off + 4) = none) := by
  cases pair <;> simp [State.moveRegs]

/-- The word of HVCSFR: the offset, and bit 31 for a write. -/
theorem hvCsfr_eq (off : BitVec 16) (write : Bool) :
    hvCsfr off write = .hv 4 ((if write then 0x80000000#32 else 0) ||| off.setWidth 32) := by
  have hword : BitVec.ofBool write ++ 0#15 ++ off = (if write then 0x80000000#32 else 0) ||| off.setWidth 32 := by
    rw [BitVec.append_def, BitVec.setWidth'_eq]
    exact congrArg (· ||| off.setWidth 32) (by cases write <;> decide)
  exact congrArg (Verdict.hv 4) hword

/-- The hypervisor owns an offset of the move. -/
def State.moveOwned (s : State) (off : BitVec 16) (pair write : Bool) : Bool :=
  s.hvOwned (moveOffset off) write || (pair && s.hvOwned (moveOffset off + 4) write)

/-- The move is of a pair of which one register exists, where the configuration takes that as OPD. -/
def State.moveHalf (s : State) (off : BitVec 16) (pair : Bool) : Bool :=
  pair && s.cfg.halfPairOpd && (s.moveRegs off pair).any Option.isNone

theorem State.moveOwned_iff (s : State) (off : BitVec 16) (pair write : Bool) : s.moveOwned off pair write = true ↔
    s.hvOwned (moveOffset off) write = true ∨ (pair = true ∧ s.hvOwned (moveOffset off + 4) write = true) := by
  simp [State.moveOwned]

theorem State.moveHalf_iff (s : State) (off : BitVec 16) (pair : Bool) : s.moveHalf off pair = true ↔
    pair = true ∧ s.cfg.halfPairOpd = true ∧
      (s.moveReg off (moveOffset off) = none ∨ s.moveReg off (moveOffset off + 4) = none) := by
  cases pair <;> simp [State.moveHalf, State.moveRegs]

/-- A move whose selector or alignment is wrong. -/
theorem State.offsetAligned_eq_false_iff (s : State) (off : BitVec 16) (pair : Bool) :
    s.offsetAligned off pair = false ↔
      (if s.virtOn = true ∧ s.res = .hv then off.extractLsb' 0 2 = 3 else off.extractLsb' 0 2 ≠ 0) ∨
        (pair = true ∧ off.getLsbD 2 = true) := by
  rw [State.offsetAligned, Bool.and_eq_false_iff]
  by_cases h : s.virtOn = true ∧ s.res = .hv
  · simp [h]
  · have hown : (s.virtOn && s.res == .hv) = false := by simpa using h
    simp [h, hown]

/-- The offset checks of a move in their order. -/
theorem State.offsetCheck_eq (s : State) (off : BitVec 16) (pair write : Bool) : s.offsetCheck off pair write =
    if s.guest = true ∧ ((s.moveRegs off pair).all Option.isNone = true ∨ s.moveOwned off pair write = true) then
      hvCsfr off write
    else if s.offsetAligned off pair = true ∧ (s.moveRegs off pair).all Option.isNone = false ∧
        s.moveHalf off pair = false ∧ ¬ (s.cvmn ≠ 0 ∧ hyperOffset (moveOffset off) = true) then .go
    else opdCsfr := by
  change Verdict.first
    [.need (!(s.guest && ((s.moveRegs off pair).all Option.isNone || s.moveOwned off pair write))) (hvCsfr off write),
      .need (s.offsetAligned off pair) opdCsfr,
      .need (!(s.moveRegs off pair).all Option.isNone && !s.moveHalf off pair) opdCsfr,
      .need (!(s.cvmn != 0 && hyperOffset (moveOffset off))) opdCsfr] = _
  simp only [Verdict.first_need (show hvCsfr off write ≠ .go from nofun),
    Verdict.first_need (show opdCsfr ≠ .go from nofun), Verdict.first_nil]
  grind

/-- A move that its checks stop. -/
theorem exec_of_moveForm_stopped (hform : moveForm i = some (off, pair, write)) (hwf : i.wellFormed = true)
    (he : s.NoMoveEvent off) (hmode : write = true → s.supervisor = true)
    (h : s.offsetCheck off pair write = v) (hv : v ≠ .go) : ∃ effect, exec i s = s.conclude v effect := by
  obtain ⟨writes, effect, hcourse⟩ := moveCourse hform hwf
  have hpriv : (!write || s.supervisor) = true := by
    cases write with
    | false => rfl
    | true => exact hmode rfl
  refine ⟨_, (hcourse.exec_running he.before_eq).trans (congrArg (s.conclude · _) ?_)⟩
  rw [State.moveVerdict, hpriv, h]
  exact Verdict.first_append (vs := [.go]) hv (by simp)

/-- A closed register takes no write (42 R456). -/
theorem exec_mtcr_closed {r : Reg} {x : Csfr} (he : s.NoMoveEvent off) (hs : s.supervisor = true)
    (hoff : s.offsetCheck off false true = .go) (hx : s.moveReg off (moveOffset off) = some x)
    (hclosed : s.closed x = true) :
    exec (.mtcr off r) s = .next (if s.cfg.protWriteOpd then s.takeTrap 2 3 s.pc else s.advance 4) := by
  have hwrite : s.writeCheck off [(some x, s.getD r)] = if s.cfg.protWriteOpd then opdCsfr else .go := by
    simp only [State.writeCheck, Verdict.first_need (show opdCsfr ≠ .go from nofun),
      Verdict.first_need (show Verdict.refuse (.reservedField off) ≠ .go from nofun), Verdict.first_nil]
    cases s.cfg.protWriteOpd <;> simp [hclosed]
  change s.execMove off false true .go (fun t => [(t.moveReg off (moveOffset off), t.getD r)])
    (fun t => t.movePut (t.moveRes off) (t.moveReg off (moveOffset off)) (t.getD r)) = _
  cases hopd : s.cfg.protWriteOpd with
  | true =>
    rw [hopd] at hwrite
    unfold State.execMove
    simp only [he.before_eq, hs, hoff, hx, hwrite]
    rfl
  | false =>
    have hput : s.movePut (s.moveRes off) (some x) (s.getD r) = s := by
      simp [State.movePut, State.moveWrite, hclosed]
    rw [hopd] at hwrite
    rw [State.execMove_write he hs hoff (by rw [hx]; exact hwrite) (by rw [hx, hput]), hx, hput]
    rfl

end Move

/-! ## Bad operands (60_exceptions R829, 42_system_instructions R455, R456) -/

/-- Settles O41: the specifiers are checked first; of a move then the offset, then what is written. -/
theorem operandTraps : Obligations.operand_traps := by
  unfold Obligations.operand_traps
  intro s i
  refine ⟨fun hwf hopd => ?_, fun hwf hopd => ?_, ?_, ?_⟩
  · obtain ⟨r, hr⟩ := stopsOnOperand s hwf
    rw [hr, State.badOperand, if_pos hopd]
    rfl
  · obtain ⟨r, hr⟩ := stopsOnOperand s hwf
    refine ⟨r, ?_⟩
    rw [hr, State.badOperand, if_neg (by simp [hopd])]
    rfl
  · intro off pair write hform hwf he hmode o absent half owned misplaced
    have habsent : (s.moveRegs off pair).all Option.isNone = true ↔ absent := s.moveRegs_all_none off pair
    have howned : s.moveOwned off pair write = true ↔ owned := s.moveOwned_iff off pair write
    have hhv : s.guest = true ∧ ((s.moveRegs off pair).all Option.isNone = true ∨ s.moveOwned off pair write = true) ↔
        s.guest = true ∧ (absent ∨ owned) := by rw [habsent, howned]
    have hcheck := s.offsetCheck_eq off pair write
    refine ⟨fun hg h => ?_, fun hno hopd => ?_⟩
    · rw [if_pos (hhv.mpr ⟨hg, h⟩)] at hcheck
      obtain ⟨effect, hexec⟩ := exec_of_moveForm_stopped hform hwf he hmode hcheck nofun
      rw [hexec, hvCsfr_eq]
      rfl
    · have hfails : ¬ (s.offsetAligned off pair = true ∧ (s.moveRegs off pair).all Option.isNone = false ∧
          s.moveHalf off pair = false ∧ ¬ (s.cvmn ≠ 0 ∧ hyperOffset (moveOffset off) = true)) := by
        rintro ⟨haligned, hexists, hwhole, hhyper⟩
        rcases hopd with h | h | h | h
        · rw [(s.offsetAligned_eq_false_iff off pair).mpr h] at haligned
          cases haligned
        · rw [habsent.mpr h] at hexists
          cases hexists
        · rw [(s.moveHalf_iff off pair).mpr h] at hwhole
          cases hwhole
        · exact hhyper h
      rw [if_neg (hhv.not.mpr hno), if_neg hfails] at hcheck
      obtain ⟨effect, hexec⟩ := exec_of_moveForm_stopped hform hwf he hmode hcheck nofun
      exact hexec
  · intro r off x hi he hs hg h0 hhyper hx hclosed
    subst hi
    have ho : moveOffset off = off.toNat := moveOffset_aligned h0
    rw [← ho] at hg hhyper hx
    have hoff : s.offsetCheck off false true = .go :=
      State.offsetCheck_write (.inl ⟨h0, rfl⟩) hhyper hg nofun (by simp [State.moveRegs, hx])
    exact exec_mtcr_closed he hs hoff hx hclosed

end Sys2Proof.Machine
end
